-- ==== Sys2Proof/Word.lean ====
section
/-! DEFINITION. The word types of the 7340: one character of a frame, and a total kept modulo 2^32. -/

namespace Sys2Proof

/-- One character of a Plant Line frame (spec/11 11.1). -/
abbrev Byte := BitVec 8

/-- A mass or a total kept modulo 4,294,967,296 (R1, R62, R65): masses in 0.1 kg. -/
abbrev Word := BitVec 32

end Sys2Proof
end

