-- ==== Sys2Proof/Config.lean ====
section
/-! DEFINITION. What every 7340 fixes (the capacities of R182 and the intervals the rules name) and the two free values. -/

namespace Sys2Proof.Config

/-- R2: places of the Lot Table. -/
def lotPlaces : Nat := 64
/-- R62: records of the Charge Pool. -/
def chargePlaces : Nat := 40
/-- R71: places of each pile. -/
def pilePlaces : Nat := 8
/-- R130: places of the Ticket Store. -/
def storePlaces : Nat := 192
/-- R109: entries of each recent-bale list. -/
def recentPlaces : Nat := 16
/-- R30: entries of the channel exception list. -/
def exceptionPlaces : Nat := 16
/-- R110: entries of a bale's content list. -/
def contentPlaces : Nat := 4
/-- spec/09 9.2: frames of the Forward queue up. -/
def forwardUpPlaces : Nat := 32
/-- spec/09 9.2: frames of the Forward queue down. -/
def forwardDownPlaces : Nat := 16
/-- spec/09 9.2: frames of the Own queue up. -/
def ownUpPlaces : Nat := 8
/-- spec/09 9.2: frames of the Own queue down. -/
def ownDownPlaces : Nat := 8
/-- R161: a frame that is not a safety frame is queued only below this many frames. -/
def ownDownOrdinary : Nat := 6
/-- R174: Requests of the request queue. -/
def requestPlaces : Nat := 4
/-- R178: seconds after which open staging is discarded. -/
def stagingSeconds : Nat := 10
/-- R171: the top at which a line counter holds. -/
def counterTop : Nat := 4294967295
/-- R132: one above the last serial. -/
def serialEnd : Nat := 4294967296
/-- R168, R170: own frames sent in a row while a Forward frame waits. -/
def ownRunTop : Nat := 3
/-- R133: StoreLow is latched below this many free places. -/
def storeLow : Nat := 16
/-- R149, R146: a fire count holds here; R96: a proving count; R30: a raise count. -/
def byteTop : Nat := 255

/-- FREE VALUE (log 12): R25 makes the increment the new total minus the baseline and R20 holds it in
signed 32 bits; where the difference does not fit, the spec states no value. -/
opaque openIncrement : Int → Int → Word

/-- FREE VALUE (log 13): the bytes sent for a value that does not fit the width spec/11 gives its field. -/
opaque openBytes : Nat → Int → Nat

end Sys2Proof.Config
end

