-- ==== Sys2Proof/Syntax.lean ====
section
/-! DEFINITION. The commands the 7340 takes: one constructor for each row of spec/opcode_table.json.
A row that is a request executes the Request at the head of the request queue (R174), so it carries no
operands of its own (log 3); a row that is one of the part's own events names the unit it happens at. -/

namespace Sys2Proof

/-- The picking lines P1 and P2 (spec/00, Unit numbering). -/
inductive PickerId where
  | p1 | p2
  deriving DecidableEq, Repr

/-- The kilns K1 to K6. -/
inductive KilnId where
  | k1 | k2 | k3 | k4 | k5 | k6
  deriving DecidableEq, Repr

/-- The presses B1 and B2, each with its pile F1 or F2 (pile Fn feeds press Bn). -/
inductive PressId where
  | b1 | b2
  deriving DecidableEq, Repr

/-- A unit: a picking line, a kiln or a press (spec/00, Terms). -/
inductive UnitId where
  | picker (p : PickerId)
  | kiln (k : KilnId)
  | press (b : PressId)
  deriving DecidableEq, Repr

/-- The two stations a kiln injects to (R92). -/
inductive HeatTarget where
  | burner | fan
  deriving DecidableEq, Repr

/-- One command of the block. -/
inductive Instr where
  /-- POWER_ON (R173). -/
  | powerOn
  /-- YARD_RESET (R104). -/
  | yardReset (order : List UnitId)
  /-- U_PORT_FRAME_RECEIVED (R163). -/
  | uPortFrameReceived (chars : List Byte)
  /-- F_PORT_FRAME_RECEIVED (R165). -/
  | fPortFrameReceived (chars : List Byte)
  /-- STALE_EXPIRY (R22). -/
  | staleExpiry (station channel : Nat)
  /-- SELF_POLL_DUE (R31). -/
  | selfPollDue (station channel : Nat)
  /-- F_PORT_TRANSMIT (R168). -/
  | fPortTransmit
  /-- POLL_WINDOW_OPEN (R169). -/
  | pollWindowOpen
  /-- NO_REPLY_POLL (R169). -/
  | noReplyPoll
  /-- U_PORT_TRANSMIT (R170). -/
  | uPortTransmit
  /-- REQUEST_BAD_FORM (R185). -/
  | requestBadForm
  /-- TABLE_READ (R176). -/
  | tableRead
  /-- TABLE_WRITE_PLAIN (R177). -/
  | tableWritePlain
  /-- TABLE_WRITE_STAGED (R178). -/
  | tableWriteStaged
  /-- STAGING_TIMEOUT (R178). -/
  | stagingTimeout
  /-- LINE_STATUS (R181). -/
  | lineStatus
  /-- LINE_RESET (R183). -/
  | lineReset (order : List UnitId)
  /-- IDENTIFY (R182). -/
  | identify
  /-- CLOCK_SET (R180). -/
  | clockSet
  /-- LOT_DECLARE (R3). -/
  | lotDeclare
  /-- LOT_CLOSE (R4). -/
  | lotClose
  /-- LOT_REMOVE (R5). -/
  | lotRemove
  /-- LOT_QUERY (R6). -/
  | lotQuery
  /-- SAMPLE_QUERY (R34). -/
  | sampleQuery
  /-- EXCEPTION_READ (R34). -/
  | exceptionRead
  /-- CLEARANCE_QUIET_END (R44). -/
  | clearanceQuietEnd (picker : PickerId)
  /-- CLEARANCE_LIMIT (R44). -/
  | clearanceLimit (picker : PickerId)
  /-- OPENING_ATTEMPT (R48). -/
  | openingAttempt (picker : PickerId) (offer : Option KilnId)
  /-- OPENING_RETRY (R47). -/
  | openingRetry (picker : PickerId)
  /-- PICKER_START (R54). -/
  | pickerStart
  /-- PICKER_STOP (R55). -/
  | pickerStop
  /-- PICKER_HOLD (R56). -/
  | pickerHold
  /-- PICKER_RELEASE (R56). -/
  | pickerRelease
  /-- CHARGE_CLOSE (R57). -/
  | chargeClose
  /-- PICKER_ASSIGN (R58). -/
  | pickerAssign
  /-- PICKER_QUERY (R59). -/
  | pickerQuery
  /-- FLOOR_QUERY (R79). -/
  | floorQuery
  /-- CHARGE_QUERY (R80). -/
  | chargeQuery
  /-- DROP_START_RETRY (R69). -/
  | dropStartRetry (kiln : KilnId)
  /-- PILEFULL_RETRY (R71). -/
  | pilefullRetry (kiln : KilnId)
  /-- DROP_TIMEOUT (R74). -/
  | dropTimeout (kiln : KilnId)
  /-- GATE_CLOSE_OWED_QUEUED (R75). -/
  | gateCloseOwedQueued (kiln : KilnId)
  /-- AWAITING_OVERDUE (R87). -/
  | awaitingOverdue (kiln : KilnId)
  /-- STAGE_END (R89). -/
  | stageEnd (kiln : KilnId)
  /-- TIMED_DRY_END (R90). -/
  | timedDryEnd (kiln : KilnId)
  /-- INJECTION_REFRESH (R92). -/
  | injectionRefresh (kiln : KilnId)
  /-- INJECTION_OWED_QUEUED (R92). -/
  | injectionOwedQueued (kiln : KilnId) (target : HeatTarget)
  /-- BAND_EXCURSION_DECIDED (R93). -/
  | bandExcursionDecided (kiln : KilnId)
  /-- CYCLE_NOW (R88). -/
  | cycleNow
  /-- KILN_RELEASE (R94). -/
  | kilnRelease
  /-- KILN_MODE (R95). -/
  | kilnMode
  /-- CYCLE_RESUME (R101). -/
  | cycleResume
  /-- KILN_QUERY (R103). -/
  | kilnQuery
  /-- PERMIT_STAGE (R96). -/
  | permitStage
  /-- PERMIT_RENEW_ODD (R97). -/
  | permitRenewOdd
  /-- PERMIT_RENEW_EVEN (R97). -/
  | permitRenewEven
  /-- PERMIT_CONFIRM (R98). -/
  | permitConfirm
  /-- PERMIT_WITHDRAW (R99). -/
  | permitWithdraw
  /-- PERMIT_TIMER_EXPIRY (R97). -/
  | permitTimerExpiry (kiln : KilnId)
  /-- FILL_START (R111). -/
  | fillStart (press : PressId)
  /-- PILE_FEED_RUN_OWED_QUEUED (R112). -/
  | pileFeedRunOwedQueued (press : PressId)
  /-- COAST_END (R117). -/
  | coastEnd (press : PressId)
  /-- PHASE_ORDER_OWED_QUEUED (R118). -/
  | phaseOrderOwedQueued (press : PressId)
  /-- PHASE_TIMEOUT (R119). -/
  | phaseTimeout (press : PressId)
  /-- WEIGH_WINDOW_END (R120). -/
  | weighWindowEnd (press : PressId)
  /-- PRESS_NOW (R115). -/
  | pressNow
  /-- PRESS_CLEAR (R122). -/
  | pressClear
  /-- PRESS_AUTO (R123). -/
  | pressAuto
  /-- PRESS_REWEIGH (R124). -/
  | pressReweigh
  /-- REWEIGH_REPLY_QUEUED (R124). -/
  | reweighReplyQueued (press : PressId)
  /-- PRESS_QUERY (R125). -/
  | pressQuery
  /-- TICKET_BASE (R131). -/
  | ticketBase
  /-- TICKET_FETCH (R137). -/
  | ticketFetch
  /-- TICKET_FRAME_QUEUE (R138). -/
  | ticketFrameQueue
  /-- FETCH_END_FRAME_QUEUED (R139). -/
  | fetchEndFrameQueued
  /-- TICKET_TAKE (R141). -/
  | ticketTake
  /-- TICKET_STATUS (R143). -/
  | ticketStatus
  /-- WATCH_PERSISTENCE_END (R148). -/
  | watchPersistenceEnd (watch : Nat)
  /-- NOTICE_FRAME_QUEUE (R155). -/
  | noticeFrameQueue
  /-- NOTICE_ENABLE (R156). -/
  | noticeEnable
  /-- NOTICE_CLEAR (R157). -/
  | noticeClear
  /-- NOTICE_READ (R158). -/
  | noticeRead
  /-- LINE_RESET_RESTORE_QUEUED (R172). -/
  | lineResetRestoreQueued (unit : UnitId)
  /-- F_PORT_TRANSMISSION_END (R168). -/
  | fPortTransmissionEnd
  deriving DecidableEq, Repr

end Sys2Proof
end

