-- ==== Sys2Proof/WellFormed.lean ====
section
/-! DEFINITION. Which command terms name something the spec has: field stations 2..126 (R162), channels 0..3 (R18),
watches 1..24 (R145), frames of at least one character (spec/11 11.1), and orders that list every unit once. -/

namespace Sys2Proof

/-- All ten units, in the order of spec/00's Unit numbering. -/
def allUnits : List UnitId :=
  [.picker .p1, .picker .p2, .kiln .k1, .kiln .k2, .kiln .k3, .kiln .k4, .kiln .k5, .kiln .k6, .press .b1, .press .b2]

/-- An order of the units: each of the ten exactly once. -/
def isUnitOrder (order : List UnitId) : Bool :=
  order.length == allUnits.length && allUnits.all fun u => order.contains u

/-- A field station address (R162). -/
def isStation (n : Nat) : Bool := 2 ≤ n && n ≤ 126

/-- A channel number (R18). -/
def isChannel (n : Nat) : Bool := n ≤ 3

/-- A watch number (R145). -/
def isWatch (n : Nat) : Bool := 1 ≤ n && n ≤ 24

/-- The well-formed commands. -/
def WellFormed : Instr → Bool
  | .yardReset order => isUnitOrder order
  | .lineReset order => isUnitOrder order
  | .uPortFrameReceived chars => !chars.isEmpty
  | .fPortFrameReceived chars => !chars.isEmpty
  | .staleExpiry st ch => isStation st && isChannel ch
  | .selfPollDue st ch => isStation st && isChannel ch
  | .watchPersistenceEnd n => isWatch n
  | .lineResetRestoreQueued u => match u with
    | .press _ => false
    | .picker _ => true
    | .kiln _ => true
  | .powerOn | .fPortTransmit | .pollWindowOpen | .noReplyPoll | .uPortTransmit | .requestBadForm | .tableRead
  | .tableWritePlain | .tableWriteStaged | .stagingTimeout | .lineStatus | .identify | .clockSet | .lotDeclare
  | .lotClose | .lotRemove | .lotQuery | .sampleQuery | .exceptionRead | .clearanceQuietEnd _ | .clearanceLimit _
  | .openingAttempt _ _ | .openingRetry _ | .pickerStart | .pickerStop | .pickerHold | .pickerRelease
  | .chargeClose | .pickerAssign | .pickerQuery | .floorQuery | .chargeQuery | .dropStartRetry _ | .pilefullRetry _
  | .dropTimeout _ | .gateCloseOwedQueued _ | .awaitingOverdue _ | .stageEnd _ | .timedDryEnd _
  | .injectionRefresh _ | .injectionOwedQueued _ _ | .bandExcursionDecided _ | .cycleNow | .kilnRelease | .kilnMode
  | .cycleResume | .kilnQuery | .permitStage | .permitRenewOdd | .permitRenewEven | .permitConfirm
  | .permitWithdraw | .permitTimerExpiry _ | .fillStart _ | .pileFeedRunOwedQueued _ | .coastEnd _
  | .phaseOrderOwedQueued _ | .phaseTimeout _ | .weighWindowEnd _ | .pressNow | .pressClear | .pressAuto
  | .pressReweigh | .reweighReplyQueued _ | .pressQuery | .ticketBase | .ticketFetch | .ticketFrameQueue
  | .fetchEndFrameQueued | .ticketTake | .ticketStatus | .noticeFrameQueue | .noticeEnable | .noticeClear
  | .noticeRead | .fPortTransmissionEnd => true

end Sys2Proof
end

