-- ==== Sys2Proof/Decode.lean ====
section
/-! DEFINITION. The table gives none of its 84 rows an encoding in bits ("fields" is empty in every row), so no word
spells a command. -/

namespace Sys2Proof

/-- The command that the low `nbits` bits of `w` spell: none, for every word. -/
def decodeTableWord (_nbits _w : Nat) : Option Instr := none

end Sys2Proof
end

