-- ==== Sys2Proof/Machine/State.lean ====
section
/-! DEFINITION. Everything the spec gives the 7340, as plain data, and its value at power-on. -/

namespace Sys2Proof.Machine

/-! ## Stops -/

/-- No rule of the spec stops the part, so no command ends in a fault: the type has no value. -/
inductive Fault where
  deriving DecidableEq, Repr

/-- Reasons for a refusal. -/
inductive Refusal where
  /-- Raised by `exec` alone, for a command whose meaning is not written (none is left). Safe. -/
  | notModelled (mnemonic : String)
  deriving DecidableEq, Repr

/-! ## Frames and queues (spec/09, spec/11) -/

/-- Frame kinds 1 to 7 (spec/11 11.1). -/
inductive FrameKind where
  | command | poll | report | request | reply | notice | ticket
  deriving DecidableEq, Repr

/-- A Plant Line frame without its length and check, which `frameChars` forms (spec/11 11.1). -/
structure Frame where
  dest : Nat
  src : Nat
  kind : FrameKind
  channel : Nat
  tag : Nat
  payload : List Byte
  deriving DecidableEq, Repr

/-- Station roles (R162). -/
inductive Role where
  | beltScale | wagonReader | feedDrive | distributor
  | burner | fan | airTemp | floorMoisture | dropScale | dropGate
  | pileFeed | pressHydraulics | fillScale | baleScale | baleMoisture
  | other
  deriving DecidableEq, Repr

/-- The class a frame from the host carries from its arrival (R160): role and unit of its destination. -/
structure StationClass where
  role : Role
  unit : Option UnitId
  deriving DecidableEq, Repr

/-- A frame of the Forward queue down with its class, or none (R160). -/
structure DownFrame where
  frame : Frame
  cls : Option StationClass
  deriving DecidableEq, Repr

/-- A frame of the Own queue down: whether it is a safety frame (R161) and whether it is an injection (R92). -/
structure OwnDown where
  frame : Frame
  safety : Bool
  injected : Bool
  deriving DecidableEq, Repr

/-- What put a frame into the Own queue up. `ticketFirst` is the first frame of a Bale pair and `ticket` the
frame whose transmission counts its serial as sent (R138, R188). -/
inductive UpOrigin where
  | reply
  | fetchEnd
  | notice
  | ticketFirst
  | ticket (serial : Nat)
  deriving DecidableEq, Repr

/-- A frame of the Own queue up. -/
structure OwnUp where
  frame : Frame
  origin : UpOrigin
  deriving DecidableEq, Repr

/-- The outstanding poll (R169); `window` is the reply window in ms it opened with. -/
structure Poll where
  station : Nat
  channel : Nat
  source : Nat
  opened : Nat
  window : Nat
  deriving DecidableEq, Repr

/-- The nine line counters (R171). -/
structure Counters where
  receivedU : Nat
  receivedF : Nat
  checkFailures : Nat
  forwardDrops : Nat
  misdirected : Nat
  overridden : Nat
  rewritten : Nat
  noReplyPolls : Nat
  requestOverruns : Nat
  deriving DecidableEq, Repr

/-- The line settings entry (R164): `broadcastPass` is broadcast Pass; the reply window is in ms. -/
structure LineSettings where
  broadcastPass : Bool
  replyWindow : Nat
  deriving DecidableEq, Repr

/-- The Line Interface (spec/09). `fSending` is the frame now leaving the F-port (R159, R168); `uTaken` the frame
last taken by the U-port transmitter (log 9). -/
structure Line where
  forwardUp : List Frame
  forwardDown : List DownFrame
  ownUp : List OwnUp
  ownDown : List OwnDown
  overflow : List OwnDown
  runUp : Nat
  runDown : Nat
  poll : Option Poll
  fSending : Option Frame
  uTaken : Option Frame
  counters : Counters
  settings : LineSettings
  deriving DecidableEq, Repr

/-! ## Management Agent (spec/10) -/

/-- The seven tables (spec/10 10.3). -/
inductive TableId where
  | station | pickerConfig | kilnConfig | schedule | pressConfig | watch | lineSettings
  deriving DecidableEq, Repr

/-- The staging buffer while open (R178); `content` holds the segments taken so far, in order. -/
structure Staging where
  table : TableId
  index : Nat
  next : Nat
  lastMoment : Nat
  content : List (List Byte)
  deriving DecidableEq, Repr

/-- The Management Agent: request queue, staging buffer (none: closed) and the write counts (R174, R178, R176).
A table entry's write count is kept under the key 128 × table code + index, unlisted while 0. -/
structure Agent where
  requests : List Frame
  staging : Option Staging
  writeCounts : List (Nat × Nat)
  deriving DecidableEq, Repr

/-- The count of elapsed seconds (spec/00 Time) and the yard clock with its set flag (R180). -/
structure Clock where
  elapsed : Nat
  yard : Nat
  yardSet : Bool
  deriving DecidableEq, Repr

/-! ## Stations and channels (spec/02, R162) -/

/-- A channel's kind (R18). -/
inductive ChannelKind where
  | level | runningTotal
  deriving DecidableEq, Repr

/-- A channel's mask set (R18). -/
structure MaskSet where
  low : Bool
  high : Bool
  fault : Bool
  stale : Bool
  deriving DecidableEq, Repr

/-- A channel descriptor (R18). -/
structure Descriptor where
  channel : Nat
  rangeLow : Int
  rangeHigh : Int
  window : Nat
  pollInterval : Nat
  mask : MaskSet
  kind : ChannelKind
  deriving DecidableEq, Repr

/-- A Station Table entry (R162). -/
structure StationEntry where
  present : Bool
  role : Role
  unit : Option UnitId
  descriptors : List Descriptor
  deriving DecidableEq, Repr

/-- The seven sample classes (spec/02 2.3). -/
inductive SampleClass where
  | normal | zero | low | high | fault | stale | absent
  deriving DecidableEq, Repr

/-- The class of a running total (spec/02 2.5). -/
inductive OperandClass where
  | good | low | high | fault
  deriving DecidableEq, Repr

/-- The total the next increment is taken from, with its class (R20, R25). -/
structure Baseline where
  total : Int
  cls : OperandClass
  deriving DecidableEq, Repr

/-- A last good value: `isZero` tells class Zero from class Normal (R20, R24). -/
structure GoodValue where
  value : Int
  isZero : Bool
  deriving DecidableEq, Repr

/-- A sample record (R20). `expired` holds from a Stale expiry to the next Report (R22, log 11); `pollDue` is the
moment the channel's self-poll timer falls due (R31). -/
structure Sample where
  cls : SampleClass
  value : Option Int
  lastGood : Option GoodValue
  lastReport : Option Nat
  substituted : Bool
  baseline : Option Baseline
  expired : Bool
  pollDue : Option Nat
  deriving DecidableEq, Repr

/-- An entry of the channel exception list (R30). -/
structure ExceptionEntry where
  station : Nat
  channel : Nat
  first : SampleClass
  latest : SampleClass
  count : Nat
  deriving DecidableEq, Repr

/-- The Station Table and the Channel Monitor. `stations` lists the entries that differ from the empty one, by
address; `samples` lists the sample records under 4 × station + channel. Keys rise strictly. -/
structure Channels where
  stations : List (Nat × StationEntry)
  samples : List (Nat × Sample)
  exceptions : List ExceptionEntry
  overflowed : Bool
  deriving DecidableEq, Repr

/-- What a consumer is given of a channel (R23). -/
structure View where
  cls : SampleClass
  value : Option Int
  substituted : Bool
  deriving DecidableEq, Repr

/-- An update (R29): the view, its cause (`report`, else expiry), and the Settled flag of a Report. -/
structure Update where
  view : View
  report : Bool
  settled : Bool
  deriving DecidableEq, Repr

/-- The outcome of comparing a view with a band (R28). -/
inductive BandOutcome where
  | inside | below | above | unordered
  deriving DecidableEq, Repr

/-! ## Watches and notices (spec/08) -/

/-- Watch states (R146). -/
inductive WatchState where
  | disabled | armed | pending | fired
  deriving DecidableEq, Repr

/-- A watch entry (R145); the clear set's bits are those of spec/11 11.2. -/
structure WatchEntry where
  enabled : Bool
  station : Nat
  channel : Nat
  low : Int
  high : Int
  negate : Bool
  persistence : Nat
  unorderedFires : Bool
  repeats : Bool
  clearSet : BitVec 16
  deriving DecidableEq, Repr

/-- A watch: its entry and its state (R145, R146). -/
structure Watch where
  entry : WatchEntry
  state : WatchState
  pendingStart : Option Nat
  fireCount : Nat
  lastFire : Option Nat
  lastOutcome : Option BandOutcome
  deriving DecidableEq, Repr

/-- The Notice Latch (R153): source n is bit n of each set (spec/11 11.2). -/
structure NoticeLatch where
  latched : BitVec 77
  enabled : BitVec 77
  sent : BitVec 77
  waiting : Bool
  deriving DecidableEq, Repr

/-! ## Lots and charges (spec/01, spec/04) -/

/-- Lot states (R1). -/
inductive LotState where
  | declared | active | closing | settled
  deriving DecidableEq, Repr

/-- A lot record without its number, which is its key (R1). -/
structure Lot where
  grower : Nat
  variety : Nat
  moistureOverride : Option Nat
  state : LotState
  opened : Word
  live : Nat
  bales : Nat
  green : Word
  dried : Word
  baleCount : Word
  netBaled : Word
  unweighed : Word
  reserved : Bool
  deriving DecidableEq, Repr

/-- Charge states (R64). -/
inductive ChargeState where
  | loading | loaded | dropping | piled
  deriving DecidableEq, Repr

/-- Close reasons (R52). -/
inductive CloseReason where
  | lotChange | full | hostClose | trip
  deriving DecidableEq, Repr

/-- Where a dried mass comes from (R75). -/
inductive DriedSource where
  | measured | estimated
  deriving DecidableEq, Repr

/-- A charge record in use, without its number, which is its key (R62). -/
structure Charge where
  lot : Nat
  picker : PickerId
  kiln : KilnId
  state : ChargeState
  green : Word
  reason : Option CloseReason
  cycles : Nat
  pile : Option PressId
  dried : Option Word
  source : Option DriedSource
  drawn : Option Word
  substituted : Bool
  timedOut : Bool
  timedDry : Bool
  interrupted : Bool
  deriving DecidableEq, Repr

/-- The Charge Pool and its next charge number (R62, R63). -/
structure Pool where
  records : List (Nat × Charge)
  next : Nat
  deriving DecidableEq, Repr

/-! ## Pickers (spec/03) -/

/-- Picker states (R38). -/
inductive PickerState where
  | stopped | running | clearing | held
  deriving DecidableEq, Repr

/-- Hold reasons (R36). -/
structure HoldReasons where
  noFloor : Bool
  unknownLot : Bool
  noTicketSlot : Bool
  sensorLost : Bool
  disabled : Bool
  operator : Bool
  deriving DecidableEq, Repr

/-- A Picker Configuration entry (R37); bit n of the route set is kiln n + 1. -/
structure PickerConfig where
  quiet : Nat
  limit : Nat
  route : BitVec 6
  deriving DecidableEq, Repr

/-- A picker record with its configuration (R36, R37). `inForce` holds the quiet interval and limit taken at the
clearance start (R43); `retryFrom` the moment of an attempt that found no queue place (R47); `woken` a wake by a
freed record or by the store that has not led to its attempt yet (R47, R136, log 4); `distributorOwed` a
Distributor command a Line Reset still owes (R61). -/
structure Picker where
  state : PickerState
  reasons : HoldReasons
  currentLot : Option Nat
  pendingLot : Option Nat
  refusedLot : Option Nat
  loading : Option Nat
  unattributed : Word
  clearanceStart : Option Nat
  quietStart : Option Nat
  inForce : Option (Nat × Nat)
  waitStart : Option Nat
  stopAfter : Bool
  feedEnable : Bool
  retryFrom : Option Nat
  woken : Bool
  distributorOwed : Bool
  config : PickerConfig
  deriving DecidableEq, Repr

/-- The two Picker Sequencers. -/
structure Pickers where
  p1 : Picker
  p2 : Picker
  deriving DecidableEq, Repr

/-! ## Kilns (spec/04, spec/05) -/

/-- A floor slot: its tag and its charge (R65). -/
inductive Slot where
  | empty
  | loading (charge : Nat)
  | loaded (charge : Nat)
  deriving DecidableEq, Repr

/-- A drop in progress (R65), with the drop timeout configured at its start (R74). -/
structure Drop where
  charge : Nat
  pile : PressId
  start : Nat
  timeout : Nat
  measured : Bool
  deriving DecidableEq, Repr

/-- A floor ring (R65). `offered` says that the kiln's upper floor is still offered to the pickers that wait for a floor,
and `declined` lists those whose attempt at this offer has not completed (R49, log 4); `gateRestore` says that a Line Reset
still owes the gate order (R81). -/
structure Ring where
  top : Fin 3
  slot0 : Slot
  slot1 : Slot
  slot2 : Slot
  drop : Option Drop
  gateCloseOwed : Bool
  dropsCompleted : Word
  emptyDrops : Word
  offered : Bool
  declined : List PickerId
  gateRestore : Bool
  deriving DecidableEq, Repr

/-- How a stage ends (R82). -/
inductive EndTest where
  | time | moisture
  deriving DecidableEq, Repr

/-- A stage of a schedule (R82). -/
structure Stage where
  setpoint : Int
  fan : Nat
  duration : Nat
  halfWidth : Nat
  grace : Nat
  endTest : EndTest
  deriving DecidableEq, Repr

/-- The stage copy of a kiln, with its last-stage mark (R84, R86). -/
structure StageCopy where
  stage : Stage
  last : Bool
  deriving DecidableEq, Repr

/-- Kiln cycle states (R84). -/
inductive KilnState where
  | idle | awaiting | loading | ready | cycling | finishing | hold | pileFull | dropping | tripped | manual
  deriving DecidableEq, Repr

/-- A trip capture (R84, R100). -/
structure Capture where
  state : KilnState
  schedule : Option Nat
  stage : Option Nat
  elapsed : Nat
  dropOwed : Bool
  deriving DecidableEq, Repr

/-- Band actions (R83). -/
inductive BandAction where
  | notice | hold
  deriving DecidableEq, Repr

/-- A Kiln Configuration entry (R83). -/
structure KilnConfig where
  schedule : Nat
  pile : PressId
  capacity : Nat
  nominalYield : Nat
  moistureTarget : Nat
  holdSetpoint : Int
  maxSetpoint : Int
  purgeFan : Nat
  refresh : Nat
  dropTimeout : Nat
  awaitingLimit : Nat
  bandAction : BandAction
  renewalPeriod : Nat
  deriving DecidableEq, Repr

/-- Heat Permit states (R96). -/
inductive PermitState where
  | off | staged | live | tripped
  deriving DecidableEq, Repr

/-- Renewal parities (R96). -/
inductive Parity where
  | odd | even
  deriving DecidableEq, Repr

/-- A Heat Permit (R96); `timer` is the start moment of a running renewal timer. -/
structure Permit where
  state : PermitState
  timer : Option Nat
  parity : Parity
  proving : Nat
  deriving DecidableEq, Repr

/-- A kiln: its record (R84), ring (R65), permit (R96) and configuration (R83). `overdue` is R87's; `dropRetryFrom`
the moment of a drop start that found no queue place (R69); `pileWoken` a freed pile place not yet asked for (R71, log 4). -/
structure Kiln where
  state : KilnState
  cycleSchedule : Option Nat
  stage : Option Nat
  copy : Option StageCopy
  stageElapsed : Nat
  dropOwed : Bool
  excursionStart : Option Nat
  bandLatched : Bool
  awaitingStart : Option Nat
  overdue : Bool
  capture : Option Capture
  scheduleFlag : Bool
  holdOff : Bool
  lastInjection : Option Nat
  burnerOwed : Bool
  fanOwed : Bool
  dropRetryFrom : Option Nat
  pileWoken : Bool
  permit : Permit
  config : KilnConfig
  ring : Ring
  deriving DecidableEq, Repr

/-- The six kilns. -/
structure Kilns where
  k1 : Kiln
  k2 : Kiln
  k3 : Kiln
  k4 : Kiln
  k5 : Kiln
  k6 : Kiln
  deriving DecidableEq, Repr

/-! ## Presses (spec/06) -/

/-- Press states (R109). -/
inductive PressState where
  | idle | filling | starved | compressing | tying | ejecting | weighing | paused | faulted
  deriving DecidableEq, Repr

/-- Fill end reasons (R115). -/
inductive FillEnd where
  | full | lotBreak | lotEnd | contentLimit | forced
  deriving DecidableEq, Repr

/-- An entry of a content list (R110). -/
structure Content where
  charge : Nat
  drawn : Word
  deriving DecidableEq, Repr

/-- The bale in progress (R110). -/
structure Bale where
  number : Nat
  lot : Nat
  contents : List Content
  fill : Word
  endReason : Option FillEnd
  short : Bool
  overdraw : Bool
  estimated : Bool
  faulted : Bool
  gross : Option Int
  net : Option Int
  moisture : Option Int
  deriving DecidableEq, Repr

/-- Resume points (R109). -/
inductive ResumePoint where
  | fill | compress | tie | eject
  deriving DecidableEq, Repr

/-- Fault causes (R109). -/
inductive FaultCause where
  | compressTimeout | tieTimeout | ejectTimeout | hydraulicsFault | yardReset
  deriving DecidableEq, Repr

/-- What a weighing is for (R109). -/
inductive WeighPurpose where
  | bale | reweigh
  deriving DecidableEq, Repr

/-- A weighing slot (R109), with the window it opened with. -/
structure WeighSlot where
  purpose : WeighPurpose
  bale : Nat
  start : Nat
  best : Option Int
  window : Nat
  deriving DecidableEq, Repr

/-- An entry of the recent-bale list (R109). -/
structure RecentBale where
  number : Nat
  lot : Nat
  grower : Nat
  serial : Nat
  gross : Option Int
  net : Option Int
  tare : Nat
  deriving DecidableEq, Repr

/-- A Press Configuration entry (R108). -/
structure PressConfig where
  target : Nat
  minimum : Nat
  tare : Nat
  quiet : Nat
  compressTimeout : Nat
  tieTimeout : Nat
  ejectTimeout : Nat
  weighWindow : Nat
  deriving DecidableEq, Repr

/-- A Reweigh Reply not yet queued (R124): the kept tag, and the Reweigh ticket's serial when a weight was taken. -/
structure ReweighReply where
  tag : Nat
  serial : Option Nat
  deriving DecidableEq, Repr

/-- A press with its pile (R106, R109). `coastQuiet` and `phaseTimeout` are the intervals in force (R108);
`fillDue` says that the fill start test of R111 is due (log 28). -/
structure Press where
  state : PressState
  auto : Bool
  nextBale : Nat
  bale : Option Bale
  feedRun : Bool
  runOwed : Bool
  reservationWait : Bool
  coastStart : Option Nat
  coastQuiet : Nat
  phaseStart : Option Nat
  phaseTimeout : Nat
  phaseOwed : Bool
  resume : Option ResumePoint
  cause : Option FaultCause
  slot : Option WeighSlot
  reweighTag : Option Nat
  recent : List RecentBale
  unbooked : Word
  fillDue : Bool
  owedReplies : List ReweighReply
  config : PressConfig
  entries : List Nat
  inFlight : Nat
  deriving DecidableEq, Repr

/-- The two Pile & Press Sequencers. -/
structure Presses where
  b1 : Press
  b2 : Press
  deriving DecidableEq, Repr

/-! ## Tickets (spec/07) -/

/-- Ticket kinds (R128). -/
inductive TicketKind where
  | charge | bale | reweigh | settlement
  deriving DecidableEq, Repr

/-- The fields of a ticket's kind (R129). -/
inductive TicketBody where
  | charge (number : Nat) (picker : PickerId) (kiln : KilnId) (green : Word) (reason : CloseReason)
      (substituted timedOut : Bool)
  | bale (press : PressId) (bale : Bale) (tare : Nat)
  | reweigh (press : PressId) (number original : Nat) (gross net : Int)
  | settlement (opened green dried baleCount netBaled unweighed : Word)
  deriving DecidableEq, Repr

/-- A ticket (R128). -/
structure Ticket where
  serial : Nat
  stamp : Nat
  clockSet : Bool
  lot : Nat
  grower : Nat
  body : TicketBody
  deriving DecidableEq, Repr

/-- Transfer end reasons (R137). -/
inductive FetchEnd where
  | counted | short | reset
  deriving DecidableEq, Repr

/-- A fetch transfer (R137). -/
structure Transfer where
  tag : Nat
  count : Nat
  sent : Nat
  lastQueued : Option Nat
  lastSent : Option Nat
  waiting : Bool
  endReason : Option FetchEnd
  endOwed : Bool
  deriving DecidableEq, Repr

/-- The Ticket Store (R130). The store is Unseeded exactly while `nextSerial` is none. -/
structure Store where
  tickets : List Ticket
  chargeRes : Nat
  baleRes : Nat
  settlementRes : Nat
  reweighRes : Nat
  nextSerial : Option Nat
  fetchHigh : Nat
  transfer : Option Transfer
  deriving DecidableEq, Repr

/-! ## The state -/

/-- The whole block, and the commands waiting for it (first in, first out). `watches` lists the watches that differ
from the power-on watch, by number; `schedules` the defined schedules, by number; `lots` the lot records, by number. -/
structure State where
  pending : List Instr
  clock : Clock
  line : Line
  agent : Agent
  chan : Channels
  watches : List (Nat × Watch)
  notice : NoticeLatch
  lots : List (Nat × Lot)
  pool : Pool
  pickers : Pickers
  kilns : Kilns
  schedules : List (Nat × List Stage)
  presses : Presses
  store : Store
  deriving DecidableEq, Repr

/-! ## Power-on values -/

/-- R162: the entry of an address at power-on (role, unit and descriptors DESIGN CHOICE, log 15). -/
def StationEntry.reset : StationEntry := { present := false, role := .other, unit := none, descriptors := [] }

/-- R145: a watch entry at power-on. -/
def WatchEntry.reset : WatchEntry :=
  { enabled := false, station := 2, channel := 0, low := 0, high := 0, negate := false, persistence := 0,
    unorderedFires := false, repeats := false, clearSet := 0 }

/-- R150: a watch at power-on. -/
def Watch.reset : Watch :=
  { entry := .reset, state := .disabled, pendingStart := none, fireCount := 0, lastFire := none, lastOutcome := none }

/-- R171, R173: counters at power-on. -/
def Counters.reset : Counters :=
  { receivedU := 0, receivedF := 0, checkFailures := 0, forwardDrops := 0, misdirected := 0, overridden := 0,
    rewritten := 0, noReplyPolls := 0, requestOverruns := 0 }

/-- R173. -/
def Line.reset : Line :=
  { forwardUp := [], forwardDown := [], ownUp := [], ownDown := [], overflow := [], runUp := 0, runDown := 0,
    poll := none, fSending := none, uTaken := none, counters := .reset,
    settings := { broadcastPass := false, replyWindow := 10 } }

/-- R39: no reason. -/
def HoldReasons.none : HoldReasons :=
  { noFloor := false, unknownLot := false, noTicketSlot := false, sensorLost := false, disabled := false, operator := false }

/-- R61, R37. -/
def Picker.reset : Picker :=
  { state := .stopped, reasons := .none, currentLot := none, pendingLot := none, refusedLot := none, loading := none,
    unattributed := 0, clearanceStart := none, quietStart := none, inForce := none, waitStart := none,
    stopAfter := false, feedEnable := true, retryFrom := none, woken := false, distributorOwed := false,
    config := { quiet := 10, limit := 120, route := 0 } }

/-- R81. -/
def Ring.reset : Ring :=
  { top := 0, slot0 := .empty, slot1 := .empty, slot2 := .empty, drop := none, gateCloseOwed := false,
    dropsCompleted := 0, emptyDrops := 0, offered := false, declined := [], gateRestore := false }

/-- R105. -/
def Permit.reset : Permit := { state := .off, timer := none, parity := .odd, proving := 0 }

/-- R83, with the pile the kiln has at power-on. -/
def KilnConfig.reset (pile : PressId) : KilnConfig :=
  { schedule := 1, pile := pile, capacity := 15000, nominalYield := 220, moistureTarget := 100, holdSetpoint := 400,
    maxSetpoint := 700, purgeFan := 100, refresh := 15, dropTimeout := 300, awaitingLimit := 0, bandAction := .notice,
    renewalPeriod := 10 }

/-- R105; stage elapsed 0, band latched no, and excursion start and awaiting start absent are DESIGN CHOICE (log 15). -/
def Kiln.reset (pile : PressId) : Kiln :=
  { state := .idle, cycleSchedule := none, stage := none, copy := none, stageElapsed := 0, dropOwed := false,
    excursionStart := none, bandLatched := false, awaitingStart := none, overdue := false, capture := none,
    scheduleFlag := true, holdOff := true, lastInjection := none, burnerOwed := false, fanOwed := false,
    dropRetryFrom := none, pileWoken := false, permit := .reset, config := .reset pile, ring := .reset }

/-- R127, R108. -/
def Press.reset : Press :=
  { state := .idle, auto := true, nextBale := 1, bale := none, feedRun := false, runOwed := false,
    reservationWait := false, coastStart := none, coastQuiet := 0, phaseStart := none, phaseTimeout := 0,
    phaseOwed := false, resume := none, cause := none, slot := none, reweighTag := none, recent := [], unbooked := 0,
    fillDue := false, owedReplies := [],
    config := { target := 5000, minimum := 2000, tare := 150, quiet := 5, compressTimeout := 60, tieTimeout := 60,
                ejectTimeout := 30, weighWindow := 20 },
    entries := [], inFlight := 0 }

/-- R144. -/
def Store.reset : Store :=
  { tickets := [], chargeRes := 0, baleRes := 0, settlementRes := 0, reweighRes := 0, nextSerial := none,
    fetchHigh := 0, transfer := none }

/-- R153. -/
def NoticeLatch.reset : NoticeLatch := { latched := 0, enabled := 0, sent := 0, waiting := false }

/-- The part after power-on (R17, R35, R61, R81, R105, R127, R144, R150, R153, R173, R174, R176, R180), with no command waiting. -/
def State.reset : State :=
  { pending := [],
    clock := { elapsed := 0, yard := 0, yardSet := false },
    line := .reset,
    agent := { requests := [], staging := none, writeCounts := [] },
    chan := { stations := [], samples := [], exceptions := [], overflowed := false },
    watches := [],
    notice := .reset,
    lots := [],
    pool := { records := [], next := 1 },
    pickers := { p1 := .reset, p2 := .reset },
    kilns := { k1 := .reset .b1, k2 := .reset .b1, k3 := .reset .b1, k4 := .reset .b2, k5 := .reset .b2, k6 := .reset .b2 },
    schedules := [],
    presses := { b1 := .reset, b2 := .reset },
    store := .reset }

end Sys2Proof.Machine
end

