-- ==== Sys2Proof/Machine/Tables.lean ====
section
/-! DEFINITION. Tables keyed by number, kept with strictly rising keys so that equal tables are equal lists. -/

namespace Sys2Proof.Machine

/-- The record under a key. -/
def tableGet {α : Type} : List (Nat × α) → Nat → Option α
  | [], _ => none
  | (k, v) :: rest, n => if k = n then some v else tableGet rest n

/-- The table with the record of a key written, in key order. -/
def tablePut {α : Type} : List (Nat × α) → Nat → α → List (Nat × α)
  | [], n, a => [(n, a)]
  | (k, v) :: rest, n, a =>
    if n < k then (n, a) :: (k, v) :: rest
    else if k = n then (n, a) :: rest
    else (k, v) :: tablePut rest n a

/-- The table without the record of a key. -/
def tableErase {α : Type} (t : List (Nat × α)) (n : Nat) : List (Nat × α) :=
  t.filter fun e => e.1 != n

/-- Write a table whose unlisted keys read as `d`, keeping no entry equal to `d`. -/
def tableSet {α : Type} [DecidableEq α] (d : α) (t : List (Nat × α)) (n : Nat) (a : α) : List (Nat × α) :=
  if a = d then tableErase t n else tablePut t n a

/-- The listed key next above `n`, with its record (selector Next of R6 and R80). -/
def tableNext {α : Type} (t : List (Nat × α)) (n : Nat) : Option (Nat × α) :=
  t.find? fun e => n < e.1

/-- The keys of a table rise strictly. -/
def tableWf {α : Type} : List (Nat × α) → Bool
  | [] => true
  | [_] => true
  | (k, _) :: (m, w) :: rest => decide (k < m) && tableWf ((m, w) :: rest)

end Sys2Proof.Machine
end

