-- ==== Sys2Proof/Machine/Bytes.lean ====
section
/-! DEFINITION. Byte order, field widths and the frame check (spec/11): most significant byte first, two's complement,
CRC with polynomial 1021h from FFFFh. -/

namespace Sys2Proof.Machine

/-- The `n` low bytes of a number, most significant first. -/
def bytesOfNat : Nat → Nat → List Byte
  | 0, _ => []
  | n + 1, v => bytesOfNat n (v / 256) ++ [BitVec.ofNat 8 v]

/-- The number that bytes spell, most significant first. -/
def natOfBytes (bs : List Byte) : Nat := bs.foldl (fun acc b => acc * 256 + b.toNat) 0

/-- The signed number that `bs` spells in two's complement. -/
def intOfBytes (bs : List Byte) : Int :=
  if natOfBytes bs < 2 ^ (8 * bs.length - 1) then (natOfBytes bs : Int)
  else (natOfBytes bs : Int) - (2 ^ (8 * bs.length) : Nat)

/-- An unsigned field of `n` bytes; a value that does not fit is a free value (log 13). -/
def fieldNat (n v : Nat) : List Byte :=
  if v < 256 ^ n then bytesOfNat n v else bytesOfNat n (Config.openBytes n v)

/-- A signed field of `n` bytes; a value that does not fit is a free value (log 13). -/
def fieldInt (n : Nat) (v : Int) : List Byte :=
  if 0 ≤ v ∧ v < (2 ^ (8 * n - 1) : Nat) then bytesOfNat n v.toNat
  else if v < 0 ∧ -((2 ^ (8 * n - 1) : Nat) : Int) ≤ v then bytesOfNat n (v + (2 ^ (8 * n) : Nat)).toNat
  else bytesOfNat n (Config.openBytes n v)

/-- An unsigned field of `n` bytes holding a number of the signed kind, such as a gross (log 13 when it does not fit). -/
def fieldMass (n : Nat) (v : Int) : List Byte :=
  if 0 ≤ v then fieldNat n v.toNat else bytesOfNat n (Config.openBytes n v)

/-- A yes/no or set/clear field (R187). -/
def fieldBool (b : Bool) : List Byte := [if b then 1 else 0]

/-- An optional field: presence byte, then its full width, 0 when absent (spec/11). -/
def fieldOpt {α : Type} (width : Nat) (f : α → List Byte) : Option α → List Byte
  | some a => 1 :: f a
  | none => 0 :: List.replicate width 0

/-- A set of named members: bit 0 for the first named (spec/11 11.2). -/
def fieldSet (members : List Bool) : List Byte :=
  [BitVec.ofNat 8 (members.foldr (fun b acc => 2 * acc + (if b then 1 else 0)) 0)]

/-- Member `n` of a set sent as one byte. -/
def setHas (v n : Nat) : Bool := v.testBit n

/-- One bit step of the check register (spec/11 11.1). -/
def crcShift (r : BitVec 16) : BitVec 16 :=
  if r.msb then (r <<< 1) ^^^ 0x1021#16 else r <<< 1

/-- One byte into the check register, most significant bit first. -/
def crcByte (r : BitVec 16) (b : Byte) : BitVec 16 :=
  crcShift (crcShift (crcShift (crcShift (crcShift (crcShift (crcShift (crcShift
    (r ^^^ (b.zeroExtend 16 <<< 8)))))))))

/-- The check of a run of characters. -/
def crc (bs : List Byte) : BitVec 16 := bs.foldl crcByte 0xFFFF#16

/-- Saturating count: R171 counters, R149 fire counts, R30 raise counts, R96 proving counts. -/
def countUp (top n : Nat) : Nat := if n < top then n + 1 else top

end Sys2Proof.Machine
end

