-- ==== Sys2Proof/Machine/Frames.lean ====
section
/-! DEFINITION. Frames as characters (spec/11 11.1, R184, R159): kinds, values of Commands and Reports, the tests a port makes. -/

namespace Sys2Proof.Machine

/-- Kind codes (spec/11 11.1). -/
def kindCode : FrameKind → Nat
  | .command => 1
  | .poll => 2
  | .report => 3
  | .request => 4
  | .reply => 5
  | .notice => 6
  | .ticket => 7

/-- The kind of a code; 0 and codes above 7 have none. -/
def kindOf : Nat → Option FrameKind
  | 1 => some .command
  | 2 => some .poll
  | 3 => some .report
  | 4 => some .request
  | 5 => some .reply
  | 6 => some .notice
  | 7 => some .ticket
  | _ => none

/-- The characters of a frame up to its payload's end. -/
def frameBody (f : Frame) : List Byte :=
  [BitVec.ofNat 8 f.dest, BitVec.ofNat 8 f.src, BitVec.ofNat 8 (kindCode f.kind), BitVec.ofNat 8 f.channel,
   BitVec.ofNat 8 f.tag, BitVec.ofNat 8 f.payload.length] ++ f.payload

/-- The characters of a frame as it leaves, its check computed afresh (R184). -/
def frameChars (f : Frame) : List Byte := frameBody f ++ bytesOfNat 2 (crc (frameBody f)).toNat

/-- What a port makes of a run of characters (R184, R159). -/
inductive Arrival where
  /-- discarded: too short, too long, or failing its check -/
  | discarded
  /-- passed its check and holds unused values -/
  | unused
  /-- goes on to R163 or R165 -/
  | accepted (f : Frame)
  deriving DecidableEq, Repr

/-- R184: the tests for unused values. -/
def holdsUnused (kind : FrameKind) (dest src channel len : Nat) : Bool :=
  decide (127 < dest) || decide (127 < src) ||
  match kind with
  | .command => decide (3 < channel) || decide (len ≠ 4)
  | .poll => decide (3 < channel) || decide (len ≠ 0)
  | .report => decide (3 < channel) || decide (len ≠ 5)
  | _ => false

/-- R184: a run of characters tested at its end. -/
def arrive (chars : List Byte) : Arrival :=
  match chars with
  | d :: s :: k :: c :: t :: l :: rest =>
    if 40 < l.toNat then .discarded
    else if rest.length ≠ l.toNat + 2 then .discarded
    else if bytesOfNat 2 (crc (chars.take (6 + l.toNat))).toNat ≠ rest.drop l.toNat then .discarded
    else
      match kindOf k.toNat with
      | none => .unused
      | some kind =>
        if holdsUnused kind d.toNat s.toNat c.toNat l.toNat then .unused
        else .accepted { dest := d.toNat, src := s.toNat, kind := kind, channel := c.toNat, tag := t.toNat,
                         payload := rest.take l.toNat }
  | _ => .discarded

/-- The value of a Command (spec/11: offsets 0..3, signed). -/
def commandValue (f : Frame) : Int := intOfBytes (f.payload.take 4)

/-- A Command with its value replaced: offsets 0..3 of the payload (R184). -/
def withValue (f : Frame) (v : Int) : Frame := { f with payload := fieldInt 4 v ++ f.payload.drop 4 }

/-- The value of a Report (offsets 1..4, signed). -/
def reportValue (f : Frame) : Int := intOfBytes ((f.payload.drop 1).take 4)

/-- A status bit of a Report: 0 SensorFault, 1 Settled, 2 CounterRestart. -/
def reportFlag (f : Frame) (n : Nat) : Bool := (f.payload.headD 0).getLsbD n

/-- A Command of the part: source 127, channel 0 (R40, R92, R100, R112, R118). -/
def ownCommand (dest : Nat) (v : Int) : Frame :=
  { dest := dest, src := 127, kind := .command, channel := 0, tag := 0, payload := fieldInt 4 v }

/-- A self-poll (R31). -/
def ownPoll (dest channel : Nat) : Frame :=
  { dest := dest, src := 127, kind := .poll, channel := channel, tag := 0, payload := [] }

/-- A frame of the part to the host. -/
def ownUpFrame (kind : FrameKind) (tag : Nat) (payload : List Byte) : Frame :=
  { dest := 1, src := 127, kind := kind, channel := 0, tag := tag, payload := payload }

end Sys2Proof.Machine
end

