-- ==== Sys2Proof/Machine/Ops.lean ====
section
/-! DEFINITION. The named operations over State that every meaning is written with: one home and one accessor for each
record, the bindings of the Station Table, the Notice Latch's claim, the line counters, and the two Own queues. -/

namespace Sys2Proof.Machine

/-- The outcome of a command. -/
abbrev Result := Host.Outcome State Fault Refusal

/-! ## Parts of the state -/

/-- Change the clock part. -/
def State.onClock (s : State) (f : Clock → Clock) : State := { s with clock := f s.clock }

/-- Change the line part. -/
def State.onLine (s : State) (f : Line → Line) : State := { s with line := f s.line }

/-- Change the agent part. -/
def State.onAgent (s : State) (f : Agent → Agent) : State := { s with agent := f s.agent }

/-- Change the chan part. -/
def State.onChan (s : State) (f : Channels → Channels) : State := { s with chan := f s.chan }

/-- Change the notice part. -/
def State.onNotice (s : State) (f : NoticeLatch → NoticeLatch) : State := { s with notice := f s.notice }

/-- Change the pool part. -/
def State.onPool (s : State) (f : Pool → Pool) : State := { s with pool := f s.pool }

/-- Change the pickers part. -/
def State.onPickers (s : State) (f : Pickers → Pickers) : State := { s with pickers := f s.pickers }

/-- Change the kilns part. -/
def State.onKilns (s : State) (f : Kilns → Kilns) : State := { s with kilns := f s.kilns }

/-- Change the presses part. -/
def State.onPresses (s : State) (f : Presses → Presses) : State := { s with presses := f s.presses }

/-- Change the store part. -/
def State.onStore (s : State) (f : Store → Store) : State := { s with store := f s.store }

/-- Put a watch table in place. -/
def State.withWatches (s : State) (w : List (Nat × Watch)) : State := { s with watches := w }

/-- Put a Lot Table in place. -/
def State.withLots (s : State) (l : List (Nat × Lot)) : State := { s with lots := l }

/-- Put a Schedule Store in place. -/
def State.withSchedules (s : State) (l : List (Nat × List Stage)) : State := { s with schedules := l }

/-- Put a command queue in place. -/
def State.withPending (s : State) (l : List Instr) : State := { s with pending := l }

/-- The elapsed seconds (spec/00 Time). -/
def State.now (s : State) : Nat := s.clock.elapsed

/-- A picker. -/
def State.picker (s : State) : PickerId → Picker
  | .p1 => s.pickers.p1
  | .p2 => s.pickers.p2

/-- Change a picker. -/
def State.onPicker (s : State) (p : PickerId) (f : Picker → Picker) : State :=
  s.onPickers fun t => match p with
    | .p1 => { t with p1 := f t.p1 }
    | .p2 => { t with p2 := f t.p2 }

/-- A kiln. -/
def State.kiln (s : State) : KilnId → Kiln
  | .k1 => s.kilns.k1
  | .k2 => s.kilns.k2
  | .k3 => s.kilns.k3
  | .k4 => s.kilns.k4
  | .k5 => s.kilns.k5
  | .k6 => s.kilns.k6

/-- Change a kiln. -/
def State.onKiln (s : State) (k : KilnId) (f : Kiln → Kiln) : State :=
  s.onKilns fun t => match k with
    | .k1 => { t with k1 := f t.k1 }
    | .k2 => { t with k2 := f t.k2 }
    | .k3 => { t with k3 := f t.k3 }
    | .k4 => { t with k4 := f t.k4 }
    | .k5 => { t with k5 := f t.k5 }
    | .k6 => { t with k6 := f t.k6 }

/-- Change a kiln's ring. -/
def State.onRing (s : State) (k : KilnId) (f : Ring → Ring) : State := s.onKiln k fun r => { r with ring := f r.ring }

/-- Change a kiln's permit. -/
def State.onPermit (s : State) (k : KilnId) (f : Permit → Permit) : State :=
  s.onKiln k fun r => { r with permit := f r.permit }

/-- A press. -/
def State.press (s : State) : PressId → Press
  | .b1 => s.presses.b1
  | .b2 => s.presses.b2

/-- Change a press. -/
def State.onPress (s : State) (b : PressId) (f : Press → Press) : State :=
  s.onPresses fun t => match b with
    | .b1 => { t with b1 := f t.b1 }
    | .b2 => { t with b2 := f t.b2 }

/-- Change the bale in progress of a press. -/
def State.onBale (s : State) (b : PressId) (f : Bale → Bale) : State :=
  s.onPress b fun r => { r with bale := r.bale.map f }

/-- A lot record (R2). -/
def State.lot (s : State) (n : Nat) : Option Lot := tableGet s.lots n

/-- Change a lot record, where there is one. -/
def State.onLot (s : State) (n : Nat) (f : Lot → Lot) : State :=
  match s.lot n with
  | some l => s.withLots (tablePut s.lots n (f l))
  | none => s

/-- A charge record in use (R62). -/
def State.charge (s : State) (n : Nat) : Option Charge := tableGet s.pool.records n

/-- Change a charge record, where it is in use. -/
def State.onCharge (s : State) (n : Nat) (f : Charge → Charge) : State :=
  match s.charge n with
  | some c => s.onPool fun p => { p with records := tablePut p.records n (f c) }
  | none => s

/-- A Station Table entry (R162). -/
def State.station (s : State) (n : Nat) : StationEntry := (tableGet s.chan.stations n).getD .reset

/-- The key of a channel's sample record. -/
def sampleKey (station channel : Nat) : Nat := 4 * station + channel

/-- A sample record (R20). -/
def State.sample (s : State) (station channel : Nat) : Option Sample := tableGet s.chan.samples (sampleKey station channel)

/-- Write a sample record. -/
def State.putSample (s : State) (station channel : Nat) (r : Sample) : State :=
  s.onChan fun c => { c with samples := tablePut c.samples (sampleKey station channel) r }

/-- A watch (R145). -/
def State.watch (s : State) (n : Nat) : Watch := (tableGet s.watches n).getD .reset

/-- Write a watch. -/
def State.putWatch (s : State) (n : Nat) (w : Watch) : State := s.withWatches (tableSet .reset s.watches n w)

/-- A schedule: its stages, none when undefined (R82). -/
def State.schedule (s : State) (n : Nat) : List Stage := (tableGet s.schedules n).getD []

/-- The stage of a schedule, counted from 1. -/
def State.stageOf (s : State) (schedule stage : Nat) : Option Stage :=
  if stage = 0 then none else (s.schedule schedule)[stage - 1]?

/-! ## Bindings (R162) -/

/-- The station bound to a unit in a role. -/
def State.bound (s : State) (role : Role) (unit : UnitId) : Option Nat :=
  (s.chan.stations.find? fun e => e.2.present && e.2.role == role && e.2.unit == some unit).map Prod.fst

/-- The descriptor of a channel, under a Present entry (R18, R162). -/
def State.descriptor (s : State) (station channel : Nat) : Option Descriptor :=
  if (s.station station).present then (s.station station).descriptors.find? fun d => d.channel == channel else none

/-! ## Notices (R154) -/

/-- A latch claim: an unlatched source joins the latched set, unsent. -/
def latch (n : Nat) (s : State) : State :=
  if s.notice.latched.getLsbD n then s
  else s.onNotice fun c =>
    { c with latched := c.latched ||| BitVec.twoPow 77 n, sent := c.sent &&& ~~~BitVec.twoPow 77 n }

/-! ## Line counters (R171) -/

/-- Change the line counters. -/
def State.onCounters (s : State) (f : Counters → Counters) : State := s.onLine fun l => { l with counters := f l.counters }

/-- Count a misdirected frame. -/
def countMisdirected (s : State) : State :=
  s.onCounters fun c => { c with misdirected := countUp Config.counterTop c.misdirected }

/-- Count an overridden frame. -/
def countOverridden (s : State) : State :=
  s.onCounters fun c => { c with overridden := countUp Config.counterTop c.overridden }

/-- Count a rewritten frame. -/
def countRewritten (s : State) : State :=
  s.onCounters fun c => { c with rewritten := countUp Config.counterTop c.rewritten }

/-- Notice source 1 (R152). -/
def srcLineErrors : Nat := 1

/-- Count a check failure; latches LineErrors (R159, R171). -/
def countCheckFailure (s : State) : State :=
  latch srcLineErrors (s.onCounters fun c => { c with checkFailures := countUp Config.counterTop c.checkFailures })

/-- Count a drop at a full Forward queue; latches LineErrors (R160, R171). -/
def countForwardDrop (s : State) : State :=
  latch srcLineErrors (s.onCounters fun c => { c with forwardDrops := countUp Config.counterTop c.forwardDrops })

/-! ## The Own queue down (R161) -/

/-- Whether a place outside the two kept for safety frames is free. -/
def State.downFree (s : State) : Bool := decide (s.line.ownDown.length < Config.ownDownOrdinary)

/-- Queue a frame that is not a safety frame. Its originator has found a free place outside the safety places
(`State.downFree`); the test of the queue's capacity only restates spec/09 9.2. -/
def queueDown (f : Frame) (injected : Bool) (s : State) : State :=
  s.onLine fun l =>
    if l.ownDown.length < Config.ownDownPlaces then
      { l with ownDown := l.ownDown ++ [{ frame := f, safety := false, injected := injected }] }
    else l

/-- Whether a queued frame is addressed to a station and channel. -/
def sameAddress (f : Frame) (e : OwnDown) : Bool := e.frame.dest == f.dest && e.frame.channel == f.channel

/-- A waiting safety frame takes the new value and keeps its place (R161, step 2). -/
def takeValue (f : Frame) (e : OwnDown) : OwnDown :=
  if e.safety && sameAddress f e then { e with frame := { e.frame with payload := f.payload } } else e

/-- Queuing a safety frame (R161): older ordinary frames to its station and channel are removed, a waiting safety
frame takes its value, else it joins the queue below 8 frames and the safety overflow list at 8. -/
def queueSafety (f : Frame) (s : State) : State :=
  s.onLine fun l =>
    let kept := l.ownDown.filter fun e => e.safety || !sameAddress f e
    let entry : OwnDown := { frame := f, safety := true, injected := false }
    if (kept.any fun e => e.safety && sameAddress f e) || (l.overflow.any fun e => e.safety && sameAddress f e) then
      { l with ownDown := kept.map (takeValue f), overflow := l.overflow.map (takeValue f) }
    else if kept.length < Config.ownDownPlaces then { l with ownDown := kept ++ [entry] }
    else { l with ownDown := kept, overflow := l.overflow ++ [entry] }

/-- A Command to the station bound in a role, as a safety frame; nothing where none is bound. -/
def safetyCommand (role : Role) (unit : UnitId) (v : Int) (s : State) : State :=
  match s.bound role unit with
  | some st => queueSafety (ownCommand st v) s
  | none => s

/-! ## The Own queue up (R160) -/

/-- The free places of the Own queue up. -/
def State.upFree (s : State) : Nat := Config.ownUpPlaces - s.line.ownUp.length

/-- Queue a frame for the host. Its originator has found a free place (`State.upFree`); the test of the queue's capacity
only restates spec/09 9.2. -/
def queueUp (f : Frame) (origin : UpOrigin) (s : State) : State :=
  s.onLine fun l =>
    if l.ownUp.length < Config.ownUpPlaces then { l with ownUp := l.ownUp ++ [{ frame := f, origin := origin }] } else l

/-! ## Self-poll timers (R31) -/

/-- Start a channel's self-poll timer with an interval; 0 stops it. A channel without a record has no timer. -/
def startPollTimer (station channel interval : Nat) (s : State) : State :=
  match s.sample station channel with
  | some r => s.putSample station channel { r with pollDue := if interval = 0 then none else some (s.now + interval) }
  | none => s

/-- The interval of a channel's descriptor; 0 without one. -/
def State.descriptorInterval (s : State) (station channel : Nat) : Nat :=
  ((s.descriptor station channel).map Descriptor.pollInterval).getD 0

/-- Whether the channel is channel 0 of the BeltScale of a picker that is Clearing (R32). -/
def State.fastPolled (s : State) (station channel : Nat) : Bool :=
  channel == 0 && (s.station station).present && (s.station station).role == .beltScale &&
  match (s.station station).unit with
  | some (.picker p) => (s.picker p).state == .clearing
  | _ => false

/-- The interval a channel's timer now runs with (R31, R32). -/
def State.pollInterval (s : State) (station channel : Nat) : Nat :=
  if s.fastPolled station channel then 1 else s.descriptorInterval station channel

/-- Start a channel's self-poll timer again (R31). -/
def restartPollTimer (station channel : Nat) (s : State) : State :=
  startPollTimer station channel (s.pollInterval station channel) s

end Sys2Proof.Machine
end

