-- ==== Sys2Proof/Machine/Flags.lean ====
section
/-! DEFINITION. The numbers of the 77 notice sources (R152), the views formed under a mask set (R23), the net weight (R27),
and the comparison with a band (R28). -/

namespace Sys2Proof.Machine

/-! ## Notice sources (R152) -/

/-- A picker's place, from 0. -/
def pickerIndex : PickerId → Nat
  | .p1 => 0
  | .p2 => 1

/-- A kiln's place, from 0. -/
def kilnIndex : KilnId → Nat
  | .k1 => 0
  | .k2 => 1
  | .k3 => 2
  | .k4 => 3
  | .k5 => 4
  | .k6 => 5

/-- A press's place, from 0. -/
def pressIndex : PressId → Nat
  | .b1 => 0
  | .b2 => 1

def srcChannelException : Nat := 0
def srcStagingDiscarded : Nat := 2
def srcStoreLow : Nat := 3
def srcStoreFull : Nat := 4
def srcHeld (p : PickerId) : Nat := 5 + 3 * pickerIndex p
def srcUnknownLot (p : PickerId) : Nat := 6 + 3 * pickerIndex p
def srcClearanceTimeout (p : PickerId) : Nat := 7 + 3 * pickerIndex p
def srcTrip (k : KilnId) : Nat := 11 + 6 * kilnIndex k
def srcPermitLapse (k : KilnId) : Nat := 12 + 6 * kilnIndex k
def srcBand (k : KilnId) : Nat := 13 + 6 * kilnIndex k
def srcDropTimeout (k : KilnId) : Nat := 14 + 6 * kilnIndex k
def srcPileFull (k : KilnId) : Nat := 15 + 6 * kilnIndex k
def srcCycleDone (k : KilnId) : Nat := 16 + 6 * kilnIndex k
def srcFaulted (b : PressId) : Nat := 47 + 3 * pressIndex b
def srcStarved (b : PressId) : Nat := 48 + 3 * pressIndex b
def srcUnweighed (b : PressId) : Nat := 49 + 3 * pressIndex b
def srcWatch (n : Nat) : Nat := 52 + n

/-! ## Units by number (spec/11: unit numbers are sent as their ordinal) -/

def pickerOf : Nat → Option PickerId
  | 1 => some .p1
  | 2 => some .p2
  | _ => none

def kilnOf : Nat → Option KilnId
  | 1 => some .k1
  | 2 => some .k2
  | 3 => some .k3
  | 4 => some .k4
  | 5 => some .k5
  | 6 => some .k6
  | _ => none

def pressOf : Nat → Option PressId
  | 1 => some .b1
  | 2 => some .b2
  | _ => none

def allPickers : List PickerId := [.p1, .p2]
def allKilns : List KilnId := [.k1, .k2, .k3, .k4, .k5, .k6]
def allPresses : List PressId := [.b1, .b2]

/-! ## Classes, views and outcomes -/

/-- R18: whether a class is in a mask set. -/
def inMask (m : MaskSet) : SampleClass → Bool
  | .low => m.low
  | .high => m.high
  | .fault => m.fault
  | .stale => m.stale
  | _ => false

/-- The classes that are raised when unmasked (spec/02 2.3). -/
def isRaised : SampleClass → Bool
  | .low => true
  | .high => true
  | .fault => true
  | .stale => true
  | _ => false

/-- The class of a last good value. -/
def goodClass (g : GoodValue) : SampleClass := if g.isZero then .zero else .normal

/-- R23: the view from a current class, current value, last good value and mask set. -/
def viewOf (m : MaskSet) (cls : SampleClass) (value : Option Int) (good : Option GoodValue) : View :=
  if inMask m cls then
    match good with
    | some g => { cls := goodClass g, value := some g.value, substituted := true }
    | none => { cls := .absent, value := none, substituted := false }
  else { cls := cls, value := value, substituted := false }

/-- The view of a channel with no record or no report: Absent. -/
def View.absent : View := { cls := .absent, value := none, substituted := false }

/-- R23: the view a channel's record now gives. -/
def State.view (s : State) (station channel : Nat) : View :=
  match s.sample station channel, s.descriptor station channel with
  | some r, some d => viewOf d.mask r.cls r.value r.lastGood
  | _, _ => .absent

/-- Class Normal or Zero. -/
def View.isGood (v : View) : Bool := v.cls == .normal || v.cls == .zero

/-- R28: comparison of a view with a band. -/
def compareBand (low high : Int) (v : View) : BandOutcome :=
  if !v.substituted && (v.cls == .fault || v.cls == .stale || v.cls == .absent) then .unordered
  else
    match v.value with
    | none => .unordered
    | some x => if x < low then .below else if high < x then .above else .inside

/-- R27: the net weight, with its class and the substituted mark of the view of the gross it is taken from. -/
def netWeight (v : View) (tare : Nat) : View :=
  let net : SampleClass × Option Int :=
    if v.isGood then
      match v.value with
      | some g =>
        if 0 < g - tare then (.normal, some (g - tare))
        else if g - tare = 0 then (.zero, some 0)
        else (.low, none)
      | none => (.absent, none)
    else (v.cls, none)
  { cls := net.1, value := net.2, substituted := v.substituted }

/-- R21: the class of a value against a range. -/
def classValue (d : Descriptor) (v : Int) (sensorFault : Bool) : SampleClass :=
  if sensorFault then .fault
  else if v < d.rangeLow then .low
  else if d.rangeHigh < v then .high
  else if v = 0 then .zero
  else .normal

/-- The mass a Report's view books at a press or a drop scale (R73, R113): the value of a Normal view. -/
def bookedNormal (v : View) : Option Int := if v.cls == .normal then v.value else none

/-- A signed booking added to a total kept modulo 2^32 (R1, R62; log 14). -/
def addMass (m : Word) (v : Int) : Word := m + BitVec.ofInt 32 v

end Sys2Proof.Machine
end

