-- ==== Sys2Proof/Machine/Store.lean ====
section
/-! DEFINITION. The Ticket Store (spec/07): reservations, issues, wakes, and the end test of a fetch transfer. -/

namespace Sys2Proof.Machine

/-- The reserved count (R130). -/
def Store.reserved (t : Store) : Nat := t.chargeRes + t.baleRes + t.settlementRes + t.reweighRes

/-- The free places (R130). -/
def Store.free (t : Store) : Nat := Config.storePlaces - t.tickets.length - t.reserved

/-- The serial room of a Seeded store (R132). -/
def Store.room (t : Store) : Option Nat := t.nextSerial.map fun n => Config.serialEnd - n

/-- R133: whether the store grants a reservation now. -/
def Store.grants (t : Store) : Bool :=
  match t.room with
  | none => false
  | some room => decide (1 ≤ t.free) && decide (t.reserved + 1 ≤ room)

/-- A reservation count changed, by kind. -/
def Store.onKind (t : Store) (kind : TicketKind) (f : Nat → Nat) : Store :=
  match kind with
  | .charge => { t with chargeRes := f t.chargeRes }
  | .bale => { t with baleRes := f t.baleRes }
  | .settlement => { t with settlementRes := f t.settlementRes }
  | .reweigh => { t with reweighRes := f t.reweighRes }

/-- R133: a granted reservation raises its count; StoreLow and StoreFull follow from the free places left. -/
def grantReservation (kind : TicketKind) (s : State) : State :=
  let s := s.onStore fun t => t.onKind kind (· + 1)
  let s := if s.store.free < Config.storeLow then latch srcStoreLow s else s
  if s.store.free = 0 then latch srcStoreFull s else s

/-- R133: a refusal changes nothing; a Seeded store latches StoreFull. -/
def refuseReservation (s : State) : State := if s.store.nextSerial.isSome then latch srcStoreFull s else s

/-- R133: ask for a reservation; whether it was granted, and the state after. -/
def askReservation (kind : TicketKind) (s : State) : Bool × State :=
  if s.store.grants then (true, grantReservation kind s) else (false, refuseReservation s)

/-- R136: the store can again grant; each picker holding NoTicketSlot and each press waiting for a reservation is woken
to ask again (their asking is OPENING_ATTEMPT and FILL_START, log 4). -/
def wakeStore (s : State) : State :=
  let wakePicker (r : Picker) : Picker := if r.reasons.noTicketSlot then { r with woken := true } else r
  let wakePress (r : Press) : Press := if r.reservationWait then { r with fillDue := true } else r
  (s.onPickers fun t => { p1 := wakePicker t.p1, p2 := wakePicker t.p2 }).onPresses fun t =>
    { b1 := wakePress t.b1, b2 := wakePress t.b2 }

/-- R134: a reservation returned. -/
def returnReservation (kind : TicketKind) (s : State) : State :=
  wakeStore (s.onStore fun t => t.onKind kind (· - 1))

/-- R135: an issue against a reservation. An Unseeded store holds no reservation and issues nothing (R131). -/
def issueTicket (kind : TicketKind) (lot grower : Nat) (body : TicketBody) (s : State) : State :=
  match s.store.nextSerial with
  | none => s
  | some n =>
    s.onStore fun t =>
      { t.onKind kind (· - 1) with
        nextSerial := some (n + 1)
        tickets := t.tickets ++ [{ serial := n, stamp := s.clock.yard, clockSet := s.clock.yardSet, lot := lot,
                                   grower := grower, body := body }] }

/-- The serial the next issue takes, for the records that keep it (R121, R124). -/
def State.serialNext (s : State) : Nat := s.store.nextSerial.getD 0

/-- R138: the ticket due. -/
def Store.due (t : Store) (x : Transfer) : Option Ticket :=
  match x.lastQueued with
  | none => t.tickets.head?
  | some n => t.tickets.find? fun k => decide (n < k.serial)

/-- R139: the code of an end reason. -/
def fetchEndCode : FetchEnd → Byte
  | .counted => 1
  | .short => 2
  | .reset => 3

/-- R139: the end frame of a transfer (request code 73, result Done). -/
def fetchEndFrame (x : Transfer) (reason : FetchEnd) : Frame :=
  ownUpFrame .reply x.tag ([73, 0, fetchEndCode reason] ++ fieldNat 1 x.sent ++ fieldOpt 4 (fieldNat 4) x.lastSent)

/-- Change the transfer in progress. -/
def State.onTransfer (s : State) (f : Transfer → Transfer) : State :=
  s.onStore fun t => { t with transfer := t.transfer.map f }

/-- R139: the end frame is queued where a place is free, and the transfer becomes absent; else it is owed. -/
def queueFetchEnd (x : Transfer) (reason : FetchEnd) (s : State) : State :=
  if 1 ≤ s.upFree then
    (queueUp (fetchEndFrame x reason) .fetchEnd s).onStore fun t => { t with transfer := none }
  else s.onTransfer fun x => { x with endReason := some reason, endOwed := true }

/-- R139: the end test of the transfer in progress. -/
def fetchEndTest (s : State) : State :=
  match s.store.transfer with
  | none => s
  | some x =>
    if x.endReason.isSome then s
    else if x.sent = x.count then queueFetchEnd x .counted s
    else if (s.store.due x).isNone then queueFetchEnd x .short s
    else s

end Sys2Proof.Machine
end

