-- ==== Sys2Proof/Machine/Lots.lean ====
section
/-! DEFINITION. Claims on the Lot Table (spec/01 1.5, 1.6). -/

namespace Sys2Proof.Machine

/-- R7: a usable lot. -/
def State.lotUsable (s : State) (n : Nat) : Bool :=
  match s.lot n with
  | some l => l.state == .declared || l.state == .active
  | none => false

/-- R7: the grower number copied into a ticket of a lot. -/
def State.growerOf (s : State) (n : Nat) : Nat := ((s.lot n).map Lot.grower).getD 0

/-- R16: the fields of a Settlement ticket. -/
def settlementBody (l : Lot) : TicketBody := .settlement l.opened l.green l.dried l.baleCount l.netBaled l.unweighed

/-- R15: the settlement test. -/
def settleTest (n : Nat) (s : State) : State :=
  match s.lot n with
  | none => s
  | some l =>
    if l.state = .closing ∧ l.live = 0 ∧ l.bales = 0 then
      (issueTicket .settlement n l.grower (settlementBody l) s).onLot n fun l =>
        { l with reserved := false, state := .settled }
    else s

/-- R8: the granted charge-opening claim. -/
def claimOpening (n : Nat) (s : State) : State :=
  s.onLot n fun l => { l with opened := l.opened + 1, live := l.live + 1, state := .active }

/-- R9: a green increment. -/
def addGreen (n : Nat) (v : Int) (s : State) : State := s.onLot n fun l => { l with green := addMass l.green v }

/-- R10: a completed drop. -/
def addDried (n : Nat) (m : Word) (s : State) : State := s.onLot n fun l => { l with dried := l.dried + m }

/-- R11: a retired pile entry. -/
def retireFromLot (n : Nat) (s : State) : State := settleTest n (s.onLot n fun l => { l with live := l.live - 1 })

/-- R12: a fill start. -/
def startBaleOfLot (n : Nat) (s : State) : State := s.onLot n fun l => { l with bales := l.bales + 1 }

/-- R13: a bale completion. -/
def completeBaleOfLot (n : Nat) (net : Option Int) (s : State) : State :=
  settleTest n (s.onLot n fun l =>
    { l with
      baleCount := l.baleCount + 1
      netBaled := match net with
        | some v => addMass l.netBaled v
        | none => l.netBaled
      unweighed := match net with
        | some _ => l.unweighed
        | none => l.unweighed + 1
      bales := l.bales - 1 })

/-- R14: a bale withdrawal. -/
def withdrawBaleOfLot (n : Nat) (s : State) : State := settleTest n (s.onLot n fun l => { l with bales := l.bales - 1 })

/-- R114: whether a lot is Closing with no charge of it in any kiln floor slot (Loading, Loaded or Dropping). -/
def State.lotSpent (s : State) (n : Nat) : Bool :=
  (match s.lot n with
   | some l => l.state == .closing
   | none => false) &&
  s.pool.records.all fun e => e.2.lot != n || e.2.state == .piled

end Sys2Proof.Machine
end

