-- ==== Sys2Proof/Machine/Floors.lean ====
section
/-! DEFINITION. The Charge Pool and the floor rings (spec/04): numbers, slots, offers of upper floors, estimates. -/

namespace Sys2Proof.Machine

/-- The slot of a number. -/
def Ring.slot (r : Ring) (n : Fin 3) : Slot :=
  if n = 0 then r.slot0 else if n = 1 then r.slot1 else r.slot2

/-- A slot written. -/
def Ring.setSlot (r : Ring) (n : Fin 3) (v : Slot) : Ring :=
  if n = 0 then { r with slot0 := v } else if n = 1 then { r with slot1 := v } else { r with slot2 := v }

/-- The upper floor (R65). -/
def Ring.upper (r : Ring) : Slot := r.slot r.top

/-- The lower floor (R65). -/
def Ring.lower (r : Ring) : Slot := r.slot (r.top + 2)

/-- The charge of a slot. -/
def Slot.charge : Slot → Option Nat
  | .empty => none
  | .loading n => some n
  | .loaded n => some n

/-- R70, R75: the ring turned, so that the old lower slot is the upper floor. -/
def Ring.turn (r : Ring) : Ring := { r with top := r.top + 2 }

/-- Whether any slot holds a charge. -/
def Ring.occupied (r : Ring) : Bool :=
  r.slot0.charge.isSome || r.slot1.charge.isSome || r.slot2.charge.isSome

/-- The charges of a ring. -/
def Ring.charges (r : Ring) : List Nat := [r.slot0, r.slot1, r.slot2].filterMap Slot.charge

/-- R63: the charge number after one, from 65535 to 1. -/
def nextNumber (n : Nat) : Nat := if n < 65535 then n + 1 else 1

/-- R63: the first number from `n` on that no record in use has; at most 40 are passed over. -/
def freeNumber (records : List (Nat × Charge)) : Nat → Nat → Nat
  | 0, n => n
  | fuel + 1, n => if (tableGet records n).isSome then freeNumber records fuel (nextNumber n) else n

/-- R63: the number the next opened charge takes. -/
def State.chargeNumber (s : State) : Nat := freeNumber s.pool.records Config.chargePlaces s.pool.next

/-- R76: an Estimated dried mass. -/
def estimateDried (green : Word) (perMille : Nat) : Word := BitVec.ofNat 32 (green.toNat * perMille / 1000)

/-- A standing reason is present (R39). -/
def HoldReasons.standing (h : HoldReasons) : Bool := h.operator || h.disabled || h.sensorLost || h.unknownLot

/-- R37: whether a kiln is in a route set. -/
def inRoute (c : PickerConfig) (k : KilnId) : Bool := c.route.getLsbD (kilnIndex k)

/-- R49: a picker that waits for a floor. -/
def Picker.waitsForFloor (r : Picker) : Bool := r.state == .held && r.reasons.noFloor && !r.reasons.standing

/-- R49: the pickers a kiln is offered to, in wait order: the earlier NoFloor wait start first, P1 on equal ones. -/
def State.waitOrder (s : State) (k : KilnId) : List PickerId :=
  let waits (p : PickerId) : Bool := (s.picker p).waitsForFloor && inRoute (s.picker p).config k
  let order : List PickerId :=
    if ((s.picker .p2).waitStart.getD s.now) < ((s.picker .p1).waitStart.getD s.now) then [.p2, .p1] else [.p1, .p2]
  order.filter waits

/-- R49: the picker an offered kiln now stands offered to: the first in the wait order, as it stands at this moment, whose
attempt at this offer has not failed. -/
def State.offerNext (s : State) (k : KilnId) : Option PickerId :=
  if (s.kiln k).ring.offered then (s.waitOrder k).find? fun p => !(s.kiln k).ring.declined.contains p else none

/-- R49: an offer that no waiting picker is left for is over. -/
def settleOffer (k : KilnId) (s : State) : State :=
  if (s.offerNext k).isNone then s.onRing k fun r => { r with offered := false, declined := [] } else s

/-- R49: a kiln offered to the waiting pickers but those that have declined it. -/
def openOffer (k : KilnId) (declined : List PickerId) (s : State) : State :=
  settleOffer k (s.onRing k fun r => { r with offered := true, declined := declined })

/-- R49, R67: a kiln that has entered Awaiting or Idle with its upper floor Empty is offered to the waiting pickers. -/
def offerKiln (k : KilnId) (s : State) : State := if (s.kiln k).ring.upper = .empty then openOffer k [] s else s

/-- R67: a released claim: the kiln is offered to the other pickers that wait for a floor. -/
def offerToOthers (k : KilnId) (p : PickerId) (s : State) : State := openOffer k [p] s

/-- R49, R55: a picker that gives up its place in the wait order stands in no offer any more. -/
def leaveOffers (p : PickerId) (s : State) : State :=
  allKilns.foldl (fun s k => settleOffer k (s.onRing k fun r => { r with declined := r.declined.filter fun q => q != p })) s

/-- R63, R47: a freed charge record wakes the pickers that hold NoFloor. -/
def wakeNoFloor (s : State) : State :=
  let wake (r : Picker) : Picker := if r.reasons.noFloor then { r with woken := true } else r
  s.onPickers fun t => { p1 := wake t.p1, p2 := wake t.p2 }

/-- R68: a completed cycle passed by every charge of the ring, holding at 3. -/
def passCycle (k : KilnId) (s : State) : State :=
  (s.kiln k).ring.charges.foldl (fun s c => s.onCharge c fun r => { r with cycles := if r.cycles < 3 then r.cycles + 1 else 3 }) s

end Sys2Proof.Machine
end

