-- ==== Sys2Proof/Machine/Presses.lean ====
section
/-! DEFINITION. Piles and presses (spec/06): retirement, orders, the fill, the coast, the phases, weighing and completion,
Auto and Reweigh; and the commands that are the presses' own events. -/

namespace Sys2Proof.Machine

/-! ## Piles -/

/-- R71: the places of a pile in use. -/
def Press.placesUsed (r : Press) : Nat := r.entries.length + r.inFlight

/-- R71: a freed place wakes every kiln waiting in PileFull on the pile (its asking is PILEFULL_RETRY, log 4). A kiln waits on
the pile its configuration names now, also where the pile number was rewritten since the refusal (log 36). -/
def wakePileFull (b : PressId) (s : State) : State :=
  let wake (r : Kiln) : Kiln := if r.state = .pileFull ∧ r.config.pile = b then { r with pileWoken := true } else r
  s.onKilns fun t =>
    { k1 := wake t.k1, k2 := wake t.k2, k3 := wake t.k3, k4 := wake t.k4, k5 := wake t.k5, k6 := wake t.k6 }

/-- R78: the retirement of the head entry. -/
def retireHead (b : PressId) (s : State) : State :=
  match (s.press b).entries with
  | [] => s
  | c :: rest =>
    let lot := ((s.charge c).map Charge.lot).getD 0
    let s := wakePileFull b (s.onPress b fun r => { r with entries := rest })
    let s := retireFromLot lot s
    wakeNoFloor (s.onPool fun p => { p with records := tableErase p.records c })

/-- R107: whether the head entry carries a dried mass of 0. -/
def State.headIsZero (s : State) (b : PressId) : Bool :=
  match (s.press b).entries with
  | [] => false
  | c :: _ => ((s.charge c).bind Charge.dried) == some 0

/-- R107: entries of dried mass 0 at the head are retired in turn. -/
def retireZeros (b : PressId) : Nat → State → State
  | 0, s => s
  | fuel + 1, s => if s.headIsZero b then retireZeros b fuel (retireHead b s) else s

/-- R78 with R107: the head retired, and then the entries of dried mass 0 it brings to the head. -/
def retireEntry (b : PressId) (s : State) : State := retireZeros b Config.pilePlaces (retireHead b s)

/-! ## Orders -/

/-- R112: a Run order to the PileFeed, queued or owed; an owed one is dropped where no PileFeed is bound at the free place
(DESIGN CHOICE, log 58). -/
def giveRun (b : PressId) (s : State) : State :=
  let s := s.onPress b fun r => { r with feedRun := true, runOwed := false }
  match s.bound .pileFeed (.press b) with
  | none => s
  | some st =>
    if s.downFree then queueDown (ownCommand st 1) false s else s.onPress b fun r => { r with runOwed := true }

/-- R112: a Stop order to the PileFeed, a safety frame; an owed Run is never queued. -/
def giveStop (b : PressId) (s : State) : State :=
  safetyCommand .pileFeed (.press b) 0 (s.onPress b fun r => { r with feedRun := false, runOwed := false })

/-! ## The fill -/

/-- R110: a content entry appended for a charge; Estimated follows its dried mass source. -/
def appendContent (b : PressId) (c : Nat) (s : State) : State :=
  let estimated := ((s.charge c).bind Charge.source) == some .estimated
  s.onBale b fun x =>
    { x with contents := x.contents ++ [{ charge := c, drawn := 0 }], estimated := x.estimated || estimated }

/-- R111: the conditions of a fill start but for the reservation. -/
def Press.mayFill (r : Press) : Bool := r.state == .idle && r.auto && !r.entries.isEmpty && r.slot.isNone

/-- R111: the fill start whose reservation has been granted. -/
def beginFill (b : PressId) (s : State) : State :=
  match (s.press b).entries with
  | [] => s
  | c :: _ =>
    let lot := ((s.charge c).map Charge.lot).getD 0
    let s := s.onPress b fun r =>
      { r with
        state := .filling
        reservationWait := false
        nextBale := nextNumber r.nextBale
        bale := some { number := r.nextBale, lot := lot, contents := [], fill := 0, endReason := none, short := false,
                       overdraw := false, estimated := false, faulted := false, gross := none, net := none,
                       moisture := none } }
    giveRun b (startBaleOfLot lot (appendContent b c s))

/-- R111: the reservation is asked for; a refused press stays Idle and waits for the store. -/
def askFill (b : PressId) (s : State) : State :=
  let s := s.onPress b fun r => { r with fillDue := false }
  match askReservation .bale s with
  | (true, s) => beginFill b s
  | (false, s) => s.onPress b fun r => { r with reservationWait := true }

/-- R111: the fill start test. -/
def tryFill (b : PressId) (s : State) : State := if (s.press b).mayFill then askFill b s else s

/-- R115: the bale withdrawn when the fill ends with no mass. -/
def withdrawBale (b : PressId) (lot : Nat) (s : State) : State :=
  let s := s.onPress b fun r => { r with bale := none, state := .idle, fillDue := true }
  withdrawBaleOfLot lot (returnReservation .bale s)

/-- R115: a fill ends: Stop where the feed runs, then the coast, or a withdrawal where nothing was booked (log 23). -/
def endFill (b : PressId) (reason : FillEnd) (s : State) : State :=
  match (s.press b).bale with
  | none => s
  | some x =>
    let s := if (s.press b).feedRun then giveStop b s else s
    if x.fill = 0 then withdrawBale b x.lot s
    else
      (s.onBale b fun x => { x with endReason := some reason }).onPress b fun r =>
        { r with state := .filling, coastStart := some s.now, coastQuiet := r.config.quiet }

/-- R114: what a press meets after a retirement. -/
inductive HeadCase where
  | contentFull
  | sameLot (charge : Nat)
  | otherLot
  | lotSpent
  | empty
  deriving DecidableEq, Repr

/-- R114: the first case that holds. -/
def State.headCase (s : State) (b : PressId) (x : Bale) : HeadCase :=
  if Config.contentPlaces ≤ x.contents.length then .contentFull
  else
    match (s.press b).entries with
    | c :: _ => if (s.charge c).map Charge.lot = some x.lot then .sameLot c else .otherLot
    | [] => if s.lotSpent x.lot then .lotSpent else .empty

/-- R114: the Stop order and the entry to Starved. -/
def enterStarved (b : PressId) (s : State) : State :=
  latch (srcStarved b) ((giveStop b s).onPress b fun r => { r with state := .starved })

/-- R114: the outcome at a running fill. -/
def actOnHead (b : PressId) (s : State) : State :=
  match (s.press b).bale with
  | none => s
  | some x =>
    match s.headCase b x with
    | .contentFull => endFill b .contentLimit s
    | .sameLot c => appendContent b c s
    | .otherLot => endFill b .lotBreak s
    | .lotSpent => endFill b .lotEnd s
    | .empty => enterStarved b s

/-- A booking to a bale: its fill mass and its last content entry (R113, R117). -/
def bookBale (v : Int) (x : Bale) : Bale :=
  { x with
    fill := addMass x.fill v
    contents := match x.contents.getLast? with
      | some e => x.contents.dropLast ++ [{ e with drawn := addMass e.drawn v }]
      | none => [] }

/-- The charge a bale draws from: its last content entry's. -/
def Bale.drawsFrom (x : Bale) : Option Nat := x.contents.getLast?.map Content.charge

/-- The drawn mass of a charge raised. -/
def drawCharge (v : Int) (c : Charge) : Charge := { c with drawn := some (addMass (c.drawn.getD 0) v) }

/-- Whether a charge's drawn mass has reached its dried mass. -/
def State.drawnOut (s : State) (c : Nat) : Bool :=
  match s.charge c with
  | some r => decide ((r.dried.getD 0).toNat ≤ (r.drawn.getD 0).toNat)
  | none => false

/-- Whether the bale's fill mass has reached the target mass (R113). -/
def State.fillReached (s : State) (b : PressId) : Bool :=
  match (s.press b).bale with
  | some x => decide ((s.press b).config.target ≤ x.fill.toNat)
  | none => false

/-- R113: an increment booked while the feed runs. -/
def bookRunning (b : PressId) (c : Nat) (v : Int) (s : State) : State :=
  let s := (s.onBale b (bookBale v)).onCharge c (drawCharge v)
  if s.drawnOut c then
    let s := retireEntry b s
    if s.fillReached b then endFill b .full s else actOnHead b s
  else if s.fillReached b then endFill b .full s
  else s

/-- R117: an increment booked after a feed stop. -/
def bookCoast (b : PressId) (c : Nat) (v : Int) (s : State) : State :=
  let s := s.onBale b (bookBale v)
  if (s.press b).entries.contains c then
    let s := s.onCharge c (drawCharge v)
    match s.charge c with
    | none => s
    | some r =>
      let drawn := (r.drawn.getD 0).toNat
      let dried := (r.dried.getD 0).toNat
      if dried < drawn then retireEntry b (s.onBale b fun x => { x with overdraw := true })
      else if drawn = dried then retireEntry b s
      else s
  else s.onBale b fun x => { x with overdraw := true }

/-- Whether a press's fill is running (R113). -/
def Press.fillRuns (r : Press) : Bool :=
  r.state == .filling && r.feedRun && (r.bale.bind Bale.endReason).isNone

/-- R117: whether FillScale bookings after a feed stop still reach the bale. -/
def Press.coasts (r : Press) : Bool :=
  r.state == .starved || r.state == .filling || (r.state == .paused && r.resume == some .fill)

/-- R113, R117: an update of the FillScale. -/
def fillScaleUpdate (b : PressId) (u : Update) (s : State) : State :=
  if u.report then
    match bookedNormal u.view with
    | none => s
    | some v =>
      match (s.press b).bale.bind Bale.drawsFrom with
      | some c =>
        if (s.press b).fillRuns then bookRunning b c v s
        else if (s.press b).coasts then bookCoast b c v s
        else s.onPress b fun r => { r with unbooked := addMass r.unbooked v }
      | none => s.onPress b fun r => { r with unbooked := addMass r.unbooked v }
  else s

/-- R116: the test for LotEnd at a Starved press. -/
def lotEndTest (b : PressId) (s : State) : State :=
  match (s.press b).state, (s.press b).bale with
  | .starved, some x => if s.lotSpent x.lot then endFill b .lotEnd s else s
  | _, _ => s

/-- R116: a Starved press takes an appended entry; R111: an Idle one is to test its fill start. -/
def takeAppend (b : PressId) (s : State) : State :=
  match (s.press b).state, (s.press b).bale, (s.press b).entries with
  | .starved, some x, c :: _ =>
    if (s.charge c).map Charge.lot = some x.lot then
      (giveRun b (appendContent b c s)).onPress b fun r => { r with state := .filling }
    else endFill b .lotBreak s
  | .idle, _, _ => s.onPress b fun r => { r with fillDue := true }
  | _, _, _ => s

/-- R71, R106: the append of a dropped charge, whose place was held since its drop's start. -/
def appendToPile (b : PressId) (c : Nat) (s : State) : State :=
  let s := s.onPress b fun r => { r with entries := r.entries ++ [c], inFlight := r.inFlight - 1 }
  takeAppend b (retireZeros b Config.pilePlaces s)

/-! ## The pressing phases -/

/-- The three phases (R118). -/
inductive Phase where
  | compress | tie | eject
  deriving DecidableEq, Repr

/-- The Command and report code of a phase (R118). -/
def phaseCode : Phase → Int
  | .compress => 1
  | .tie => 2
  | .eject => 3

/-- The press state of a phase. -/
def phaseState : Phase → PressState
  | .compress => .compressing
  | .tie => .tying
  | .eject => .ejecting

/-- The phase of a press state. -/
def phaseOf : PressState → Option Phase
  | .compressing => some .compress
  | .tying => some .tie
  | .ejecting => some .eject
  | _ => none

/-- The configured timeout of a phase (R108). -/
def phaseLimit (c : PressConfig) : Phase → Nat
  | .compress => c.compressTimeout
  | .tie => c.tieTimeout
  | .eject => c.ejectTimeout

/-- The fault cause of a phase's timeout (R119). -/
def phaseCause : Phase → FaultCause
  | .compress => .compressTimeout
  | .tie => .tieTimeout
  | .eject => .ejectTimeout

/-- R118: the phase command queued, or owed where no place outside the safety places is free; an owed one is dropped where no
PressHydraulics is bound at the free place (DESIGN CHOICE, log 58). -/
def sendPhase (b : PressId) (ph : Phase) (s : State) : State :=
  match s.bound .pressHydraulics (.press b) with
  | none => s.onPress b fun r => { r with phaseOwed := false }
  | some st =>
    if s.downFree then
      (queueDown (ownCommand st (phaseCode ph)) false s).onPress b fun r => { r with phaseOwed := false }
    else s.onPress b fun r => { r with phaseOwed := true }

/-- R118: a phase ordered. -/
def orderPhase (b : PressId) (ph : Phase) (s : State) : State :=
  sendPhase b ph (s.onPress b fun r =>
    { r with state := phaseState ph, phaseStart := some s.now, phaseTimeout := phaseLimit r.config ph })

/-- A press Paused at a resume point (R117, R118). -/
def pausePress (b : PressId) (at_ : ResumePoint) (s : State) : State :=
  s.onPress b fun r => { r with state := .paused, resume := some at_ }

/-- R120: the weighing slot opened at Eject complete. -/
def enterWeighing (b : PressId) (s : State) : State :=
  s.onPress b fun r =>
    { r with
      state := .weighing
      slot := some { purpose := .bale, bale := (r.bale.map Bale.number).getD 0, start := s.now, best := none,
                     window := r.config.weighWindow } }

/-- R118: a phase completes; an order of it still owed is dropped (log 39). -/
def completePhase (b : PressId) (ph : Phase) (s : State) : State :=
  let s := s.onPress b fun r => { r with phaseStart := none, phaseOwed := false }
  match ph with
  | .compress => if (s.press b).auto then orderPhase b .tie s else pausePress b .tie s
  | .tie => if (s.press b).auto then orderPhase b .eject s else pausePress b .eject s
  | .eject => enterWeighing b s

/-- R119, R126: the press is Faulted; a Stop goes to the hydraulics as a safety frame. -/
def faultPress (b : PressId) (cause : FaultCause) (s : State) : State :=
  let s := s.onPress b fun r => { r with state := .faulted, cause := some cause, phaseStart := none, phaseOwed := false }
  latch (srcFaulted b) (safetyCommand .pressHydraulics (.press b) 0 s)

/-- R118, R119: an update of the PressHydraulics. -/
def hydraulicsUpdate (b : PressId) (u : Update) (s : State) : State :=
  match phaseOf (s.press b).state with
  | none => s
  | some ph =>
    if u.report ∧ u.view.substituted = false then
      if u.view.cls = .normal ∧ u.view.value = some (phaseCode ph) then completePhase b ph s
      else if u.view.cls = .fault then faultPress b .hydraulicsFault s
      else s
    else s

/-! ## Weighing and completion -/

/-- R121: a bale completes. An older entry of the recent bales that holds its number stays (R109, log 52). -/
def completeBale (b : PressId) (s : State) : State :=
  match (s.press b).bale with
  | none => s
  | some x =>
    let cfg := (s.press b).config
    let x := { x with short := decide (x.fill.toNat < cfg.minimum) }
    let serial := s.serialNext
    let grower := s.growerOf x.lot
    let entry : RecentBale :=
      { number := x.number, lot := x.lot, grower := grower, serial := serial, gross := x.gross, net := x.net, tare := cfg.tare }
    let s := issueTicket .bale x.lot grower (.bale b x cfg.tare) s
    let s := s.onPress b fun r =>
      { r with
        recent := (if r.recent.length < Config.recentPlaces then r.recent else r.recent.drop 1) ++ [entry]
        bale := none
        state := .idle
        fillDue := true }
    let s := completeBaleOfLot x.lot x.net s
    if x.net.isNone then latch (srcUnweighed b) s else s

/-- R120: the moisture attached at the end of a weighing. -/
def State.baleMoistureNow (s : State) (b : PressId) : Option Int :=
  match s.bound .baleMoisture (.press b) with
  | none => none
  | some st =>
    let v := s.view st 0
    if v.isGood && !v.substituted then v.value else none

/-- R120: a weighing for a bale ends with the given gross and net, and the bale completes. -/
def endBaleWeighing (b : PressId) (gross net : Option Int) (s : State) : State :=
  let moisture := s.baleMoistureNow b
  let s := s.onBale b fun x => { x with gross := gross, net := net, moisture := moisture }
  completeBale b (s.onPress b fun r => { r with slot := none })

/-- R124, R175: the Reply of a Reweigh: request code 67, Done, outcome Weighed (1) with the serial or Unweighed (2; log 30). -/
def reweighReplyFrame (r : ReweighReply) : Frame :=
  ownUpFrame .reply r.tag ([67, 0] ++
    match r.serial with
    | some n => 1 :: fieldNat 4 n
    | none => [2])

/-- R175: the owed Reply queued at once where a place is free and none is owed before it; else kept. Of two Replies one press owes
the older is queued first, and the later waits behind it also while a place is free (DESIGN CHOICE, log 60). -/
def oweReweighReply (b : PressId) (r : ReweighReply) (s : State) : State :=
  if 1 ≤ s.upFree ∧ (s.press b).owedReplies = [] then queueUp (reweighReplyFrame r) .reply s
  else s.onPress b fun p => { p with owedReplies := p.owedReplies ++ [r] }

/-- R123: a Paused press resumes its fill (only after a Yard Reset). -/
def resumeFill (b : PressId) (s : State) : State :=
  let filling (s : State) : State := s.onPress b fun r => { r with state := .filling }
  match (s.press b).bale with
  | none => s
  | some x =>
    if (s.press b).entries.head? = x.drawsFrom ∧ x.drawsFrom.isSome then giveRun b (filling s)
    else
      match s.headCase b x with
      | .contentFull => endFill b .contentLimit s
      | .sameLot c => giveRun b (filling (appendContent b c s))
      | .otherLot => endFill b .lotBreak s
      | .lotSpent => endFill b .lotEnd s
      | .empty => enterStarved b s

/-- R123: resuming from Paused. -/
def resumePress (b : PressId) (s : State) : State :=
  match (s.press b).resume with
  | none => s
  | some at_ =>
    let s := s.onPress b fun r => { r with resume := none }
    match at_ with
    | .fill => resumeFill b s
    | .compress => orderPhase b .compress s
    | .tie => orderPhase b .tie s
    | .eject => orderPhase b .eject s

/-- R124: what a press does after a Reweigh: test its fill start, or resume if Paused with Auto set. -/
def afterReweigh (b : PressId) (s : State) : State :=
  let s := s.onPress b fun r => { r with slot := none, reweighTag := none }
  match (s.press b).state with
  | .idle => s.onPress b fun r => { r with fillDue := true }
  | .paused => if (s.press b).auto then resumePress b s else s
  | _ => s

/-- The recent-bale list entry of a bale number, the older where two hold it (log 52). -/
def Press.recentOf (r : Press) (n : Nat) : Option RecentBale := r.recent.find? fun e => e.number == n

/-- R124: a Reweigh ends with a good weight: its ticket, its list entry and its Reply. Where two entries hold the bale's
number, the gross and net of both are replaced (log 52). -/
def endReweighWeighed (b : PressId) (w : WeighSlot) (gross net : Int) (s : State) : State :=
  match (s.press b).recentOf w.bale with
  | none => s
  | some e =>
    let tag := (s.press b).reweighTag.getD 0
    let serial := s.serialNext
    let s := issueTicket .reweigh e.lot e.grower (.reweigh b e.number e.serial gross net) s
    let s := s.onPress b fun r =>
      { r with recent := r.recent.map fun x =>
          if x.number = e.number then { x with gross := some gross, net := some net } else x }
    oweReweighReply b { tag := tag, serial := some serial } s

/-- R124: a Reweigh ends without a weight. -/
def endReweighUnweighed (b : PressId) (s : State) : State :=
  let tag := (s.press b).reweighTag.getD 0
  oweReweighReply b { tag := tag, serial := none } (returnReservation .reweigh s)

/-- R120, R124: the tare a weighing's net is formed with. -/
def Press.weighTare (r : Press) (w : WeighSlot) : Nat :=
  match w.purpose with
  | .bale => r.config.tare
  | .reweigh => ((r.recentOf w.bale).map RecentBale.tare).getD r.config.tare

/-- R120, R124: an update of the BaleScale in the weigh window. -/
def baleScaleUpdate (b : PressId) (u : Update) (s : State) : State :=
  match (s.press b).slot, u.view.value with
  | some w, some gross =>
    if u.report ∧ u.settled ∧ u.view.cls = .normal ∧ u.view.substituted = false then
      let net := netWeight u.view ((s.press b).weighTare w)
      match net.cls, net.value with
      | .normal, some net =>
        match w.purpose with
        | .bale => endBaleWeighing b (some gross) (some net) s
        | .reweigh => afterReweigh b (endReweighWeighed b w gross net s)
      | _, _ => s.onPress b fun r => { r with slot := some { w with best := some gross } }
    else s
  | _, _ => s

/-! ## Auto -/

/-- R123, R111: Auto cleared; the press Pauses only at its next phase boundary. -/
def clearAuto (b : PressId) (s : State) : State :=
  if (s.press b).auto then
    s.onPress b fun r => { r with auto := false, reservationWait := false, fillDue := false }
  else s

/-- R123: Auto set. -/
def setAuto (b : PressId) (s : State) : State :=
  let was := (s.press b).auto
  let s := s.onPress b fun r => { r with auto := true }
  if was then s
  else
    match (s.press b).state with
    | .idle => tryFill b s
    | .paused => if (s.press b).slot.isNone then resumePress b s else s
    | _ => s

/-! ## The presses' own events -/

/-- FILL_START (R111): the fill start test that is due. -/
def execFillStart (b : PressId) (s : State) : Result :=
  .next (if (s.press b).fillDue then tryFill b s else s)

/-- PILE_FEED_RUN_OWED_QUEUED (R112): an owed Run queued at the first free place outside the safety places. -/
def execPileFeedRunOwedQueued (b : PressId) (s : State) : Result :=
  .next (if (s.press b).runOwed && s.downFree then giveRun b s else s)

/-- COAST_END (R117): the fill quiet interval has passed since coast start. -/
def execCoastEnd (b : PressId) (s : State) : Result :=
  match (s.press b).coastStart with
  | none => .next s
  | some t =>
    if t + (s.press b).coastQuiet ≤ s.now then
      let s := s.onPress b fun r => { r with coastStart := none }
      .next (if (s.press b).auto then orderPhase b .compress s else pausePress b .compress s)
    else .next s

/-- PHASE_ORDER_OWED_QUEUED (R118): an owed phase command queued at the first free place outside the safety places. -/
def execPhaseOrderOwedQueued (b : PressId) (s : State) : Result :=
  match phaseOf (s.press b).state with
  | some ph => .next (if (s.press b).phaseOwed && s.downFree then sendPhase b ph s else s)
  | none => .next s

/-- PHASE_TIMEOUT (R119): the phase's timeout has passed from phase start. -/
def execPhaseTimeout (b : PressId) (s : State) : Result :=
  match phaseOf (s.press b).state, (s.press b).phaseStart with
  | some ph, some t =>
    .next (if t + (s.press b).phaseTimeout ≤ s.now then faultPress b (phaseCause ph) s else s)
  | _, _ => .next s

/-- WEIGH_WINDOW_END (R120, R124): the weigh window has passed with no good weight. -/
def execWeighWindowEnd (b : PressId) (s : State) : Result :=
  match (s.press b).slot with
  | none => .next s
  | some w =>
    if w.start + w.window ≤ s.now then
      match w.purpose with
      | .bale => .next (endBaleWeighing b w.best none s)
      | .reweigh => .next (afterReweigh b (endReweighUnweighed b s))
    else .next s

/-- REWEIGH_REPLY_QUEUED (R124, R175): the press's oldest owed Reweigh Reply (log 60) queued at the first free place. -/
def execReweighReplyQueued (b : PressId) (s : State) : Result :=
  match (s.press b).owedReplies with
  | [] => .next s
  | r :: rest =>
    .next (if 1 ≤ s.upFree then (queueUp (reweighReplyFrame r) .reply s).onPress b fun p => { p with owedReplies := rest }
           else s)

end Sys2Proof.Machine
end

