-- ==== Sys2Proof/Machine/Kilns.lean ====
section
/-! DEFINITION. The Kiln Cycle Controllers and the drops (spec/04 4.3, spec/05): injections, stages, cycle completion,
drop starts and completions, band checks, mode flags; and the commands that are the kilns' own events. -/

namespace Sys2Proof.Machine

/-! ## Clocks and stages -/

/-- Whether a state is Cycling or Finishing. -/
def KilnState.cycles (st : KilnState) : Bool := st == .cycling || st == .finishing

/-- R89: the stage clock runs. -/
def Kiln.clockRuns (r : Kiln) : Bool := r.state.cycles && !r.dropOwed && r.permit.state == .live

/-- R84: the kiln has a stage running. -/
def Kiln.stageRuns (r : Kiln) : Bool := (r.state.cycles && !r.dropOwed) || r.state == .hold || r.state == .manual

/-- R86, R94, R95: the state a stage copy gives. -/
def StageCopy.runState (c : StageCopy) : KilnState :=
  if c.last ∧ c.stage.endTest = .moisture then .finishing else .cycling

/-- R93: excursion start and band latched are cleared each time the stage clock stops. -/
def clearExcursion (k : KilnId) (s : State) : State :=
  s.onKiln k fun r => { r with excursionStart := none, bandLatched := false }

/-! ## Injections (R92) -/

/-- R92, R93: the injected air setpoint of a stage. -/
def injectedSetpoint (c : KilnConfig) (g : Stage) : Int := if c.maxSetpoint < g.setpoint then c.maxSetpoint else g.setpoint

/-- R92: the Burner and Fan values of a kiln, where it injects. -/
def Kiln.injection (r : Kiln) : Option (Int × Nat) :=
  if r.scheduleFlag then
    let held : Option (Int × Nat) := some (r.config.holdSetpoint, r.config.purgeFan)
    let running : Option (Int × Nat) :=
      if r.dropOwed then held else r.copy.map fun c => (injectedSetpoint r.config c.stage, c.stage.fan)
    match r.state with
    | .idle => some (0, 0)
    | .awaiting => held
    | .loading => held
    | .ready => held
    | .pileFull => held
    | .cycling => running
    | .finishing => running
    | .dropping => if r.permit.state = .tripped then none else held
    | .hold => r.copy.map fun c => (r.config.holdSetpoint, c.stage.fan)
    | .manual => none
    | .tripped => none
  else none

/-- The role of an injection's station. -/
def targetRole : HeatTarget → Role
  | .burner => .burner
  | .fan => .fan

/-- A kiln's owed mark for a station (R84). -/
def Kiln.owes (r : Kiln) : HeatTarget → Bool
  | .burner => r.burnerOwed
  | .fan => r.fanOwed

/-- A kiln's owed mark written. -/
def setOwed (k : KilnId) (t : HeatTarget) (b : Bool) (s : State) : State :=
  s.onKiln k fun r => match t with
    | .burner => { r with burnerOwed := b }
    | .fan => { r with fanOwed := b }

/-- R92: whether an injected Command to a station waits in the Own queue down. -/
def State.injectionWaits (s : State) (station : Nat) : Bool :=
  s.line.ownDown.any fun e => e.injected && e.frame.dest == station

/-- The value of an injection for a station. -/
def injectionValue (t : HeatTarget) (v : Int × Nat) : Int :=
  match t with
  | .burner => v.1
  | .fan => v.2

/-- R92: one injected Command, queued or owed; an unbound station receives nothing, and a Command still owed to it is dropped
(DESIGN CHOICE, log 58). -/
def injectTo (k : KilnId) (t : HeatTarget) (v : Int × Nat) (s : State) : State :=
  match s.bound (targetRole t) (.kiln k) with
  | none => setOwed k t false s
  | some st =>
    if s.injectionWaits st || !s.downFree then setOwed k t true s
    else setOwed k t false (queueDown (ownCommand st (injectionValue t v)) true s)

/-- R92: an injection falling due; nothing where the kiln's row gives no values (log 22). The Burner's Command joins the queue
before the Fan's (DESIGN CHOICE, log 56). -/
def inject (k : KilnId) (s : State) : State :=
  match (s.kiln k).injection with
  | none => s
  | some v => (injectTo k .fan v (injectTo k .burner v s)).onKiln k fun r => { r with lastInjection := some s.now }

/-- An entry to a kiln state, with the injection of R92. -/
def enterKiln (k : KilnId) (st : KilnState) (s : State) : State := inject k (s.onKiln k fun r => { r with state := st })

/-! ## Awaiting, Idle and Loading -/

/-- R70, R75, R87: the kiln enters Awaiting if a slot holds a charge, and Idle otherwise, and is offered (R67). -/
def enterAwaitingOrIdle (k : KilnId) (s : State) : State :=
  if (s.kiln k).ring.occupied then
    offerKiln k (enterKiln k .awaiting (s.onKiln k fun r => { r with awaitingStart := some s.now, overdue := false }))
  else offerKiln k (enterKiln k .idle s)

/-- R85: the kiln enters Loading. -/
def enterLoading (k : KilnId) (s : State) : State :=
  enterKiln k .loading (s.onKiln k fun r => { r with capture := none, awaitingStart := none, overdue := false })

/-! ## Drop starts (R69, R70) -/

/-- A kiln's cycle record cleared when its drop start is taken (R91). -/
def clearCycle (k : KilnId) (s : State) : State :=
  s.onKiln k fun r =>
    { r with dropOwed := false, stage := none, copy := none, cycleSchedule := none, dropRetryFrom := none, pileWoken := false }

/-- R70: an empty drop. -/
def emptyDrop (k : KilnId) (s : State) : State :=
  let s := clearCycle k s
  enterAwaitingOrIdle k (s.onRing k fun r => { r.turn with emptyDrops := r.emptyDrops + 1 })

/-- R72: a gate order queued, where a DropGate is bound. -/
def queueGate (k : KilnId) (v : Int) (s : State) : State :=
  match s.bound .dropGate (.kiln k) with
  | some st => queueDown (ownCommand st v) false s
  | none => s

/-- R69: the drop start taken, in one step. Its Open replaces a gate order a Line Reset still owed (log 24), and is queued
before the injection of the entry to Dropping (log 54). -/
def takeDrop (k : KilnId) (c : Nat) (s : State) : State :=
  let pile := (s.kiln k).config.pile
  let limit := (s.kiln k).config.dropTimeout
  let s := s.onRing k fun r =>
    { r with
      drop := some { charge := c, pile := pile, start := s.now, timeout := limit, measured := false }
      gateCloseOwed := false
      gateRestore := false }
  let s := s.onCharge c fun r => { r with state := .dropping, pile := some pile, dried := some 0 }
  let s := s.onPress pile fun r => { r with inFlight := r.inFlight + 1 }
  enterKiln k .dropping (clearCycle k (queueGate k 1 s))

/-- R91: the kiln enters PileFull; PileFull is latched on each such entry. -/
def enterPileFull (k : KilnId) (s : State) : State :=
  if (s.kiln k).state = .pileFull then s else latch (srcPileFull k) (enterKiln k .pileFull s)

/-- R69: whether the queue place of a drop start is missing. -/
def State.gatePlaceMissing (s : State) (k : KilnId) : Bool := (s.bound .dropGate (.kiln k)).isSome && !s.downFree

/-- R69, R91: the drop start asked for. Where both checks fail, the queue's outcome holds and the pile is not asked (log 48). -/
def askDrop (k : KilnId) (s : State) : State :=
  match (s.kiln k).ring.upper, (s.kiln k).ring.lower with
  | .loading _, _ => s
  | _, .empty => emptyDrop k s
  | _, .loading _ => s
  | _, .loaded c =>
    if s.gatePlaceMissing k then s.onKiln k fun r => { r with dropRetryFrom := some s.now, pileWoken := false }
    else if (s.press (s.kiln k).config.pile).placesUsed < Config.pilePlaces then takeDrop k c s
    else enterPileFull k (s.onKiln k fun r => { r with dropRetryFrom := none, pileWoken := false })

/-- A completed cycle asks for its drop start; where that leaves the kiln in its state, the row "drop owed yes" is new to it
and is injected, and not where the drop start moves it on (R91, R92, log 22). -/
def oweDrop (k : KilnId) (s : State) : State :=
  let s := askDrop k s
  if (s.kiln k).state.cycles ∧ (s.kiln k).dropOwed then inject k s else s

/-- R91: the cycle completes. -/
def completeCycle (k : KilnId) (s : State) : State :=
  let s := latch (srcCycleDone k) s
  let s := clearExcursion k (s.onKiln k fun r => { r with dropOwed := true })
  oweDrop k (passCycle k s)

/-! ## Stages (R86, R89, R90) -/

/-- R90: the moisture test at the entry to Finishing. -/
def moistureAtEntry (k : KilnId) (s : State) : State :=
  if (s.kiln k).state = .finishing ∧ (s.kiln k).clockRuns ∧ (s.kiln k).ring.lower = .empty then completeCycle k s else s

/-- R86: a stage entry, but for what follows it; nothing where the cycle schedule has no such stage. -/
def loadStage (k : KilnId) (n elapsed : Nat) (s : State) : State :=
  match (s.kiln k).cycleSchedule with
  | none => s
  | some g =>
    match s.stageOf g n with
    | none => s
    | some x =>
      let c : StageCopy := { stage := x, last := n == (s.schedule g).length }
      enterKiln k (if (s.kiln k).holdOff then c.runState else .hold) (s.onKiln k fun r =>
        { r with stage := some n, copy := some c, stageElapsed := elapsed, excursionStart := none, bandLatched := false })

/-- R86: a stage entry with stage elapsed 0. -/
def enterStage (k : KilnId) (n : Nat) (s : State) : State := moistureAtEntry k (loadStage k n 0 s)

/-- R89: the end of a Time stage. -/
def endStage (k : KilnId) (s : State) : State :=
  match (s.kiln k).copy, (s.kiln k).cycleSchedule, (s.kiln k).stage with
  | some c, some g, some n =>
    if !c.last && (s.stageOf g (n + 1)).isSome then enterStage k (n + 1) s else completeCycle k s
  | _, _, _ => s

/-- R90: the cycle completes by timed-dry. -/
def timedDry (k : KilnId) (s : State) : State :=
  let s := match (s.kiln k).ring.lower.charge with
    | some c => s.onCharge c fun r => { r with timedDry := true }
    | none => s
  completeCycle k s

/-- R89: whether the running stage has reached its duration. -/
def Kiln.stageDue (r : Kiln) : Bool :=
  r.clockRuns && match r.copy with
    | some c => decide (c.stage.duration ≤ r.stageElapsed)
    | none => false

/-- R101: a captured stage entered at its captured elapsed, which ends at once where it has reached its duration; one that
HoldOff sends to Hold stays there, its clock stopped, and ends after its release (log 44). -/
def resumeStage (k : KilnId) (n elapsed : Nat) (s : State) : State :=
  let s := moistureAtEntry k (loadStage k n elapsed s)
  if (s.kiln k).stageDue then (if (s.kiln k).state = .finishing then timedDry k s else endStage k s) else s

/-- R86: a cycle start at stage 1. -/
def startCycle (k : KilnId) (s : State) : State :=
  enterStage k 1 (s.onKiln k fun r =>
    { r with cycleSchedule := some r.config.schedule, awaitingStart := none, overdue := false })

/-- R86, R87: the conditions of a cycle start. -/
def State.mayStart (s : State) (k : KilnId) : Bool :=
  let r := s.kiln k
  (r.state == .ready || (r.state == .awaiting && r.overdue)) && r.permit.state == .live && r.scheduleFlag &&
    !(s.schedule r.config.schedule).isEmpty && r.capture.isNone

/-- R86, R87: a Ready or overdue kiln starts its cycle as soon as the conditions hold. -/
def tryStart (k : KilnId) (s : State) : State := if s.mayStart k then startCycle k s else s

/-- R85: the kiln enters Ready at the close of its loading charge. -/
def enterReady (k : KilnId) (s : State) : State := tryStart k (enterKiln k .ready s)

/-! ## Drop completion (R75) -/

/-- R75, step 1: the dried mass and its source. -/
def driedMass (d : Drop) (c : Charge) (yield : Nat) : Word × DriedSource :=
  if d.measured then (c.dried.getD 0, .measured) else (estimateDried c.green yield, .estimated)

/-- R75, step 5: the gate's Close, queued or owed. -/
def closeGate (k : KilnId) (s : State) : State :=
  match s.bound .dropGate (.kiln k) with
  | none => s
  | some st =>
    if s.downFree then queueDown (ownCommand st 0) false s else s.onRing k fun r => { r with gateCloseOwed := true }

/-- R75, R91: the kiln's state after its drop. -/
def afterDrop (k : KilnId) (s : State) : State :=
  if (s.kiln k).permit.state = .tripped then enterKiln k .tripped s else enterAwaitingOrIdle k s

/-- The other press. -/
def otherPress : PressId → PressId
  | .b1 => .b2
  | .b2 => .b1

/-- R75, steps 1 and 2: the dropped charge Piled with its dried mass, which its lot gains (R10). -/
def creditDrop (k : KilnId) (d : Drop) (s : State) : State :=
  match s.charge d.charge with
  | none => s
  | some c =>
    let dried := driedMass d c (s.kiln k).config.nominalYield
    addDried c.lot dried.1 (s.onCharge d.charge fun r =>
      { r with state := .piled, dried := some dried.1, source := some dried.2, drawn := some 0 })

/-- R75: a drop completes. The press of the pile takes the append, and the other press tests for LotEnd (R116). The press's
Run takes its place in the Own queue down before the gate's Close (log 37). -/
def completeDrop (k : KilnId) (s : State) : State :=
  match (s.kiln k).ring.drop with
  | none => s
  | some d =>
    let s := (creditDrop k d s).onRing k fun r =>
      { (r.setSlot (r.top + 2) .empty).turn with drop := none, dropsCompleted := r.dropsCompleted + 1, gateRestore := false }
    let s := lotEndTest (otherPress d.pile) (appendToPile d.pile d.charge s)
    afterDrop k (closeGate k s)

/-- R74, R81: the dropping charge flagged DropInterrupted. -/
def interruptDrop (k : KilnId) (s : State) : State :=
  match (s.kiln k).ring.drop with
  | some d => s.onCharge d.charge fun r => { r with interrupted := true }
  | none => s

/-! ## Updates of the kiln's stations -/

/-- R72: an update of the DropGate. -/
def dropGateUpdate (k : KilnId) (u : Update) (s : State) : State :=
  if u.report ∧ u.view.substituted = false ∧ u.view.cls = .normal ∧ u.view.value = some 2 then completeDrop k s else s

/-- R73: an update of the DropScale. -/
def dropScaleUpdate (k : KilnId) (u : Update) (s : State) : State :=
  match (s.kiln k).ring.drop with
  | none => s
  | some d =>
    if u.report ∧ u.view.isGood then
      let s := match bookedNormal u.view with
        | some v => s.onCharge d.charge fun r => { r with dried := some (addMass (r.dried.getD 0) v) }
        | none => s
      s.onRing k fun r => { r with drop := r.drop.map fun d => { d with measured := true } }
    else s

/-- R7: the moisture target of a kiln's lower charge. -/
def State.moistureTarget (s : State) (k : KilnId) (c : Nat) : Nat :=
  (((s.charge c).bind fun r => s.lot r.lot).bind Lot.moistureOverride).getD (s.kiln k).config.moistureTarget

/-- R90: an update of the FloorMoisture. -/
def moistureUpdate (k : KilnId) (u : Update) (s : State) : State :=
  if (s.kiln k).state = .finishing ∧ (s.kiln k).clockRuns then
    match (s.kiln k).ring.lower.charge with
    | none => completeCycle k s
    | some c =>
      match u.view.value with
      | some v =>
        if u.report ∧ u.view.isGood ∧ u.view.substituted = false ∧ v ≤ s.moistureTarget k c then completeCycle k s else s
      | none => s
  else s

/-- R94: the HoldOff flag cleared, by a watch or a band action. -/
def clearHoldOff (k : KilnId) (s : State) : State :=
  if (s.kiln k).holdOff then
    let s := s.onKiln k fun r => { r with holdOff := false }
    if (s.kiln k).state.cycles ∧ (s.kiln k).dropOwed = false then enterKiln k .hold (clearExcursion k s) else s
  else s

/-- R93: the excursion is decided. -/
def decideBand (k : KilnId) (s : State) : State :=
  let s := latch (srcBand k) (s.onKiln k fun r => { r with bandLatched := true })
  if (s.kiln k).config.bandAction = .hold then clearHoldOff k s else s

/-- R93: the comparison of a reading with the band of the running stage. -/
def bandOf (c : KilnConfig) (g : Stage) (v : View) : BandOutcome :=
  compareBand (injectedSetpoint c g - g.halfWidth) (injectedSetpoint c g + g.halfWidth) v

/-- R93: an update of the AirTemp; a grace of 0 decides at once. -/
def airTempUpdate (k : KilnId) (u : Update) (s : State) : State :=
  match (s.kiln k).copy with
  | none => s
  | some c =>
    if (s.kiln k).clockRuns then
      if bandOf (s.kiln k).config c.stage u.view = .inside then clearExcursion k s
      else
        let s := s.onKiln k fun r => { r with excursionStart := some (r.excursionStart.getD s.now) }
        if c.stage.grace = 0 ∧ (s.kiln k).bandLatched = false then decideBand k s else s
    else s

/-! ## Mode flags (R94, R95) -/

/-- A kiln whose stage runs again enters the state its copy gives, with the moisture test of an entry to Finishing. -/
def returnToStage (k : KilnId) (s : State) : State :=
  match (s.kiln k).copy with
  | some c => moistureAtEntry k (enterKiln k c.runState s)
  | none => s

/-- R94: Kiln Release. -/
def releaseHold (k : KilnId) (s : State) : State :=
  let s := s.onKiln k fun r => { r with holdOff := true }
  if (s.kiln k).state = .hold then returnToStage k s else s

/-- R95: the Schedule flag cleared, by Kiln Mode or a watch. -/
def clearSchedule (k : KilnId) (s : State) : State :=
  let s := s.onKiln k fun r => { r with scheduleFlag := false }
  if (s.kiln k).stageRuns ∧ (s.kiln k).state ≠ .manual then enterKiln k .manual (clearExcursion k s) else s

/-- R95: the Schedule flag set, by Kiln Mode. -/
def setSchedule (k : KilnId) (s : State) : State :=
  let s := s.onKiln k fun r => { r with scheduleFlag := true }
  if (s.kiln k).state = .manual then
    if (s.kiln k).holdOff then returnToStage k s else enterKiln k .hold s
  else tryStart k (inject k s)

/-! ## The kilns' own events -/

/-- DROP_START_RETRY (R69): a drop start that found no queue place is asked for again one second later. -/
def execDropStartRetry (k : KilnId) (s : State) : Result :=
  match (s.kiln k).dropRetryFrom with
  | none => .next s
  | some t =>
    .next (if t + 1 ≤ s.now ∧ (s.kiln k).dropOwed ∧ (s.kiln k).state ≠ .dropping then askDrop k s else s)

/-- PILEFULL_RETRY (R71): a kiln in PileFull asks again at the freeing of a place of its pile. -/
def execPilefullRetry (k : KilnId) (s : State) : Result :=
  .next (if (s.kiln k).state = .pileFull ∧ (s.kiln k).pileWoken then askDrop k s else s)

/-- DROP_TIMEOUT (R74). -/
def execDropTimeout (k : KilnId) (s : State) : Result :=
  match (s.kiln k).ring.drop with
  | none => .next s
  | some d =>
    .next (if d.start + d.timeout ≤ s.now then completeDrop k (latch (srcDropTimeout k) (interruptDrop k s)) else s)

/-- GATE_CLOSE_OWED_QUEUED (R75): the owed Close queued at the first free place; with no DropGate bound by then the mark is
dropped (log 38). -/
def execGateCloseOwedQueued (k : KilnId) (s : State) : Result :=
  .next (if (s.kiln k).ring.gateCloseOwed ∧ s.downFree then
      (queueGate k 0 s).onRing k fun r => { r with gateCloseOwed := false }
    else s)

/-- AWAITING_OVERDUE (R87): the awaiting limit, as configured at this test (log 45), has passed since awaiting start. -/
def execAwaitingOverdue (k : KilnId) (s : State) : Result :=
  match (s.kiln k).awaitingStart with
  | none => .next s
  | some t =>
    .next (if (s.kiln k).state = .awaiting ∧ (s.kiln k).config.awaitingLimit ≠ 0
        ∧ t + (s.kiln k).config.awaitingLimit ≤ s.now then
      tryStart k (s.onKiln k fun r => { r with overdue := true })
    else s)

/-- STAGE_END (R89): stage elapsed has reached the duration of a Time stage. -/
def execStageEnd (k : KilnId) (s : State) : Result :=
  .next (if (s.kiln k).stageDue ∧ (s.kiln k).state ≠ .finishing then endStage k s else s)

/-- TIMED_DRY_END (R90): stage elapsed has reached the duration of a Finishing stage. -/
def execTimedDryEnd (k : KilnId) (s : State) : Result :=
  .next (if (s.kiln k).stageDue ∧ (s.kiln k).state = .finishing then timedDry k s else s)

/-- INJECTION_REFRESH (R92): the setpoint refresh interval has passed since the last injection; the interval is the one
configured at this test (log 45). -/
def execInjectionRefresh (k : KilnId) (s : State) : Result :=
  match (s.kiln k).lastInjection with
  | none => .next s
  | some t => .next (if t + (s.kiln k).config.refresh ≤ s.now then inject k s else s)

/-- R92: no injected Command waits for a kiln's station and a place outside the safety places is free. -/
def State.injectionReady (s : State) (k : KilnId) (t : HeatTarget) : Bool :=
  s.downFree && match s.bound (targetRole t) (.kiln k) with
    | some st => !s.injectionWaits st
    | none => true

/-- INJECTION_OWED_QUEUED (R92): as soon as the waiting Command has been transmitted and a place is free, an owed command
is queued with the values in force, or its mark dropped where the kiln injects nothing at that moment. -/
def execInjectionOwedQueued (k : KilnId) (t : HeatTarget) (s : State) : Result :=
  .next (if (s.kiln k).owes t && s.injectionReady k t then
      match (s.kiln k).injection with
      | none => setOwed k t false s
      | some v => injectTo k t v s
    else s)

/-- BAND_EXCURSION_DECIDED (R93): the band grace has passed since excursion start. -/
def execBandExcursionDecided (k : KilnId) (s : State) : Result :=
  match (s.kiln k).excursionStart, (s.kiln k).copy with
  | some t, some c =>
    .next (if (s.kiln k).clockRuns ∧ (s.kiln k).bandLatched = false ∧ t + c.stage.grace ≤ s.now then decideBand k s else s)
  | _, _ => .next s

end Sys2Proof.Machine
end

