-- ==== Sys2Proof/Machine/Pickers.lean ====
section
/-! DEFINITION. The Picker Sequencers (spec/03): states, cards, clearances, opening attempts, bookings and closings; and
the commands that are the pickers' own events. -/

namespace Sys2Proof.Machine

/-! ## States (R38, R40) -/

/-- R40: a feed stop. -/
def feedStop (p : PickerId) (s : State) : State := safetyCommand .feedDrive (.picker p) 0 s

/-- R39, R40: an entry to Held. -/
def enterHeld (p : PickerId) (s : State) : State :=
  feedStop p (latch (srcHeld p) (s.onPicker p fun r => { r with state := .held }))

/-- R40, R55: an entry to Stopped; a Stopped picker makes no attempt. -/
def enterStopped (p : PickerId) (s : State) : State :=
  feedStop p (s.onPicker p fun r => { r with state := .stopped, retryFrom := none, woken := false })

/-- R38: an entry to Running. -/
def enterRunning (p : PickerId) (s : State) : State := s.onPicker p fun r => { r with state := .running }

/-- R38: a Running picker with a hold reason becomes Held; other states are kept. -/
def holdIfRunning (p : PickerId) (s : State) : State := if (s.picker p).state = .running then enterHeld p s else s

/-- Change a picker's hold reasons. -/
def onReasons (p : PickerId) (f : HoldReasons → HoldReasons) (s : State) : State :=
  s.onPicker p fun r => { r with reasons := f r.reasons }

/-- R55, R60: the opening reasons and the place in the floor wait order given up. -/
def dropOpeningReasons (p : PickerId) (s : State) : State :=
  leaveOffers p (s.onPicker p fun r =>
    { r with reasons := { r.reasons with noFloor := false, noTicketSlot := false }, waitStart := none })

/-! ## Opening a charge (R47, R48, R49) -/

/-- R47: the picker needs a charge. -/
def Picker.needsCharge (r : Picker) : Bool :=
  r.state == .held && r.loading.isNone && r.currentLot.isSome && !r.reasons.standing

/-- Where step 4 of an attempt looks for a floor: over the route set, or on one kiln. -/
inductive OpeningTarget where
  | own
  | offered (k : KilnId)
  | assigned (k : KilnId)
  deriving DecidableEq, Repr

/-- The outcome of an opening attempt, with the step at which it failed. -/
inductive OpeningOutcome where
  | completed (charge : Nat)
  | noPlace
  | noTicket
  | noRecord
  | noFloor
  | lotRefused
  deriving DecidableEq, Repr

/-- R67, tests 1 to 3: the kiln's upper floor can be claimed. -/
def Kiln.claimable (r : Kiln) : Bool :=
  (r.state == .awaiting || r.state == .idle) && r.ring.upper == .empty && r.ring.drop.isNone

/-- The other picker. -/
def otherPicker : PickerId → PickerId
  | .p1 => .p2
  | .p2 => .p1

/-- R49: a kiln passed over in a picker's own attempt, since the other picker stands before it in the wait order. -/
def State.passedOver (s : State) (p : PickerId) (k : KilnId) : Bool :=
  let q := otherPicker p
  let mine := (s.picker p).waitStart.getD s.now
  let theirs := (s.picker q).waitStart.getD s.now
  (s.picker q).waitsForFloor && inRoute (s.picker q).config k &&
    (decide (theirs < mine) || (decide (theirs = mine) && q == .p1))

/-- R48, step 4: the kiln whose upper floor is granted. -/
def State.floorFor (s : State) (p : PickerId) : OpeningTarget → Option KilnId
  | .own => allKilns.find? fun k => inRoute (s.picker p).config k && (s.kiln k).claimable && !s.passedOver p k
  | .offered k => if inRoute (s.picker p).config k && (s.kiln k).claimable then some k else none
  | .assigned k => if (s.kiln k).claimable then some k else none

/-- R48: an attempt failed with NoFloor (`floor`) or NoTicketSlot. -/
def failOpening (p : PickerId) (floor : Bool) (s : State) : State :=
  let s := s.onPicker p fun r =>
    { r with
      reasons := { r.reasons with noFloor := floor, noTicketSlot := !floor }
      waitStart := some (r.waitStart.getD s.now) }
  if (s.picker p).state = .held then s else enterHeld p s

/-- R48, step 5: an attempt failed with UnknownLot. -/
def refuseLot (p : PickerId) (k : KilnId) (lot : Nat) (s : State) : State :=
  let s := s.onPicker p fun r =>
    { r with
      reasons := { r.reasons with noFloor := false, noTicketSlot := false, unknownLot := true }
      refusedLot := some lot }
  let s := latch (srcUnknownLot p) s
  let s := if (s.picker p).state = .held then s else enterHeld p s
  returnReservation .charge (offerToOthers k p s)

/-- The record of a newly opened charge (R48, R63). -/
def Charge.opened (lot : Nat) (p : PickerId) (k : KilnId) : Charge :=
  { lot := lot, picker := p, kiln := k, state := .loading, green := 0, reason := none, cycles := 0, pile := none,
    dried := none, source := none, drawn := none, substituted := false, timedOut := false, timedDry := false,
    interrupted := false }

/-- R48, step 6: the Distributor command. -/
def queueDistributor (p : PickerId) (k : KilnId) (s : State) : State :=
  match s.bound .distributor (.picker p) with
  | some st => queueDown (ownCommand st (kilnIndex k + 1)) false s
  | none => s

/-- R48, step 6, R63, R67, R85: the completion of an attempt. Its Distributor command replaces one a Line Reset still owed
(R61, log 24), and is queued before the injection of the kiln's entry to Loading (log 54). -/
def completeOpening (p : PickerId) (k : KilnId) (lot : Nat) (s : State) : State :=
  let n := s.chargeNumber
  let s := s.onPool fun t => { records := tablePut t.records n (.opened lot p k), next := nextNumber n }
  let s := claimOpening lot s
  let s := s.onRing k fun r => { r.setSlot r.top (.loading n) with offered := false, declined := [] }
  let s := s.onPicker p fun r =>
    { r with
      loading := some n
      reasons := { r.reasons with noFloor := false, noTicketSlot := false }
      waitStart := none
      distributorOwed := false }
  enterLoading k (enterRunning p (queueDistributor p k s))

/-- R48: an opening attempt for the picker's current lot. Each attempt ends a wake and a repeat still due; one that finds no
queue place makes the repeat due again (R47, R63, log 41). -/
def tryOpen (p : PickerId) (target : OpeningTarget) (s : State) : OpeningOutcome × State :=
  match (s.picker p).currentLot with
  | none => (.lotRefused, s)
  | some lot =>
    let s := s.onPicker p fun r => { r with woken := false, retryFrom := none }
    if s.downFree then
      match askReservation .charge s with
      | (false, s) => (.noTicket, failOpening p false s)
      | (true, s) =>
        if s.pool.records.length < Config.chargePlaces then
          match s.floorFor p target with
          | none => (.noFloor, returnReservation .charge (failOpening p true s))
          | some k =>
            if s.lotUsable lot then (.completed s.chargeNumber, completeOpening p k lot s)
            else (.lotRefused, refuseLot p k lot s)
        else (.noRecord, returnReservation .charge (failOpening p true s))
    else (.noPlace, failOpening p true (s.onPicker p fun r => { r with retryFrom := some s.now }))

/-- R47: an attempt over the picker's route set. -/
def openOwn (p : PickerId) (s : State) : State := (tryOpen p .own s).2

/-- Whether no hold reason is present. -/
def HoldReasons.isEmpty (h : HoldReasons) : Bool := !h.standing && !h.noFloor && !h.noTicketSlot

/-- R39: what a Held picker does when a reason has been removed. -/
def afterRemoval (p : PickerId) (s : State) : State :=
  let r := s.picker p
  if r.state = .held then
    if r.loading.isSome then (if r.reasons.isEmpty then enterRunning p s else s)
    else if r.reasons.standing then s else openOwn p s
  else s

/-! ## Closing a charge (R53) -/

/-- R53, step 3: the Charge ticket. -/
def chargeBody (n : Nat) (c : Charge) (reason : CloseReason) : TicketBody :=
  .charge n c.picker c.kiln c.green reason c.substituted c.timedOut

/-- R53: the closing of a picker's loading charge, but for the responses of the kiln and the picker. -/
def closeCore (p : PickerId) (n : Nat) (c : Charge) (reason : CloseReason) (s : State) : State :=
  let s := s.onCharge n fun r => { r with reason := some reason, state := .loaded }
  let s := s.onRing c.kiln fun r => r.setSlot r.top (.loaded n)
  let s := issueTicket .charge c.lot (s.growerOf c.lot) (chargeBody n c reason) s
  s.onPicker p fun r => { r with loading := none }

/-- R53: what the picker does after a Full, HostClose or Trip close. -/
def pickerAfterClose (p : PickerId) (s : State) : State :=
  match (s.picker p).state with
  | .running => openOwn p s
  | .stopped =>
    if (s.picker p).pendingLot.isSome then s.onPicker p fun r => { r with currentLot := r.pendingLot, pendingLot := none }
    else s
  | _ => s

/-- A picker's loading charge with its number. -/
def State.loadingCharge (s : State) (p : PickerId) : Option (Nat × Charge) :=
  (s.picker p).loading.bind fun n => (s.charge n).map fun c => (n, c)

/-- R85: a kiln in Loading enters Ready. -/
def leaveLoading (k : KilnId) (s : State) : State := if (s.kiln k).state = .loading then enterReady k s else s

/-- R53, R85: the loading charge closed, and its kiln from Loading to Ready. -/
def closeToReady (p : PickerId) (reason : CloseReason) (s : State) : State :=
  match s.loadingCharge p with
  | none => s
  | some (n, c) => leaveLoading c.kiln (closeCore p n c reason s)

/-- R53: a close for Full or HostClose, with the picker's response. -/
def closeCharge (p : PickerId) (reason : CloseReason) (s : State) : State :=
  pickerAfterClose p (closeToReady p reason s)

/-! ## Clearance (R43, R44, R45) -/

/-- R32: the self-poll timer of channel 0 of the picker's BeltScale started with an interval. -/
def beltPollTimer (p : PickerId) (fast : Bool) (s : State) : State :=
  match s.bound .beltScale (.picker p) with
  | some st => startPollTimer st 0 (if fast then 1 else s.descriptorInterval st 0) s
  | none => s

/-- R43: the picker enters Clearing. -/
def startClearance (p : PickerId) (s : State) : State :=
  let s := s.onPicker p fun r =>
    { r with
      state := .clearing
      clearanceStart := some s.now
      quietStart := some s.now
      inForce := some (r.config.quiet, r.config.limit) }
  beltPollTimer p true (feedStop p s)

/-- R45, step 4: the picker's next state. -/
def afterClearance (p : PickerId) (s : State) : State :=
  if (s.picker p).stopAfter then enterStopped p (s.onPicker p fun r => { r with stopAfter := false })
  else if (s.picker p).reasons.standing then enterHeld p s
  else openOwn p s

/-- R45, steps 1 to 3. -/
def finishClearance (p : PickerId) (s : State) : State :=
  let s := closeToReady p .lotChange s
  let s := s.onPicker p fun r =>
    { r with
      currentLot := if r.pendingLot.isSome then r.pendingLot else r.currentLot
      pendingLot := none
      clearanceStart := none
      quietStart := none
      inForce := none }
  beltPollTimer p false s

/-- R45: the end of a clearance. -/
def endClearance (p : PickerId) (s : State) : State := afterClearance p (finishClearance p s)

/-! ## Wagon cards (R41, R42) -/

/-- R42: the table, for a usable lot different from the current lot. -/
def takeNewLot (p : PickerId) (lot : Nat) (s : State) : State :=
  let r := s.picker p
  match r.state, r.loading.isSome with
  | .running, _ => startClearance p (s.onPicker p fun r => { r with pendingLot := some lot })
  | .held, true => startClearance p (s.onPicker p fun r => { r with pendingLot := some lot })
  | .held, false =>
    let s := s.onPicker p fun r => { r with currentLot := some lot }
    if r.reasons.standing then s else openOwn p s
  | .clearing, _ => s.onPicker p fun r => { r with pendingLot := some lot }
  | .stopped, true => s.onPicker p fun r => { r with pendingLot := some lot }
  | .stopped, false => s.onPicker p fun r => { r with currentLot := some lot, pendingLot := none }

/-- R42: a card naming a usable lot. -/
def takeUsable (p : PickerId) (lot : Nat) (s : State) : State :=
  let had := (s.picker p).reasons.unknownLot
  let s := s.onPicker p fun r => { r with reasons := { r.reasons with unknownLot := false }, refusedLot := none }
  if (s.picker p).currentLot = some lot then (if had then afterRemoval p s else s) else takeNewLot p lot s

/-- R41: a card naming a lot that is not usable. -/
def takeUnusable (p : PickerId) (lot : Nat) (s : State) : State :=
  let r := s.picker p
  let s := if r.reasons.unknownLot && r.refusedLot == some lot then s else latch (srcUnknownLot p) s
  holdIfRunning p (s.onPicker p fun r =>
    { r with reasons := { r.reasons with unknownLot := true }, refusedLot := some lot })

/-- R41: a card read. -/
def takeCard (p : PickerId) (lot : Nat) (s : State) : State :=
  if s.lotUsable lot then takeUsable p lot s else takeUnusable p lot s

/-- R41: the lot number a card's value names; 65535 outside 1..65534. -/
def cardLot (v : Int) : Nat := if 1 ≤ v ∧ v ≤ 65534 then v.toNat else 65535

/-- R41: an update of the WagonReader. -/
def wagonUpdate (p : PickerId) (u : Update) (s : State) : State :=
  match u.view.value with
  | some v => if u.report ∧ u.view.cls = .normal ∧ u.view.substituted = false then takeCard p (cardLot v) s else s
  | none => s

/-! ## The belt (R44, R50, R51) -/

/-- R50: the value an update books. -/
def beltBooking (u : Update) : Option Int :=
  if u.report ∧ (u.view.cls = .normal ∨ (u.view.cls = .zero ∧ u.view.substituted)) then u.view.value else none

/-- R50: a booking to the loading charge and its lot, with the Full test outside Clearing. -/
def bookCharge (p : PickerId) (n : Nat) (c : Charge) (v : Int) (substituted : Bool) (s : State) : State :=
  let s := s.onCharge n fun r => { r with green := addMass r.green v, substituted := r.substituted || substituted }
  let s := addGreen c.lot v s
  if (s.picker p).state ≠ .clearing ∧ (s.kiln c.kiln).config.capacity ≤ (addMass c.green v).toNat then
    closeCharge p .full s
  else s

/-- R50: an increment booked. -/
def bookBelt (p : PickerId) (v : Int) (substituted : Bool) (s : State) : State :=
  match s.loadingCharge p with
  | some (n, c) => bookCharge p n c v substituted s
  | none => s.onPicker p fun r => { r with unattributed := addMass r.unattributed v }

/-- R51: SensorLost added or removed. -/
def beltSensor (p : PickerId) (u : Update) (s : State) : State :=
  if isRaised u.view.cls ∧ u.view.substituted = false then
    holdIfRunning p (onReasons p (fun h => { h with sensorLost := true }) s)
  else if u.report ∧ u.view.isGood ∧ u.view.substituted = false ∧ (s.picker p).reasons.sensorLost then
    afterRemoval p (onReasons p (fun h => { h with sensorLost := false }) s)
  else s

/-- R44: every update but a fresh Zero of a Report restarts the quiet interval. -/
def beltQuiet (p : PickerId) (u : Update) (s : State) : State :=
  if (s.picker p).state = .clearing ∧ ¬(u.report ∧ u.view.cls = .zero ∧ u.view.substituted = false) then
    s.onPicker p fun r => { r with quietStart := some s.now }
  else s

/-- R44, R50, R51: an update of the BeltScale. An update that both books and ends SensorLost is booked first, so that a
charge it fills is closed while the picker is still Held (log 35). -/
def beltUpdate (p : PickerId) (u : Update) (s : State) : State :=
  let s := beltQuiet p u s
  let s := match beltBooking u with
    | some v => bookBelt p v u.view.substituted s
    | none => s
  beltSensor p u s

/-! ## Mode flag (R56) -/

/-- R56: FeedEnable cleared by a watch; on an already clear flag it adds nothing. -/
def clearFeedEnable (p : PickerId) (s : State) : State :=
  if (s.picker p).feedEnable then
    holdIfRunning p (s.onPicker p fun r => { r with feedEnable := false, reasons := { r.reasons with disabled := true } })
  else s

/-! ## The pickers' own events -/

/-- CLEARANCE_QUIET_END (R44): the quiet interval has passed since quiet start. -/
def execClearanceQuietEnd (p : PickerId) (s : State) : Result :=
  match (s.picker p).quietStart, (s.picker p).inForce with
  | some t, some (quiet, _) =>
    .next (if (s.picker p).state = .clearing ∧ t + quiet ≤ s.now then endClearance p s else s)
  | _, _ => .next s

/-- R44: a limited end flags the loading charge and latches ClearanceTimeout. -/
def limitClearance (p : PickerId) (s : State) : State :=
  let s := match (s.picker p).loading with
    | some n => s.onCharge n fun r => { r with timedOut := true }
    | none => s
  endClearance p (latch (srcClearanceTimeout p) s)

/-- CLEARANCE_LIMIT (R44): the limit has passed since clearance start. -/
def execClearanceLimit (p : PickerId) (s : State) : Result :=
  match (s.picker p).clearanceStart, (s.picker p).inForce with
  | some t, some (_, limit) =>
    .next (if (s.picker p).state = .clearing ∧ t + limit ≤ s.now then limitClearance p s else s)
  | _, _ => .next s

/-- R49: the offer of a kiln's upper floor taken by the picker that stands first for it; where its attempt does not
complete, the offer passes to the next in the order, or is over. -/
def takeOffer (p : PickerId) (k : KilnId) (s : State) : State :=
  if s.offerNext k = some p then
    let s := s.onRing k fun r => { r with declined := r.declined ++ [p] }
    settleOffer k (if (s.picker p).needsCharge then (tryOpen p (.offered k) s).2 else s)
  else s

/-- OPENING_ATTEMPT (R47, R48): an attempt a woken picker makes, or one that an offer of kiln `k` leads to. -/
def execOpeningAttempt (p : PickerId) (offer : Option KilnId) (s : State) : Result :=
  match offer with
  | some k => .next (takeOffer p k s)
  | none => .next (if (s.picker p).woken && (s.picker p).needsCharge then openOwn p s else s)

/-- OPENING_RETRY (R47): an attempt that found no queue place is made again one second later; an attempt on an offered or
assigned kiln is made again as the picker's own, over its route set (log 34). -/
def execOpeningRetry (p : PickerId) (s : State) : Result :=
  match (s.picker p).retryFrom with
  | none => .next s
  | some t => .next (if t + 1 ≤ s.now ∧ (s.picker p).needsCharge then openOwn p s else s)

end Sys2Proof.Machine
end

