-- ==== Sys2Proof/Machine/Watches.lean ====
section
/-! DEFINITION. The Watch Unit and the Notice Latch's frames (spec/08): readings, firings, the claims on the unit mode
flags, the Notice frame; and the commands that are their own events. -/

namespace Sys2Proof.Machine

/-! ## Unit mode flags (R151) -/

/-- A unit mode flag. -/
inductive ModeFlag where
  | feedEnable (p : PickerId)
  | schedule (k : KilnId)
  | holdOff (k : KilnId)
  | auto (b : PressId)
  deriving DecidableEq, Repr

/-- The 16 flags in the order of the clear set's bits (spec/11 11.2). -/
def allFlags : List ModeFlag :=
  [.feedEnable .p1, .feedEnable .p2,
   .schedule .k1, .schedule .k2, .schedule .k3, .schedule .k4, .schedule .k5, .schedule .k6,
   .holdOff .k1, .holdOff .k2, .holdOff .k3, .holdOff .k4, .holdOff .k5, .holdOff .k6,
   .auto .b1, .auto .b2]

/-- The flags of a clear set. -/
def flagsOf (set : BitVec 16) : List ModeFlag :=
  ((List.range 16).zip allFlags).filterMap fun e => if set.getLsbD e.1 then some e.2 else none

/-- R151: a clear claim taken by the flag's owner. -/
def clearFlag (f : ModeFlag) (s : State) : State :=
  match f with
  | .feedEnable p => clearFeedEnable p s
  | .schedule k => if (s.kiln k).scheduleFlag then clearSchedule k s else s
  | .holdOff k => clearHoldOff k s
  | .auto b => clearAuto b s

/-! ## Firings and readings (R147, R148, R149) -/

/-- R149: a watch fires; its clear claims are taken in the order of the clear set's bits (log 7). -/
def fireWatch (n : Nat) (s : State) : State :=
  let w := s.watch n
  let s := s.putWatch n
    { w with
      fireCount := countUp Config.byteTop w.fireCount
      lastFire := some s.now
      pendingStart := none
      state := if w.entry.repeats then .fired else .disabled }
  (flagsOf w.entry.clearSet).foldl (fun s f => clearFlag f s) (latch (srcWatch n) s)

/-- R147: whether a reading's condition holds; none when the reading is set aside. -/
def conditionOf (e : WatchEntry) : BandOutcome → Option Bool
  | .below => some (!e.negate)
  | .above => some (!e.negate)
  | .inside => some e.negate
  | .unordered => if e.unorderedFires then some true else none

/-- R148: the moves of a watch on a reading that is not set aside. -/
def moveWatch (n : Nat) (holds : Bool) (s : State) : State :=
  let w := s.watch n
  match w.state, holds with
  | .armed, true =>
    if w.entry.persistence = 0 then fireWatch n s else s.putWatch n { w with state := .pending, pendingStart := some s.now }
  | .pending, false => s.putWatch n { w with state := .armed, pendingStart := none }
  | .fired, false => s.putWatch n { w with state := .armed }
  | _, _ => s

/-- R147, R148: a watch takes a view as a reading. -/
def takeReading (n : Nat) (v : View) (s : State) : State :=
  let w := s.watch n
  if w.state = .disabled then s
  else
    let outcome := compareBand w.entry.low w.entry.high v
    let s := s.putWatch n { w with lastOutcome := some outcome }
    match conditionOf w.entry outcome with
    | some holds => moveWatch n holds s
    | none => s

/-- The watches' numbers (R145). -/
def watchNumbers : List Nat := (List.range 24).map (· + 1)

/-- R29: an update taken by every watch whose entry names the station and channel. -/
def watchesTake (station channel : Nat) (v : View) (s : State) : State :=
  watchNumbers.foldl (fun s n =>
    if (s.watch n).entry.station = station ∧ (s.watch n).entry.channel = channel then takeReading n v s else s) s

/-- WATCH_PERSISTENCE_END (R148): the persistence has passed since pending start. -/
def execWatchPersistenceEnd (n : Nat) (s : State) : Result :=
  match (s.watch n).pendingStart with
  | none => .next s
  | some t =>
    .next (if (s.watch n).state = .pending ∧ t + (s.watch n).entry.persistence ≤ s.now then fireWatch n s else s)

/-! ## Notice frames (R155) -/

/-- Ten bytes of a set of sources: source n is bit n mod 8 of byte n div 8 (spec/11 11.2). -/
def sourceBytes (v : BitVec 77) : List Byte := (List.range 10).map fun i => (v >>> (8 * i)).setWidth 8

/-- R155: the sources due. -/
def NoticeLatch.due (c : NoticeLatch) : BitVec 77 := c.latched &&& c.enabled &&& ~~~c.sent

/-- R155: a Notice frame queued, its sources joining the sent set. -/
def queueNotice (s : State) : State :=
  let listed := s.notice.latched &&& s.notice.enabled
  (queueUp (ownUpFrame .notice 0 (sourceBytes listed)) .notice s).onNotice fun c =>
    { c with sent := c.sent ||| listed, waiting := true }

/-- NOTICE_FRAME_QUEUE (R155): a source is due, no Notice frame waits and the Own queue up has a free place (log 5). -/
def execNoticeFrameQueue (s : State) : Result :=
  .next (if s.notice.due ≠ 0 ∧ s.notice.waiting = false ∧ 1 ≤ s.upFree then queueNotice s else s)

end Sys2Proof.Machine
end

