-- ==== Sys2Proof/Machine/Channels.lean ====
section
/-! DEFINITION. The Channel Monitor (spec/02): classing, increments, raises, updates and their consumers, self-polls and
descriptor changes; and the commands that are its own events. -/

namespace Sys2Proof.Machine

/-! ## Updates (R29) -/

/-- R19, R29: an update of channel 0 handed to the unit bound in a role. -/
def unitTakes (role : Role) (unit : UnitId) (u : Update) (s : State) : State :=
  match role, unit with
  | .beltScale, .picker p => beltUpdate p u s
  | .wagonReader, .picker p => wagonUpdate p u s
  | .airTemp, .kiln k => airTempUpdate k u s
  | .floorMoisture, .kiln k => moistureUpdate k u s
  | .dropScale, .kiln k => dropScaleUpdate k u s
  | .dropGate, .kiln k => dropGateUpdate k u s
  | .fillScale, .press b => fillScaleUpdate b u s
  | .pressHydraulics, .press b => hydraulicsUpdate b u s
  | .baleScale, .press b => baleScaleUpdate b u s
  | _, _ => s

/-- R29: an update handed to its consumers, the unit first and then the watches (the order changes nothing, log 7). `e` is
the Station Table entry whose binding names the unit. -/
def deliver (e : StationEntry) (station channel : Nat) (u : Update) (s : State) : State :=
  let s := if channel = 0 ∧ e.present then
      match e.unit with
      | some unit => unitTakes e.role unit u s
      | none => s
    else s
  watchesTake station channel u.view s

/-! ## Raises (R30) -/

/-- R30: a raise entered in the exception list. -/
def enterRaise (station channel : Nat) (cls : SampleClass) (c : Channels) : Channels :=
  if c.exceptions.any fun e => e.station == station && e.channel == channel then
    { c with exceptions := c.exceptions.map fun e =>
        if e.station = station ∧ e.channel = channel then { e with latest := cls, count := countUp Config.byteTop e.count } else e }
  else if c.exceptions.length < Config.exceptionPlaces then
    { c with exceptions := c.exceptions ++ [{ station := station, channel := channel, first := cls, latest := cls, count := 1 }] }
  else { c with overflowed := true }

/-- R30: a class newly taken, unmasked, is raised. -/
def raiseClass (station channel : Nat) (mask : MaskSet) (before now_ : SampleClass) (s : State) : State :=
  if isRaised now_ ∧ inMask mask now_ = false ∧ before ≠ now_ then
    latch srcChannelException (s.onChan (enterRaise station channel now_))
  else s

/-! ## Classing a Report (R21, R25, R26) -/

/-- R21: a Report on a Level channel. -/
def classLevel (d : Descriptor) (v : Int) (sensorFault : Bool) (r : Sample) : Sample :=
  let cls := classValue d v sensorFault
  { r with
    cls := cls
    value := some v
    lastGood := if cls = .normal ∨ cls = .zero then some { value := v, isZero := cls == .zero } else r.lastGood }

/-- R25: the operand class of a new total. -/
def operandOf : SampleClass → OperandClass
  | .normal => .good
  | .zero => .good
  | .low => .low
  | .high => .high
  | _ => .fault

/-- R25, step 2: the class of the previous operand, with its total where it is Good. -/
inductive PreviousOperand where
  | absent
  | good (total : Int)
  | low
  | high
  | stale
  | fault
  deriving DecidableEq, Repr

/-- R25, step 2 (a channel is Stale from an expiry to its next Report, log 11). -/
def previousOf (r : Sample) : PreviousOperand :=
  match r.baseline with
  | none => .absent
  | some b =>
    match b.cls with
    | .fault => .fault
    | .good => if r.expired then .stale else .good b.total
    | .low => if r.expired then .stale else .low
    | .high => if r.expired then .stale else .high

/-- A difference as the signed 32 bits R20 holds; outside them a free value (log 12). -/
def increment (new old : Int) : Int :=
  let d := new - old
  if -2147483648 ≤ d ∧ d ≤ 2147483647 then d else (Config.openIncrement new old).toInt

/-- R25, step 3: the class and value of an increment. -/
def incrementOf (prev : PreviousOperand) (new : OperandClass) (total : Int) : SampleClass × Option Int :=
  match new, prev with
  | .fault, _ => (.fault, none)
  | _, .fault => (.fault, none)
  | _, .absent => (.absent, none)
  | _, .stale => (.stale, none)
  | .high, _ => (.high, none)
  | _, .high => (.high, none)
  | .low, _ => (.low, none)
  | _, .low => (.low, none)
  | .good, .good old =>
    if old < total then (.normal, some (increment total old))
    else if total = old then (.zero, some 0)
    else (.low, none)

/-- R26: the class and value of a CounterRestart Report's increment. -/
def restartOf : OperandClass → SampleClass × Option Int
  | .good => (.zero, some 0)
  | .low => (.low, none)
  | .high => (.high, none)
  | .fault => (.fault, none)

/-- R25: the baseline after a Report. A fault keeps the old total, and leaves no baseline where there was none (log 27). -/
def nextBaseline (old : Option Baseline) (new : OperandClass) (total : Int) : Option Baseline :=
  match new with
  | .fault => old.map fun b => { b with cls := .fault }
  | c => some { total := total, cls := c }

/-- R25, R26: a Report on a RunningTotal channel. -/
def classTotal (d : Descriptor) (v : Int) (sensorFault restart : Bool) (r : Sample) : Sample :=
  let new := operandOf (classValue d v sensorFault)
  let got := if restart then restartOf new else incrementOf (previousOf r) new v
  { r with
    cls := got.1
    value := got.2
    lastGood := match got.2 with
      | some x => some { value := x, isZero := got.1 == .zero }
      | none => r.lastGood
    baseline := nextBaseline r.baseline new v }

/-- R21, R25: a Report classed into its record. -/
def classReport (d : Descriptor) (f : Frame) (now_ : Nat) (r : Sample) : Sample :=
  let classed := match d.kind with
    | .level => classLevel d (reportValue f) (reportFlag f 0) r
    | .runningTotal => classTotal d (reportValue f) (reportFlag f 0) (reportFlag f 2) r
  { classed with lastReport := some now_, expired := false }

/-- R23: a record with its substituted field following the view. -/
def settleView (mask : MaskSet) (r : Sample) : Sample :=
  { r with substituted := (viewOf mask r.cls r.value r.lastGood).substituted }

/-- R29: the end of a Report or an expiry: its record, its raise and its update. -/
def finishUpdate (station channel : Nat) (d : Descriptor) (before : SampleClass) (r : Sample) (report settled : Bool)
    (s : State) : State :=
  let s := s.putSample station channel (settleView d.mask r)
  let s := raiseClass station channel d.mask before r.cls s
  deliver (s.station station) station channel
    { view := viewOf d.mask r.cls r.value r.lastGood, report := report, settled := settled } s

/-- R165: a Report tapped: its station's channel classed, its self-poll timer restarted and its update formed. -/
def tapReport (f : Frame) (s : State) : State :=
  match s.descriptor f.src f.channel, s.sample f.src f.channel with
  | some d, some r =>
    let s := restartPollTimer f.src f.channel s
    let due := ((s.sample f.src f.channel).bind Sample.pollDue)
    finishUpdate f.src f.channel d r.cls { classReport d f s.now r with pollDue := due } true (reportFlag f 1) s
  | _, _ => s

/-! ## The Channel Monitor's own events -/

/-- R22: a record after its Stale expiry. -/
def expireSample (d : Descriptor) (r : Sample) : Sample :=
  { r with
    cls := .stale
    expired := true
    value := match d.kind with
      | .level => r.value
      | .runningTotal => none }

/-- STALE_EXPIRY (R22): the freshness window has passed since the last Report. -/
def execStaleExpiry (station channel : Nat) (s : State) : Result :=
  match s.descriptor station channel, s.sample station channel with
  | some d, some r =>
    match r.lastReport with
    | some t =>
      if r.expired = false ∧ t + d.window ≤ s.now then
        .next (finishUpdate station channel d r.cls (expireSample d r) false false s)
      else .next s
    | none => .next s
  | _, _ => .next s

/-- R31: whether a self-poll of a channel waits in the Own queue down. -/
def State.selfPollWaits (s : State) (station channel : Nat) : Bool :=
  s.line.ownDown.any fun e => e.frame.kind == .poll && e.frame.dest == station && e.frame.channel == channel

/-- R31: a self-poll falls due: it restarts its timer where one waits, falls due again one second later where no place is
free, and is queued otherwise. -/
def selfPoll (station channel : Nat) (s : State) : State :=
  if s.selfPollWaits station channel then restartPollTimer station channel s
  else if s.downFree then restartPollTimer station channel (queueDown (ownPoll station channel) false s)
  else startPollTimer station channel 1 s

/-- SELF_POLL_DUE (R31): the self-poll interval has passed without a Report or a self-poll. -/
def execSelfPollDue (station channel : Nat) (s : State) : Result :=
  match (s.sample station channel).bind Sample.pollDue with
  | some t => .next (if t ≤ s.now then selfPoll station channel s else s)
  | none => .next s

/-! ## Descriptor changes (R33) -/

/-- R22: a new sample record. -/
def Sample.fresh : Sample :=
  { cls := .absent, value := none, lastGood := none, lastReport := none, substituted := false, baseline := none,
    expired := false, pollDue := none }

/-- The channels an entry describes; none where it is not Present. -/
def StationEntry.channels (e : StationEntry) : List Nat := if e.present then e.descriptors.map Descriptor.channel else []

/-- R33: the record of one channel after a commit: fresh with its timer where it is described, and none otherwise. -/
def recommitChannel (station channel : Nat) (described : Bool) (s : State) : State :=
  if described then restartPollTimer station channel (s.putSample station channel .fresh)
  else s.onChan fun c => { c with samples := tableErase c.samples (sampleKey station channel) }

/-- R33: the Absent update of a reset or removed record, to the unit the old entry bound (log 26). -/
def absentUpdate (old : StationEntry) (station channel : Nat) (s : State) : State :=
  deliver old station channel { view := .absent, report := false, settled := false } s

/-- R33: a Station entry committed. -/
def commitStation (station : Nat) (e : StationEntry) (s : State) : State :=
  let old := s.station station
  let s := s.onChan fun c => { c with stations := tableSet .reset c.stations station e }
  let s := [0, 1, 2, 3].foldl (fun s ch => recommitChannel station ch (e.channels.contains ch) s) s
  old.channels.foldl (fun s ch => absentUpdate old station ch s) s

end Sys2Proof.Machine
end

