-- ==== Sys2Proof/Machine/Line.lean ====
section
/-! DEFINITION. The Line Interface and the Frame Classifier (spec/09): arrivals at the two ports, the forwarding table,
the gates at transmission, the two transmitters and the poll window. -/

namespace Sys2Proof.Machine

/-! ## Forward queues (R160) -/

/-- R160: a frame joining the Forward queue down with its class, or dropped at a full queue. -/
def joinForwardDown (f : Frame) (c : Option StationClass) (s : State) : State :=
  if s.line.forwardDown.length < Config.forwardDownPlaces then
    s.onLine fun l => { l with forwardDown := l.forwardDown ++ [{ frame := f, cls := c }] }
  else countForwardDrop s

/-- R160: a frame joining the Forward queue up, or dropped at a full queue. -/
def joinForwardUp (f : Frame) (s : State) : State :=
  if s.line.forwardUp.length < Config.forwardUpPlaces then s.onLine fun l => { l with forwardUp := l.forwardUp ++ [f] }
  else countForwardDrop s

/-! ## Frames from the host (R163, R164) -/

/-- R174: a Request handed to the Management Agent. -/
def takeRequest (f : Frame) (s : State) : State :=
  if s.agent.requests.length < Config.requestPlaces then s.onAgent fun a => { a with requests := a.requests ++ [f] }
  else s.onCounters fun c => { c with requestOverruns := countUp Config.counterTop c.requestOverruns }

/-- R163: what the table says of a host's frame to a Present station. -/
inductive HostAction where
  | pass
  | drop
  | clamp (limit : Int)
  deriving DecidableEq, Repr

/-- R163: the action on a Command, by the station's role and the state of its unit. -/
def State.commandAction (s : State) (role : Role) (unit : Option UnitId) : HostAction :=
  match role, unit with
  | .burner, some (.kiln k) => if (s.kiln k).scheduleFlag then .drop else .clamp (s.kiln k).config.maxSetpoint
  | .fan, some (.kiln k) => if (s.kiln k).scheduleFlag then .drop else .pass
  | .distributor, some (.picker p) =>
    if (s.picker p).state = .running ∨ (s.picker p).state = .clearing then .drop else .pass
  | .dropGate, some (.kiln k) => if (s.kiln k).state = .dropping then .drop else .pass
  | .pileFeed, some (.press b) => if (s.press b).auto then .drop else .pass
  | .pressHydraulics, some (.press b) => if (s.press b).auto then .drop else .pass
  | _, _ => .pass

/-- R163, case 6: a frame to a station with a Present entry. -/
def hostToStation (f : Frame) (e : StationEntry) (s : State) : State :=
  let c : Option StationClass := some { role := e.role, unit := e.unit }
  match (if f.kind = .command then s.commandAction e.role e.unit else .pass) with
  | .pass => joinForwardDown f c s
  | .drop => countOverridden s
  | .clamp limit =>
    if f.channel = 0 ∧ limit < commandValue f then joinForwardDown (withValue f limit) c (countRewritten s)
    else joinForwardDown f c s

/-- R164: a broadcast from the host. -/
def hostBroadcast (f : Frame) (s : State) : State :=
  if s.line.settings.broadcastPass = false ∨ f.kind = .poll ∨ (f.kind = .command ∧ commandValue f ≠ 0) then countOverridden s
  else joinForwardDown f none s

/-- R163: a frame accepted at the U-port. -/
def hostFrame (f : Frame) (s : State) : State :=
  if f.src ≠ 1 ∨ f.dest = 1 then countMisdirected s
  else if f.dest = 127 then (if f.kind = .request then takeRequest f s else countMisdirected s)
  else if f.dest = 0 then hostBroadcast f s
  else if (s.station f.dest).present then hostToStation f (s.station f.dest) s
  else joinForwardDown f none s

/-- U_PORT_FRAME_RECEIVED (R159, R163, R184): a run of characters ends at the U-port. -/
def execUPortFrameReceived (chars : List Byte) (s : State) : Result :=
  let s := s.onCounters fun c => { c with receivedU := countUp Config.counterTop c.receivedU }
  match arrive chars with
  | .discarded => .next (countCheckFailure s)
  | .unused => .next (countMisdirected s)
  | .accepted f => .next (hostFrame f s)

/-! ## Frames from the field (R165, R169) -/

/-- R169: a Report from the polled station ends the outstanding poll. -/
def answerPoll (f : Frame) (s : State) : State :=
  if f.kind = .report ∧ s.line.poll.map Poll.station = some f.src then s.onLine fun l => { l with poll := none } else s

/-- R165, case 1: a frame no station may send. -/
def misplaced (f : Frame) : Bool :=
  f.src == 0 || f.src == 1 || f.src == 127 || (decide (2 ≤ f.dest) && decide (f.dest ≤ 126))

/-- R165: a frame accepted at the F-port. -/
def fieldFrame (f : Frame) (s : State) : State :=
  if misplaced f then countMisdirected s
  else if f.kind = .report then (if f.dest = 127 then tapReport f s else joinForwardUp f (tapReport f s))
  else if f.dest = 127 then countMisdirected s
  else joinForwardUp f s

/-- R165: a run of characters that ends at the F-port while it listens. -/
def fieldChars (chars : List Byte) (s : State) : State :=
  let s := s.onCounters fun c => { c with receivedF := countUp Config.counterTop c.receivedF }
  match arrive chars with
  | .discarded => countCheckFailure s
  | .unused => countMisdirected s
  | .accepted f => fieldFrame f (answerPoll f s)

/-- F_PORT_FRAME_RECEIVED (R159, R165, R169, R184): a run of characters ends at the F-port, which is half duplex: while it
transmits it does not listen, and no frame is received (log 1). -/
def execFPortFrameReceived (chars : List Byte) (s : State) : Result :=
  .next (if s.line.fSending.isSome then s else fieldChars chars s)

/-! ## Gates at transmission (R166, R167) -/

/-- The class a station's binding now gives. -/
def State.bindingOf (s : State) (station : Nat) : Option StationClass :=
  if (s.station station).present then some { role := (s.station station).role, unit := (s.station station).unit } else none

/-- R166: a class gates a Command for a kiln whose permit is not Live. -/
def State.burnerShut (s : State) : Option StationClass → Bool
  | some { role := .burner, unit := some (.kiln k) } => (s.kiln k).permit.state != .live
  | _ => false

/-- R167: a class gates a Command for a picker that is not Running. -/
def State.feedShut (s : State) : Option StationClass → Bool
  | some { role := .feedDrive, unit := some (.picker p) } => (s.picker p).state != .running
  | _ => false

/-- R166, R167: whether a Command to a station, of a class from its arrival, leaves with value 0. -/
def State.gateShut (s : State) (station : Nat) (c : Option StationClass) : Bool :=
  s.burnerShut c || s.burnerShut (s.bindingOf station) || s.feedShut c || s.feedShut (s.bindingOf station)

/-- R166, R167: the frame as it leaves, and the rewritten count. -/
def gateFrame (f : Frame) (c : Option StationClass) (s : State) : Frame × State :=
  if f.kind = .command ∧ s.gateShut f.dest c ∧ commandValue f ≠ 0 then (withValue f 0, countRewritten s) else (f, s)

/-! ## Sending to the field (R168) -/

/-- R168: what the F-port transmitter takes. -/
inductive DownChoice where
  | safety (e : OwnDown)
  | own (e : OwnDown)
  | forward (e : DownFrame)
  | nothing
  deriving DecidableEq, Repr

/-- R168: the choice at a transmit opportunity. -/
def Line.chooseDown (l : Line) : DownChoice :=
  match l.ownDown.find? OwnDown.safety with
  | some e => .safety e
  | none =>
    match l.ownDown, l.forwardDown with
    | [], [] => .nothing
    | [], g :: _ => .forward g
    | e :: _, [] => .own e
    | e :: _, g :: _ => if l.runDown = Config.ownRunTop then .forward g else .own e

/-- R161: a frame taken from an Own queue down that held 8 frames lets the oldest overflow entry join (log 25). -/
def takeOwnDown (e : OwnDown) (l : Line) : Line :=
  let rest := l.ownDown.erase e
  if l.ownDown.length = Config.ownDownPlaces then
    match l.overflow with
    | o :: more => { l with ownDown := rest ++ [o], overflow := more }
    | [] => { l with ownDown := rest }
  else { l with ownDown := rest }

/-- R168, rule 3: the own run after a frame of the part. -/
def nextRun (forwardWaits : Bool) (run : Nat) : Nat := if forwardWaits then run + 1 else 0

/-- R168: a frame starts its transmission, with the gates of its taking. -/
def startSending (f : Frame) (c : Option StationClass) (s : State) : State :=
  (gateFrame f c s).2.onLine fun l => { l with fSending := some (gateFrame f c s).1 }

/-- R168: one frame taken. -/
def transmitDown (s : State) : State :=
  match s.line.chooseDown with
  | .nothing => s
  | .safety e => startSending e.frame none (s.onLine (takeOwnDown e))
  | .own e =>
    startSending e.frame none (s.onLine fun l =>
      { takeOwnDown e l with runDown := nextRun (!l.forwardDown.isEmpty) l.runDown })
  | .forward g => startSending g.frame g.cls (s.onLine fun l => { l with forwardDown := l.forwardDown.drop 1, runDown := 0 })

/-- F_PORT_TRANSMIT (R168): the F-port is not sending, no poll is outstanding, and a frame waits. -/
def execFPortTransmit (s : State) : Result :=
  .next (if s.line.fSending.isNone ∧ s.line.poll.isNone then transmitDown s else s)

/-- Whether a frame opens a poll window when its transmission ends (R168, R169): a Poll other than a broadcast. -/
def opensWindow (f : Frame) : Bool := f.kind == .poll && f.dest != 0

/-- POLL_WINDOW_OPEN (R169): the transmission of a Poll ends and its window opens. -/
def execPollWindowOpen (s : State) : Result :=
  match s.line.fSending with
  | none => .next s
  | some f =>
    .next (if opensWindow f then s.onLine fun l =>
        { l with
          fSending := none
          poll := some { station := f.dest, channel := f.channel, source := f.src, opened := s.now,
                         window := l.settings.replyWindow } }
      else s)

/-- F_PORT_TRANSMISSION_END (R168): the transmission of any other frame ends. -/
def execFPortTransmissionEnd (s : State) : Result :=
  match s.line.fSending with
  | none => .next s
  | some f => .next (if opensWindow f then s else s.onLine fun l => { l with fSending := none })

/-- NO_REPLY_POLL (R169): the reply window passes first (its ms are not counted, log 8). -/
def execNoReplyPoll (s : State) : Result :=
  match s.line.poll with
  | none => .next s
  | some _ =>
    .next ((s.onLine fun l => { l with poll := none }).onCounters fun c =>
      { c with noReplyPolls := countUp Config.counterTop c.noReplyPolls })

/-! ## Sending to the host (R170) -/

/-- R138, R188: a ticket counts as sent when its last frame is taken. -/
def ticketSent (serial : Nat) (s : State) : State :=
  let s := s.onStore fun t => { t with fetchHigh := max t.fetchHigh serial }
  fetchEndTest (s.onTransfer fun x => { x with sent := x.sent + 1, lastSent := some serial, waiting := false })

/-- R170: what the taking of a frame of the part means to its originator. -/
def afterTaken (o : UpOrigin) (s : State) : State :=
  match o with
  | .notice => s.onNotice fun c => { c with waiting := false }
  | .ticket serial => ticketSent serial s
  | _ => s

/-- R170: the frame of the part at the head of the Own queue up taken. -/
def takeOwnUp (e : OwnUp) (s : State) : State :=
  afterTaken e.origin (s.onLine fun l =>
    { l with ownUp := l.ownUp.drop 1, runUp := nextRun (!l.forwardUp.isEmpty) l.runUp, uTaken := some e.frame })

/-- R170: the oldest Forward frame taken. -/
def takeForwardUp (f : Frame) (s : State) : State :=
  s.onLine fun l => { l with forwardUp := l.forwardUp.drop 1, runUp := 0, uTaken := some f }

/-- U_PORT_TRANSMIT (R170): the U-port transmitter takes one frame. -/
def execUPortTransmit (s : State) : Result :=
  match s.line.ownUp, s.line.forwardUp with
  | [], [] => .next s
  | [], f :: _ => .next (takeForwardUp f s)
  | e :: _, [] => .next (takeOwnUp e s)
  | e :: _, f :: _ => .next (if s.line.runUp = Config.ownRunTop then takeForwardUp f s else takeOwnUp e s)

end Sys2Proof.Machine
end

