-- ==== Sys2Proof/Machine/Operands.lean ====
section
/-! DEFINITION. Requests as payloads (spec/11 11.2, R185): the request codes, the widths of the arguments, and the form
test that does not depend on the state. -/

namespace Sys2Proof.Machine

/-- A well-formed Request. Units, stations, tables and indexes are kept as sent: their ranges are the requests' own tests. -/
inductive Request where
  | tableRead (table index segment : Nat)
  | tableWritePlain (table index : Nat) (content : List Byte)
  | tableWriteStaged (table index segment : Nat) (last : Bool) (content : List Byte)
  | lineStatus (part : Nat) (clear : Bool)
  | lineReset
  | identify
  | clockSet (value : Nat)
  | lotDeclare (lot grower variety : Nat) (moistureOverride : Option Nat)
  | lotClose (lot : Nat)
  | lotRemove (lot : Nat)
  | lotQuery (part lot : Nat) (next : Bool)
  | sampleQuery (part station channel : Nat)
  | exceptionRead (part : Nat) (clear : Bool)
  | pickerStart (p : Nat)
  | pickerStop (p : Nat)
  | pickerHold (p : Nat)
  | pickerRelease (p : Nat)
  | chargeClose (p : Nat)
  | pickerAssign (p k : Nat)
  | pickerQuery (part p : Nat) (clear : Bool)
  | floorQuery (part k : Nat)
  | chargeQuery (part charge : Nat) (next : Bool)
  | cycleNow (k : Nat)
  | kilnRelease (k : Nat)
  | kilnMode (k : Nat) (manual : Bool)
  | cycleResume (k : Nat)
  | kilnQuery (part k : Nat)
  | permitStage (k : Nat)
  | permitRenewOdd (k : Nat)
  | permitRenewEven (k : Nat)
  | permitConfirm (k : Nat)
  | permitWithdraw (k : Nat)
  | pressNow (b : Nat)
  | pressClear (b : Nat)
  | pressAuto (b : Nat) (value : Bool)
  | pressReweigh (b bale : Nat)
  | pressQuery (part b : Nat) (clear : Bool)
  | ticketBase (serial : Nat)
  | ticketFetch (count : Nat)
  | ticketTake (serial : Nat)
  | ticketStatus (part : Nat)
  | noticeEnable (sources : List Byte)
  | noticeClear (sources : List Byte)
  | noticeRead
  deriving DecidableEq, Repr

/-- A two-byte value. -/
def nat2 (a b : Byte) : Nat := natOfBytes [a, b]

/-- A four-byte value. -/
def nat4 (a b c d : Byte) : Nat := natOfBytes [a, b, c, d]

/-- An option yes or no: 1 or 0 (R187). -/
def optionOf (b : Byte) : Option Bool :=
  if b = 0 then some false else if b = 1 then some true else none

/-- A choice of two named values, the first 1 and the second 2 (R187); true for the second. -/
def choiceOf (b : Byte) : Option Bool :=
  if b = 1 then some false else if b = 2 then some true else none

/-- R186, R185: a part number 0..15. -/
def partOf (b : Byte) : Option Nat := if b.toNat ≤ 15 then some b.toNat else none

/-- The bytes of a plain entry of a table (log 18); a table whose plain writes its own test refuses takes any. -/
def plainWidth : Nat → Option Nat
  | 1 => some 3
  | 2 => some 5
  | 3 => some 24
  | 5 => some 20
  | 6 => some 18
  | 7 => some 3
  | _ => none

/-- R185: a plain write's content has its table's length (log 19). -/
def plainLengthOk (table : Nat) (content : List Byte) : Bool :=
  match plainWidth table with
  | some n => content.length == n
  | none => true

/-- R185: a staged segment's content has a length its segment can have (log 20): a Station head of 3 bytes or a
descriptor of 15; three stages of 10 bytes, and fewer only in a last segment. -/
def stagedLengthOk (table segment : Nat) (last : Bool) (content : List Byte) : Bool :=
  match table with
  | 1 => content.length == (if segment = 0 then 3 else 15)
  | 4 =>
    if last then
      content.length == 10 || content.length == 20 || content.length == 30 || (segment == 0 && content.length == 0)
    else content.length == 30
  | _ => true

/-- A request that names one unit. -/
def onUnit (f : Nat → Request) : List Byte → Option Request
  | [u] => some (f u.toNat)
  | _ => none

/-- A query that names a part and one unit. -/
def onPartUnit (f : Nat → Nat → Request) : List Byte → Option Request
  | [p, u] => (partOf p).map fun p => f p u.toNat
  | _ => none

/-- A query that names a part and an option. -/
def onPartOption (f : Nat → Bool → Request) : List Byte → Option Request
  | [p, c] => (partOf p).bind fun p => (optionOf c).map fun c => f p c
  | _ => none

/-- A query that names a part, a unit and an option. -/
def onPartUnitOption (f : Nat → Nat → Bool → Request) : List Byte → Option Request
  | [p, u, c] => (partOf p).bind fun p => (optionOf c).map fun c => f p u.toNat c
  | _ => none

/-- A query that names a part, a two-byte number and a selector Exact or Next. -/
def onPartSelector (f : Nat → Nat → Bool → Request) : List Byte → Option Request
  | [p, h, l, c] => (partOf p).bind fun p => (choiceOf c).map fun c => f p (nat2 h l) c
  | _ => none

/-- A request that names a four-byte value. -/
def onValue (f : Nat → Request) : List Byte → Option Request
  | [a, b, c, d] => some (f (nat4 a b c d))
  | _ => none

/-- A request that names a two-byte number. -/
def onNumber (f : Nat → Request) : List Byte → Option Request
  | [a, b] => some (f (nat2 a b))
  | _ => none

/-- A request that names nothing. -/
def onNothing (r : Request) : List Byte → Option Request
  | [] => some r
  | _ => none

/-- A request that names a set of sources. -/
def onSources (f : List Byte → Request) (a : List Byte) : Option Request := if a.length = 10 then some (f a) else none

/-- The table requests (codes 1 to 7). -/
def parseTables (code : Nat) (a : List Byte) : Option Request :=
  match code, a with
  | 1, [t, i, g] => some (.tableRead t.toNat i.toNat g.toNat)
  | 2, t :: i :: content =>
    if plainLengthOk t.toNat content then some (.tableWritePlain t.toNat i.toNat content) else none
  | 3, t :: i :: g :: l :: content =>
    (optionOf l).bind fun last =>
      if stagedLengthOk t.toNat g.toNat last content then some (.tableWriteStaged t.toNat i.toNat g.toNat last content)
      else none
  | 4, a => onPartOption .lineStatus a
  | 5, a => onNothing .lineReset a
  | 6, a => onNothing .identify a
  | 7, a => onValue .clockSet a
  | _, _ => none

/-- The lot, channel and picker requests (codes 16 to 38). -/
def parseLots (code : Nat) (a : List Byte) : Option Request :=
  match code, a with
  | 16, [n, m, g, h, v, p, x, y] =>
    (optionOf p).map fun p => .lotDeclare (nat2 n m) (nat2 g h) v.toNat (if p then some (nat2 x y) else none)
  | 17, a => onNumber .lotClose a
  | 18, a => onNumber .lotRemove a
  | 19, a => onPartSelector .lotQuery a
  | 24, [p, s, c] => (partOf p).map fun p => .sampleQuery p s.toNat c.toNat
  | 25, a => onPartOption .exceptionRead a
  | 32, a => onUnit .pickerStart a
  | 33, a => onUnit .pickerStop a
  | 34, a => onUnit .pickerHold a
  | 35, a => onUnit .pickerRelease a
  | 36, a => onUnit .chargeClose a
  | 37, [p, k] => some (.pickerAssign p.toNat k.toNat)
  | 38, a => onPartUnitOption .pickerQuery a
  | _, _ => none

/-- The floor, kiln and permit requests (codes 40 to 60). -/
def parseKilns (code : Nat) (a : List Byte) : Option Request :=
  match code, a with
  | 40, a => onPartUnit .floorQuery a
  | 41, a => onPartSelector .chargeQuery a
  | 48, a => onUnit .cycleNow a
  | 49, a => onUnit .kilnRelease a
  | 50, [k, m] => (choiceOf m).map fun m => .kilnMode k.toNat m
  | 51, a => onUnit .cycleResume a
  | 52, a => onPartUnit .kilnQuery a
  | 56, a => onUnit .permitStage a
  | 57, a => onUnit .permitRenewOdd a
  | 58, a => onUnit .permitRenewEven a
  | 59, a => onUnit .permitConfirm a
  | 60, a => onUnit .permitWithdraw a
  | _, _ => none

/-- The press, ticket and notice requests (codes 64 to 82). -/
def parsePresses (code : Nat) (a : List Byte) : Option Request :=
  match code, a with
  | 64, a => onUnit .pressNow a
  | 65, a => onUnit .pressClear a
  | 66, [b, v] => (optionOf v).map fun v => .pressAuto b.toNat v
  | 67, [b, n, m] => some (.pressReweigh b.toNat (nat2 n m))
  | 68, a => onPartUnitOption .pressQuery a
  | 72, a => onValue .ticketBase a
  | 73, a => onUnit .ticketFetch a
  | 74, a => onValue .ticketTake a
  | 75, [p] => (partOf p).map .ticketStatus
  | 80, a => onSources .noticeEnable a
  | 81, a => onSources .noticeClear a
  | 82, a => onNothing .noticeRead a
  | _, _ => none

/-- R185: the Request a payload spells, where its form is good in every state. -/
def parseRequest : List Byte → Option Request
  | [] => none
  | code :: a =>
    if code.toNat < 16 then parseTables code.toNat a
    else if code.toNat < 40 then parseLots code.toNat a
    else if code.toNat < 64 then parseKilns code.toNat a
    else parsePresses code.toNat a

end Sys2Proof.Machine
end

