-- ==== Sys2Proof/Machine/Layouts.lean ====
section
/-! DEFINITION. Enumerations and records as bytes (spec/11 11.2, 11.3, R187): each enumerated value is sent as its position
in the list its rule gives, each field in the width of 11.2 (log 18), lists preceded by their count (log 17). -/

namespace Sys2Proof.Machine

/-! ## Codes (R187) -/

def roleCode : Role → Nat
  | .beltScale => 1
  | .wagonReader => 2
  | .feedDrive => 3
  | .distributor => 4
  | .burner => 5
  | .fan => 6
  | .airTemp => 7
  | .floorMoisture => 8
  | .dropScale => 9
  | .dropGate => 10
  | .pileFeed => 11
  | .pressHydraulics => 12
  | .fillScale => 13
  | .baleScale => 14
  | .baleMoisture => 15
  | .other => 16

def allRoles : List Role :=
  [.beltScale, .wagonReader, .feedDrive, .distributor, .burner, .fan, .airTemp, .floorMoisture, .dropScale, .dropGate,
   .pileFeed, .pressHydraulics, .fillScale, .baleScale, .baleMoisture, .other]

def roleOf (n : Nat) : Option Role := allRoles.find? fun r => roleCode r == n

def unitCode : Option UnitId → Nat
  | none => 0
  | some (.picker p) => pickerIndex p + 1
  | some (.kiln k) => kilnIndex k + 1
  | some (.press b) => pressIndex b + 1

def lotStateCode : LotState → Nat
  | .declared => 1
  | .active => 2
  | .closing => 3
  | .settled => 4

def chargeStateCode : ChargeState → Nat
  | .loading => 1
  | .loaded => 2
  | .dropping => 3
  | .piled => 4

def closeReasonCode : CloseReason → Nat
  | .lotChange => 1
  | .full => 2
  | .hostClose => 3
  | .trip => 4

def driedSourceCode : DriedSource → Nat
  | .measured => 1
  | .estimated => 2

def pickerStateCode : PickerState → Nat
  | .stopped => 1
  | .running => 2
  | .clearing => 3
  | .held => 4

def kilnStateCode : KilnState → Nat
  | .idle => 1
  | .awaiting => 2
  | .loading => 3
  | .ready => 4
  | .cycling => 5
  | .finishing => 6
  | .hold => 7
  | .pileFull => 8
  | .dropping => 9
  | .tripped => 10
  | .manual => 11

def permitStateCode : PermitState → Nat
  | .off => 1
  | .staged => 2
  | .live => 3
  | .tripped => 4

def parityCode : Parity → Nat
  | .odd => 1
  | .even => 2

def endTestCode : EndTest → Nat
  | .time => 1
  | .moisture => 2

def bandActionCode : BandAction → Nat
  | .notice => 1
  | .hold => 2

def sampleClassCode : SampleClass → Nat
  | .normal => 1
  | .zero => 2
  | .low => 3
  | .high => 4
  | .fault => 5
  | .stale => 6
  | .absent => 7

/-- R30, R187: the classes of an exception entry in the order R30 lists them (log 18); no entry holds another. -/
def raisedClassCode : SampleClass → Nat
  | .low => 1
  | .high => 2
  | .fault => 3
  | .stale => 4
  | _ => 0

def operandClassCode : OperandClass → Nat
  | .good => 1
  | .low => 2
  | .high => 3
  | .fault => 4

def channelKindCode : ChannelKind → Nat
  | .level => 1
  | .runningTotal => 2

def pressStateCode : PressState → Nat
  | .idle => 1
  | .filling => 2
  | .starved => 3
  | .compressing => 4
  | .tying => 5
  | .ejecting => 6
  | .weighing => 7
  | .paused => 8
  | .faulted => 9

def fillEndCode : FillEnd → Nat
  | .full => 1
  | .lotBreak => 2
  | .lotEnd => 3
  | .contentLimit => 4
  | .forced => 5

def resumeCode : ResumePoint → Nat
  | .fill => 1
  | .compress => 2
  | .tie => 3
  | .eject => 4

def faultCauseCode : FaultCause → Nat
  | .compressTimeout => 1
  | .tieTimeout => 2
  | .ejectTimeout => 3
  | .hydraulicsFault => 4
  | .yardReset => 5

def purposeCode : WeighPurpose → Nat
  | .bale => 1
  | .reweigh => 2

def watchStateCode : WatchState → Nat
  | .disabled => 1
  | .armed => 2
  | .pending => 3
  | .fired => 4

def outcomeCode : BandOutcome → Nat
  | .inside => 1
  | .below => 2
  | .above => 3
  | .unordered => 4

def fetchEndNat : FetchEnd → Nat
  | .counted => 1
  | .short => 2
  | .reset => 3

def tableCode : TableId → Nat
  | .station => 1
  | .pickerConfig => 2
  | .kilnConfig => 3
  | .schedule => 4
  | .pressConfig => 5
  | .watch => 6
  | .lineSettings => 7

def tableOf : Nat → Option TableId
  | 1 => some .station
  | 2 => some .pickerConfig
  | 3 => some .kilnConfig
  | 4 => some .schedule
  | 5 => some .pressConfig
  | 6 => some .watch
  | 7 => some .lineSettings
  | _ => none

/-- The second value of a two-value enumeration is 2, the first 1. -/
def choiceCode (second : Bool) : Nat := if second then 2 else 1

/-! ## Field forms -/

def byte1 (n : Nat) : List Byte := fieldNat 1 n
def word2 (n : Nat) : List Byte := fieldNat 2 n
def long4 (n : Nat) : List Byte := fieldNat 4 n
def mass4 (m : Word) : List Byte := fieldNat 4 m.toNat
def opt1 (o : Option Nat) : List Byte := fieldOpt 1 byte1 o
def opt2 (o : Option Nat) : List Byte := fieldOpt 2 word2 o
def opt4 (o : Option Nat) : List Byte := fieldOpt 4 long4 o
def optMass (o : Option Word) : List Byte := fieldOpt 4 mass4 o
def optValue (o : Option Int) : List Byte := fieldOpt 4 (fieldInt 4) o

/-- A list preceded by its count (log 17). -/
def listField {α : Type} (f : α → List Byte) (l : List α) : List Byte := byte1 l.length ++ l.flatMap f

/-! ## Table entries (the order of the fields is that of the table of each entry's rule) -/

/-- R162. -/
def stationHead (e : StationEntry) : List Byte := fieldBool e.present ++ byte1 (roleCode e.role) ++ byte1 (unitCode e.unit)

/-- R18. -/
def descriptorBytes (d : Descriptor) : List Byte :=
  byte1 d.channel ++ fieldInt 4 d.rangeLow ++ fieldInt 4 d.rangeHigh ++ word2 d.window ++ word2 d.pollInterval ++
    fieldSet [d.mask.low, d.mask.high, d.mask.fault, d.mask.stale] ++ byte1 (channelKindCode d.kind)

/-- R37. -/
def pickerConfigBytes (c : PickerConfig) : List Byte := word2 c.quiet ++ word2 c.limit ++ [c.route.setWidth 8]

/-- R83. -/
def kilnConfigBytes (c : KilnConfig) : List Byte :=
  byte1 c.schedule ++ byte1 (pressIndex c.pile + 1) ++ long4 c.capacity ++ word2 c.nominalYield ++ word2 c.moistureTarget ++
    fieldInt 2 c.holdSetpoint ++ fieldInt 2 c.maxSetpoint ++ byte1 c.purgeFan ++ word2 c.refresh ++ word2 c.dropTimeout ++
    word2 c.awaitingLimit ++ byte1 (bandActionCode c.bandAction) ++ word2 c.renewalPeriod

/-- R82. -/
def stageBytes (g : Stage) : List Byte :=
  fieldInt 2 g.setpoint ++ byte1 g.fan ++ word2 g.duration ++ word2 g.halfWidth ++ word2 g.grace ++ byte1 (endTestCode g.endTest)

/-- R108. -/
def pressConfigBytes (c : PressConfig) : List Byte :=
  long4 c.target ++ long4 c.minimum ++ word2 c.tare ++ word2 c.quiet ++ word2 c.compressTimeout ++ word2 c.tieTimeout ++
    word2 c.ejectTimeout ++ word2 c.weighWindow

/-- R145. -/
def watchEntryBytes (e : WatchEntry) : List Byte :=
  fieldBool e.enabled ++ byte1 e.station ++ byte1 e.channel ++ fieldInt 4 e.low ++ fieldInt 4 e.high ++ fieldBool e.negate ++
    word2 e.persistence ++ byte1 (choiceCode (!e.unorderedFires)) ++ byte1 (choiceCode e.repeats) ++ word2 e.clearSet.toNat

/-- R146. -/
def watchStateBytes (w : Watch) : List Byte :=
  byte1 (watchStateCode w.state) ++ opt4 w.pendingStart ++ byte1 w.fireCount ++ opt4 w.lastFire ++
    opt1 (w.lastOutcome.map outcomeCode)

/-- R164. -/
def lineSettingsBytes (c : LineSettings) : List Byte := byte1 (choiceCode c.broadcastPass) ++ word2 c.replyWindow

/-! ## Records -/

/-- R1. -/
def lotBytes (n : Nat) (l : Lot) : List Byte :=
  word2 n ++ word2 l.grower ++ byte1 l.variety ++ opt2 l.moistureOverride ++ byte1 (lotStateCode l.state) ++
    mass4 l.opened ++ byte1 l.live ++ byte1 l.bales ++ mass4 l.green ++ mass4 l.dried ++ mass4 l.baleCount ++
    mass4 l.netBaled ++ mass4 l.unweighed ++ fieldBool l.reserved

/-- R62, the flags in the order they are listed. -/
def chargeFlags (c : Charge) : List Byte := fieldSet [c.substituted, c.timedOut, c.timedDry, c.interrupted]

/-- R62. -/
def chargeBytes (n : Nat) (c : Charge) : List Byte :=
  word2 n ++ word2 c.lot ++ byte1 (pickerIndex c.picker + 1) ++ byte1 (kilnIndex c.kiln + 1) ++
    byte1 (chargeStateCode c.state) ++ mass4 c.green ++ opt1 (c.reason.map closeReasonCode) ++ byte1 c.cycles ++
    opt1 (c.pile.map fun b => pressIndex b + 1) ++ optMass c.dried ++ opt1 (c.source.map driedSourceCode) ++ optMass c.drawn ++
    chargeFlags c

/-- R20, with the view of R23. -/
def sampleBytes (r : Sample) (v : View) : List Byte :=
  byte1 (sampleClassCode r.cls) ++ optValue r.value ++
    fieldOpt 5 (fun g => fieldInt 4 g.value ++ byte1 (sampleClassCode (goodClass g))) r.lastGood ++ opt4 r.lastReport ++
    fieldBool r.substituted ++
    fieldOpt 5 (fun b => fieldInt 4 b.total ++ byte1 (operandClassCode b.cls)) r.baseline ++
    byte1 (sampleClassCode v.cls) ++ optValue v.value ++ fieldBool v.substituted

/-- R30; the classes as `raisedClassCode` gives them. -/
def exceptionBytes (e : ExceptionEntry) : List Byte :=
  byte1 e.station ++ byte1 e.channel ++ byte1 (raisedClassCode e.first) ++ byte1 (raisedClassCode e.latest) ++ byte1 e.count

/-- R36, the reasons in the order they are listed. -/
def reasonsByte (h : HoldReasons) : List Byte :=
  fieldSet [h.noFloor, h.unknownLot, h.noTicketSlot, h.sensorLost, h.disabled, h.operator]

/-- R36. -/
def pickerBytes (r : Picker) : List Byte :=
  byte1 (pickerStateCode r.state) ++ reasonsByte r.reasons ++ opt2 r.currentLot ++ opt2 r.pendingLot ++ opt2 r.refusedLot ++
    opt2 r.loading ++ mass4 r.unattributed ++ opt4 r.clearanceStart ++ opt4 r.quietStart ++ opt4 r.waitStart ++
    fieldBool r.stopAfter ++ fieldBool r.feedEnable

/-- R65: a slot's tag and charge. -/
def slotBytes : Slot → List Byte
  | .empty => byte1 1 ++ opt2 none
  | .loading n => byte1 2 ++ opt2 (some n)
  | .loaded n => byte1 3 ++ opt2 (some n)

/-- R65: the floor slot `n` is, upper 1, middle 2, lower 3. -/
def floorOfSlot (top n : Fin 3) : Nat := if n = top then 1 else if n = top + 1 then 2 else 3

/-- R84, R100: a trip capture. -/
def captureBytes (c : Capture) : List Byte :=
  byte1 (kilnStateCode c.state) ++ opt1 c.schedule ++ opt1 c.stage ++ word2 c.elapsed ++ fieldBool c.dropOwed

/-- R84. -/
def kilnBytes (r : Kiln) : List Byte :=
  byte1 (kilnStateCode r.state) ++ opt1 r.cycleSchedule ++ opt1 r.stage ++
    fieldOpt 11 (fun c => stageBytes c.stage ++ fieldBool c.last) r.copy ++ word2 r.stageElapsed ++ fieldBool r.dropOwed ++
    opt4 r.excursionStart ++ fieldBool r.bandLatched ++ opt4 r.awaitingStart ++ fieldOpt 8 captureBytes r.capture ++
    fieldBool r.scheduleFlag ++ fieldBool r.holdOff ++ opt4 r.lastInjection ++ fieldBool r.burnerOwed ++ fieldBool r.fanOwed

/-- R110: the flags of a bale, in the order they are listed. -/
def baleFlags (x : Bale) : List Byte := fieldSet [x.short, x.overdraw, x.estimated, x.faulted]

/-- R110: a content entry. -/
def contentBytes (e : Content) : List Byte := word2 e.charge ++ mass4 e.drawn

/-- R110. -/
def baleBytes (x : Bale) : List Byte :=
  word2 x.number ++ word2 x.lot ++ listField contentBytes x.contents ++ mass4 x.fill ++ opt1 (x.endReason.map fillEndCode) ++
    baleFlags x ++ fieldOpt 4 (fieldMass 4) x.gross ++ fieldOpt 4 (fieldMass 4) x.net ++ fieldOpt 2 (fieldMass 2) x.moisture

/-- R109: a recent-bale list entry. -/
def recentBytes (e : RecentBale) : List Byte :=
  word2 e.number ++ word2 e.lot ++ word2 e.grower ++ long4 e.serial ++ fieldOpt 4 (fieldMass 4) e.gross ++
    fieldOpt 4 (fieldMass 4) e.net ++ word2 e.tare

/-- R109: a weighing slot. -/
def weighBytes (w : WeighSlot) : List Byte :=
  byte1 (purposeCode w.purpose) ++ word2 w.bale ++ long4 w.start ++ fieldOpt 4 (fieldMass 4) w.best

/-- R109: the press record, but for its bale and its reservation wait, which R125 lists apart. -/
def pressBytes (r : Press) : List Byte :=
  byte1 (pressStateCode r.state) ++ fieldBool r.auto ++ word2 r.nextBale ++ byte1 (choiceCode (!r.feedRun)) ++
    fieldBool r.runOwed ++ opt4 r.coastStart ++ opt4 r.phaseStart ++ fieldBool r.phaseOwed ++
    opt1 (r.resume.map resumeCode) ++ opt1 (r.cause.map faultCauseCode) ++ fieldOpt 12 weighBytes r.slot ++ opt1 r.reweighTag ++
    listField recentBytes r.recent ++ mass4 r.unbooked

/-- R137, R143: the transfer, but for its tag. -/
def transferBytes (x : Transfer) : List Byte :=
  byte1 x.count ++ byte1 x.sent ++ opt4 x.lastQueued ++ opt4 x.lastSent ++ fieldBool x.waiting ++
    opt1 (x.endReason.map fetchEndNat) ++ fieldBool x.endOwed

/-! ## Ticket frames (spec/11 11.3) -/

/-- The kind code of a ticket. -/
def ticketCode : TicketBody → Nat
  | .charge .. => 1
  | .bale .. => 2
  | .reweigh .. => 3
  | .settlement .. => 4

/-- The common head of 13 bytes. -/
def ticketHead (t : Ticket) (continuation : Bool) : List Byte :=
  long4 t.serial ++
    byte1 (ticketCode t.body + (if continuation then 64 else 0) + (if t.clockSet then 128 else 0)) ++
    long4 t.stamp ++ word2 t.lot ++ word2 t.grower

/-- A value sent in full width, 0 when absent; its presence is a bit of the flags. -/
def massOrZero (n : Nat) : Option Int → List Byte
  | some v => fieldMass n v
  | none => List.replicate n 0

/-- The fields of a ticket's kind; of a Bale ticket's first frame. -/
def ticketFields : TicketBody → List Byte
  | .charge n p k green reason substituted timedOut =>
    word2 n ++ byte1 (pickerIndex p + 1) ++ byte1 (kilnIndex k + 1) ++ mass4 green ++ byte1 (closeReasonCode reason) ++
      fieldSet [substituted, timedOut]
  | .bale b x tare =>
    byte1 (pressIndex b + 1) ++ word2 x.number ++ byte1 ((x.endReason.map fillEndCode).getD 0) ++
      fieldSet [x.short, x.overdraw, x.estimated, x.faulted, x.gross.isSome, x.net.isSome, x.moisture.isSome] ++
      mass4 x.fill ++ word2 tare ++ massOrZero 4 x.gross ++ massOrZero 4 x.net ++ massOrZero 2 x.moisture ++
      byte1 x.contents.length
  | .reweigh b n original gross net =>
    byte1 (pressIndex b + 1) ++ word2 n ++ long4 original ++ fieldMass 4 gross ++ fieldMass 4 net
  | .settlement opened green dried baleCount netBaled unweighed =>
    mass4 opened ++ mass4 green ++ mass4 dried ++ mass4 baleCount ++ mass4 netBaled ++ mass4 unweighed

/-- The frames of a ticket, in the order they are queued, with their origins (R188). -/
def ticketFrames (t : Ticket) : List (Frame × UpOrigin) :=
  let first := ownUpFrame .ticket 0 (ticketHead t false ++ ticketFields t.body)
  match t.body with
  | .bale _ x _ =>
    [(first, .ticketFirst),
     (ownUpFrame .ticket 0 (ticketHead t true ++ x.contents.flatMap contentBytes), .ticket t.serial)]
  | _ => [(first, .ticket t.serial)]

end Sys2Proof.Machine
end

