-- ==== Sys2Proof/Machine/Queries.lean ====
section
/-! DEFINITION. Results, Replies and the queries (R175, R186): what each query carries, its parts, and the serving of the
Request at the head of the request queue (R174). -/

namespace Sys2Proof.Machine

/-! ## Results and Replies -/

/-- R175: results. -/
inductive ResultCode where
  | done | staged | state | locked | badArgument | notFound | full | discarded | unseeded
  deriving DecidableEq, Repr

/-- spec/11 11.2: the code of a result. -/
def resultByte : ResultCode → Byte
  | .done => 0
  | .staged => 1
  | .state => 2
  | .locked => 3
  | .badArgument => 4
  | .notFound => 5
  | .full => 6
  | .discarded => 7
  | .unseeded => 8

/-- A Reply's result and fields. -/
structure Answer where
  result : ResultCode
  fields : List Byte
  deriving DecidableEq, Repr

/-- Done, with fields. -/
def Answer.done (fields : List Byte) : Answer := { result := .done, fields := fields }

/-- A refusal carries no field (spec/11 11.2). -/
def Answer.refuse (r : ResultCode) : Answer := { result := r, fields := [] }

/-- The code a Reply echoes; 0 for an empty payload (R185). -/
def echoOf (f : Frame) : Byte := f.payload.headD 0

/-- R175: the Reply to a Request. -/
def replyFrame (f : Frame) (a : Answer) : Frame :=
  ownUpFrame .reply f.tag ([echoOf f, resultByte a.result] ++ a.fields)

/-! ## The queries -/

/-- The outcome of a query: a refusal, or the fields of the whole answer. -/
inductive QueryAnswer where
  | refused (r : ResultCode)
  | fields (bs : List Byte)
  deriving DecidableEq, Repr

/-- R181: the staging, and where it is open its table, index and next segment; closed staging is the open byte 0 and three zero
bytes (DESIGN CHOICE, log 57). -/
def stagingBytes : Option Staging → List Byte
  | some g => 1 :: (byte1 (tableCode g.table) ++ byte1 g.index ++ byte1 g.next)
  | none => 0 :: List.replicate 3 0

/-- R171: the nine counters. -/
def counterBytes (c : Counters) : List Byte :=
  long4 c.receivedU ++ long4 c.receivedF ++ long4 c.checkFailures ++ long4 c.forwardDrops ++ long4 c.misdirected ++
    long4 c.overridden ++ long4 c.rewritten ++ long4 c.noReplyPolls ++ long4 c.requestOverruns

/-- R180: the yard clock and its set flag. -/
def clockBytes (c : Clock) : List Byte := long4 c.yard ++ fieldBool c.yardSet

/-- R181: the frames held in each of the four queues. -/
def queueCounts (l : Line) : List Byte :=
  byte1 l.forwardUp.length ++ byte1 l.forwardDown.length ++ byte1 l.ownUp.length ++ byte1 l.ownDown.length

/-- R181: Line Status. -/
def lineStatusFields (s : State) : List Byte :=
  counterBytes s.line.counters ++ clockBytes s.clock ++ queueCounts s.line ++ byte1 s.line.overflow.length ++
    byte1 s.agent.requests.length ++ stagingBytes s.agent.staging

/-- R6: Lot Query. -/
def lotQueryAnswer (s : State) (n : Nat) (next : Bool) : QueryAnswer :=
  if next then
    match tableNext s.lots n with
    | some (m, l) => .fields (lotBytes m l)
    | none => .refused .notFound
  else if n = 0 ∨ 65534 < n then .refused .badArgument
  else
    match s.lot n with
    | some l => .fields (lotBytes n l)
    | none => .refused .notFound

/-- R34: Sample Query. -/
def sampleQueryAnswer (s : State) (station channel : Nat) : QueryAnswer :=
  if isStation station && isChannel channel then
    match s.sample station channel with
    | some r => .fields (sampleBytes r (s.view station channel))
    | none => .refused .notFound
  else .refused .badArgument

/-- R34: Exception Read. -/
def exceptionFields (c : Channels) : List Byte := fieldBool c.overflowed ++ listField exceptionBytes c.exceptions

/-- R59: the loading charge's kiln, lot, green mass and flags. -/
def loadingBytes (c : Charge) : List Byte :=
  byte1 (kilnIndex c.kiln + 1) ++ word2 c.lot ++ mass4 c.green ++ chargeFlags c

/-- R59: the configuration in force (a clearance in progress keeps its interval and limit, log 29). -/
def inForceBytes (r : Picker) : List Byte :=
  let times := if r.state = .clearing then r.inForce.getD (r.config.quiet, r.config.limit) else (r.config.quiet, r.config.limit)
  word2 times.1 ++ word2 times.2 ++ [r.config.route.setWidth 8]

/-- R59: Picker Query; the loading charge's fields are sent together under one presence byte (log 40). -/
def pickerFields (s : State) (p : PickerId) : List Byte :=
  pickerBytes (s.picker p) ++ fieldOpt 8 loadingBytes ((s.loadingCharge p).map Prod.snd) ++ inForceBytes (s.picker p)

/-- R79: the drop in progress, with the dried mass so far and the seconds since its start. The dried mass is sent without a
presence byte: the charge of a drop has one from the drop's start on (R69; DESIGN CHOICE, log 40). -/
def dropBytes (s : State) (d : Drop) : List Byte :=
  word2 d.charge ++ byte1 (pressIndex d.pile + 1) ++ long4 d.start ++ fieldBool d.measured ++
    mass4 (((s.charge d.charge).bind Charge.dried).getD 0) ++ word2 (s.now - d.start)

/-- R79: Floor Query; a kiln in PileFull waits on the pile its configuration names now (log 36), and the pile's entries are
sent as their number (log 49). -/
def floorFields (s : State) (k : KilnId) : List Byte :=
  let r := (s.kiln k).ring
  let pile := s.press (s.kiln k).config.pile
  byte1 r.top.val ++ slotBytes r.slot0 ++ slotBytes r.slot1 ++ slotBytes r.slot2 ++
    byte1 (floorOfSlot r.top 0) ++ byte1 (floorOfSlot r.top 1) ++ byte1 (floorOfSlot r.top 2) ++
    fieldOpt 14 (dropBytes s) r.drop ++ fieldBool r.gateCloseOwed ++ mass4 r.dropsCompleted ++ mass4 r.emptyDrops ++
    byte1 pile.entries.length ++ byte1 pile.inFlight ++ fieldBool (decide ((s.kiln k).state = .pileFull))

/-- R80: the kiln and floor a charge stands on. -/
def State.floorOf (s : State) (n : Nat) : Option (KilnId × Nat) :=
  let on (k : KilnId) : Option (KilnId × Nat) :=
    let r := (s.kiln k).ring
    if r.slot0.charge = some n then some (k, floorOfSlot r.top 0)
    else if r.slot1.charge = some n then some (k, floorOfSlot r.top 1)
    else if r.slot2.charge = some n then some (k, floorOfSlot r.top 2)
    else none
  allKilns.findSome? on

/-- R80: the pile a charge stands in and its place counted from the head. -/
def State.pileOf (s : State) (n : Nat) : Option (PressId × Nat) :=
  allPresses.findSome? fun b =>
    if (s.press b).entries.contains n then some (b, (s.press b).entries.idxOf n + 1) else none

/-- R80: every field of a charge record, and its floor or pile position, sent as two optional pairs: kiln and floor, pile
and place (log 40). -/
def chargeFields (s : State) (n : Nat) (c : Charge) : List Byte :=
  chargeBytes n c ++ fieldOpt 2 (fun e => byte1 (kilnIndex e.1 + 1) ++ byte1 e.2) (s.floorOf n) ++
    fieldOpt 2 (fun e => byte1 (pressIndex e.1 + 1) ++ byte1 e.2) (s.pileOf n)

/-- R80: Charge Query. -/
def chargeQueryAnswer (s : State) (n : Nat) (next : Bool) : QueryAnswer :=
  if next then
    match tableNext s.pool.records n with
    | some (m, c) => .fields (chargeFields s m c)
    | none => .refused .notFound
  else if n = 0 then .refused .badArgument
  else
    match s.charge n with
    | some c => .fields (chargeFields s n c)
    | none => .refused .notFound

/-- R103: the remaining seconds of the running stage; absent where no stage is running (R84, log 50), and 0 for a stage that rests
in Hold with its elapsed beyond its duration (log 44), for which the spec gives no figure (DESIGN CHOICE, log 59). -/
def Kiln.stageRemaining (r : Kiln) : Option Nat :=
  if r.stageRuns then r.copy.map fun c => c.stage.duration - r.stageElapsed else none

/-- R103: Kiln Query; the seconds remaining on the renewal timer and of the stage are absent where none runs (log 50), and 0 past
their end (log 59). -/
def kilnFields (s : State) (k : KilnId) : List Byte :=
  let r := s.kiln k
  kilnBytes r ++ byte1 (permitStateCode r.permit.state) ++ byte1 (parityCode r.permit.parity) ++ byte1 r.permit.proving ++
    opt2 (r.permit.timer.map fun t => t + r.config.renewalPeriod - s.now) ++
    opt2 (r.stageRemaining) ++ kilnConfigBytes r.config ++ fieldBool r.overdue

/-- R125: the seconds remaining on the running coast, phase timeout or weigh window; absent where none runs (log 50), and 0 past
its end (log 59). -/
def pressRemaining (s : State) (r : Press) : Option Nat :=
  match r.coastStart, r.phaseStart, r.slot with
  | some t, _, _ => some (t + r.coastQuiet - s.now)
  | none, some t, _ => some (t + r.phaseTimeout - s.now)
  | none, none, some w => some (w.start + w.window - s.now)
  | none, none, none => none

/-- R125: a pile entry: charge number, lot, dried mass, source and drawn mass, which a Piled charge always has and which are
sent without presence bytes (log 40). -/
def pileBytes (s : State) (n : Nat) : List Byte :=
  match s.charge n with
  | some c =>
    word2 n ++ word2 c.lot ++ mass4 (c.dried.getD 0) ++ byte1 ((c.source.map driedSourceCode).getD 0) ++
      mass4 (c.drawn.getD 0)
  | none => word2 n ++ List.replicate 11 0

/-- R125: Press Query; an absent bale in progress is its presence byte alone (log 40), the seconds remaining have a presence
byte (log 50), and the configuration sent is the configured entry (log 55). -/
def pressFields (s : State) (b : PressId) : List Byte :=
  let r := s.press b
  pressBytes r ++ fieldBool r.bale.isSome ++ (r.bale.map baleBytes).getD [] ++ listField (pileBytes s) r.entries ++
    byte1 r.inFlight ++ opt2 (pressRemaining s r) ++ fieldBool r.reservationWait ++ pressConfigBytes r.config

/-- R132: whether a Seeded store is exhausted. -/
def Store.exhausted (t : Store) : Option Bool := t.room.map fun n => n == t.reserved

/-- R143: a next serial of 4,294,967,296 is sent as 0. -/
def serialField (n : Nat) : List Byte := long4 (if n = Config.serialEnd then 0 else n)

/-- R143: Ticket Status. -/
def ticketStatusFields (s : State) : List Byte :=
  let t := s.store
  byte1 (choiceCode t.nextSerial.isSome) ++ fieldOpt 4 serialField t.nextSerial ++ byte1 t.tickets.length ++
    opt4 (t.tickets.head?.map Ticket.serial) ++ opt4 (t.tickets.getLast?.map Ticket.serial) ++ byte1 t.free ++
    byte1 t.reserved ++ byte1 t.chargeRes ++ byte1 t.baleRes ++ byte1 t.settlementRes ++ byte1 t.reweighRes ++ opt4 t.room ++
    fieldOpt 1 fieldBool t.exhausted ++ long4 t.fetchHigh ++ fieldOpt 16 transferBytes t.transfer ++
    fieldBool (s.notice.latched.getLsbD srcStoreLow) ++ fieldBool (s.notice.latched.getLsbD srcStoreFull)

/-- A query on a unit; another value is refused with BadArgument. -/
def unitAnswer {α : Type} (f : α → List Byte) : Option α → QueryAnswer
  | some u => .fields (f u)
  | none => .refused .badArgument

/-- R186: the part a query asks for, and its answer as the state stands. -/
def State.query (s : State) : Request → Option (Nat × QueryAnswer)
  | .lineStatus part _ => some (part, .fields (lineStatusFields s))
  | .lotQuery part n next => some (part, lotQueryAnswer s n next)
  | .sampleQuery part st ch => some (part, sampleQueryAnswer s st ch)
  | .exceptionRead part _ => some (part, .fields (exceptionFields s.chan))
  | .pickerQuery part p _ => some (part, unitAnswer (pickerFields s) (pickerOf p))
  | .floorQuery part k => some (part, unitAnswer (floorFields s) (kilnOf k))
  | .chargeQuery part n next => some (part, chargeQueryAnswer s n next)
  | .kilnQuery part k => some (part, unitAnswer (kilnFields s) (kilnOf k))
  | .pressQuery part b _ => some (part, unitAnswer (pressFields s) (pressOf b))
  | .ticketStatus part => some (part, .fields (ticketStatusFields s))
  | _ => none

/-- The field bytes of one part (log 16). -/
def partBytes : Nat := 36

/-- R186: the number of parts of an answer; a refusal has one (log 21). -/
def QueryAnswer.parts : QueryAnswer → Nat
  | .refused _ => 1
  | .fields bs => max 1 ((bs.length + (partBytes - 1)) / partBytes)

/-- R186: one part of an answer: its number, the last flag and its fields. -/
def QueryAnswer.part (a : QueryAnswer) (n : Nat) : Answer :=
  match a with
  | .refused r => .refuse r
  | .fields bs =>
    .done (byte1 n ++ fieldBool (decide (n + 1 = a.parts)) ++ (bs.drop (partBytes * n)).take partBytes)

/-- R185: the form of a Request as the state stands: a part number must not lie beyond the last part. -/
def State.formOk (s : State) (r : Request) : Bool :=
  match s.query r with
  | some (part, a) => decide (part < a.parts)
  | none => true

/-- R185: the Request a frame spells, its form tested on the state as it stands. -/
def State.requestOf (s : State) (f : Frame) : Option Request := (parseRequest f.payload).filter s.formOk

/-! ## Serving the head of the request queue (R174) -/

/-- R174, steps 3 and 4: the Reply queued, where there is one, and the Request gone. -/
def answerHead (f : Frame) (a : Option Answer) (s : State) : State :=
  let s := s.onAgent fun g => { g with requests := g.requests.drop 1 }
  match a with
  | some a => queueUp (replyFrame f a) .reply s
  | none => s

/-- R174: the head executed where its Reply finds a place and it is the request `run` answers. -/
def serve (run : Request → Option (Option Answer × State)) (s : State) : State :=
  match s.agent.requests with
  | [] => s
  | f :: _ =>
    if s.upFree = 0 then s
    else
      match (s.requestOf f).bind run with
      | some (a, t) => answerHead f a t
      | none => s

/-- A request answered at its execution, with the state it leaves. -/
def replied (a : Answer) (s : State) : Option (Option Answer × State) := some (some a, s)

/-- A request refused: no state is changed. -/
def refused (r : ResultCode) (s : State) : Option (Option Answer × State) := some (some (.refuse r), s)

/-- A query answered; `after` is what its clear option does once the Reply is formed (R186). -/
def answered (s : State) (r : Request) (after : State → State) : Option (Option Answer × State) :=
  (s.query r).map fun e => (some (e.2.part e.1), after s)

/-! ## The queries as commands -/

/-- LINE_STATUS (R181). -/
def execLineStatus (s : State) : Result :=
  .next (serve (fun r => match r with
    | .lineStatus _ clear => answered s r fun s => if clear then s.onCounters fun _ => .reset else s
    | _ => none) s)

/-- LOT_QUERY (R6). -/
def execLotQuery (s : State) : Result :=
  .next (serve (fun r => match r with
    | .lotQuery .. => answered s r id
    | _ => none) s)

/-- SAMPLE_QUERY (R34). -/
def execSampleQuery (s : State) : Result :=
  .next (serve (fun r => match r with
    | .sampleQuery .. => answered s r id
    | _ => none) s)

/-- EXCEPTION_READ (R34). -/
def execExceptionRead (s : State) : Result :=
  .next (serve (fun r => match r with
    | .exceptionRead _ clear => answered s r fun s =>
        if clear then s.onChan fun c => { c with exceptions := [], overflowed := false } else s
    | _ => none) s)

/-- PICKER_QUERY (R59). -/
def execPickerQuery (s : State) : Result :=
  .next (serve (fun r => match r with
    | .pickerQuery _ p clear => answered s r fun s =>
        match pickerOf p with
        | some p => if clear then s.onPicker p fun r => { r with unattributed := 0 } else s
        | none => s
    | _ => none) s)

/-- FLOOR_QUERY (R79). -/
def execFloorQuery (s : State) : Result :=
  .next (serve (fun r => match r with
    | .floorQuery .. => answered s r id
    | _ => none) s)

/-- CHARGE_QUERY (R80). -/
def execChargeQuery (s : State) : Result :=
  .next (serve (fun r => match r with
    | .chargeQuery .. => answered s r id
    | _ => none) s)

/-- KILN_QUERY (R103). -/
def execKilnQuery (s : State) : Result :=
  .next (serve (fun r => match r with
    | .kilnQuery .. => answered s r id
    | _ => none) s)

/-- PRESS_QUERY (R125). -/
def execPressQuery (s : State) : Result :=
  .next (serve (fun r => match r with
    | .pressQuery _ b clear => answered s r fun s =>
        match pressOf b with
        | some b => if clear then s.onPress b fun r => { r with unbooked := 0 } else s
        | none => s
    | _ => none) s)

/-- TICKET_STATUS (R143). -/
def execTicketStatus (s : State) : Result :=
  .next (serve (fun r => match r with
    | .ticketStatus .. => answered s r id
    | _ => none) s)

/-- REQUEST_BAD_FORM (R185): a Request of bad form is answered BadArgument and has no other effect. -/
def execRequestBadForm (s : State) : Result :=
  match s.agent.requests with
  | [] => .next s
  | f :: _ =>
    .next (if s.upFree ≠ 0 ∧ s.requestOf f = none then answerHead f (some (.refuse .badArgument)) s else s)

end Sys2Proof.Machine
end

