-- ==== Sys2Proof/Machine/Permits.lean ====
section
/-! DEFINITION. The kiln requests and the Heat Permits (spec/05 5.3 to 5.7): Cycle Now, Kiln Release, Kiln Mode, Cycle
Resume, the permit requests, the lapse and the trip. -/

namespace Sys2Proof.Machine

/-- A request on a kiln; a kiln outside K1..K6 is refused with BadArgument. -/
def onKilnRequest (n : Nat) (s : State) (f : KilnId → Option (Option Answer × State)) : Option (Option Answer × State) :=
  match kilnOf n with
  | some k => f k
  | none => refused .badArgument s

/-! ## Trips and lapses (R97, R100) -/

/-- R100, step 3: the states whose cycle a trip captures. -/
def KilnState.captured (st : KilnState) : Bool :=
  st == .cycling || st == .finishing || st == .hold || st == .manual || st == .pileFull

/-- R100, step 3: the trip capture. -/
def captureCycle (k : KilnId) (s : State) : State :=
  if (s.kiln k).state.captured then
    s.onKiln k fun r =>
      { r with capture := some { state := r.state, schedule := r.cycleSchedule, stage := r.stage, elapsed := r.stageElapsed,
                                 dropOwed := r.dropOwed } }
  else s

/-- R100, step 6: a kiln in Dropping stays; any other enters Tripped with its cycle cleared. -/
def enterTripped (k : KilnId) (s : State) : State :=
  if (s.kiln k).state = .dropping then s
  else
    (clearExcursion k (clearCycle k s)).onKiln k fun r =>
      { r with state := .tripped, awaitingStart := none, overdue := false }

/-- R100, step 2: Burner Off and Fan purge as safety frames. -/
def purgeFrames (k : KilnId) (s : State) : State :=
  safetyCommand .fan (.kiln k) (s.kiln k).config.purgeFan (safetyCommand .burner (.kiln k) 0 s)

/-- The picker whose loading charge stands on a kiln's upper floor, with the charge. -/
def State.loadingOn (s : State) (k : KilnId) : Option (Nat × Charge) :=
  match (s.kiln k).ring.upper with
  | .loading n => (s.charge n).map fun c => (n, c)
  | _ => none

/-- R100: the trip, in one step. -/
def trip (k : KilnId) (s : State) : State :=
  let s := s.onPermit k fun r => { r with state := .tripped, timer := none }
  let s := captureCycle k (purgeFrames k s)
  let loading := s.loadingOn k
  let s := match loading with
    | some (n, c) => closeCore c.picker n c .trip s
    | none => s
  let s := enterTripped k (latch (srcTrip k) s)
  match loading with
  | some (_, c) => pickerAfterClose c.picker s
  | none => s

/-- R89, R93, R97, R99: a permit goes to Off and its timer stops; a stage clock that stops clears its excursion. -/
def permitOff (k : KilnId) (s : State) : State :=
  let s := s.onPermit k fun r => { r with state := .off, timer := none }
  if (s.kiln k).state.cycles then clearExcursion k s else s

/-- R97: a failed renewal, or the expiry of the timer: Staged lapses and Live trips. -/
def failRenewal (k : KilnId) (s : State) : State :=
  match (s.kiln k).permit.state with
  | .staged => latch (srcPermitLapse k) (permitOff k s)
  | .live => trip k s
  | _ => s

/-- PERMIT_TIMER_EXPIRY (R97): the renewal period has passed on the timer. -/
def execPermitTimerExpiry (k : KilnId) (s : State) : Result :=
  match (s.kiln k).permit.timer with
  | none => .next s
  | some t => .next (if t + (s.kiln k).config.renewalPeriod ≤ s.now then failRenewal k s else s)

/-! ## Permit requests (R96 to R99) -/

/-- R96: Permit Stage. -/
def permitStage (k : KilnId) (s : State) : Option (Option Answer × State) :=
  if (s.kiln k).permit.state = .off then
    replied (.done []) (s.onPermit k fun _ => { state := .staged, timer := some s.now, parity := .odd, proving := 0 })
  else refused .state s

/-- PERMIT_STAGE (R96). -/
def execPermitStage (s : State) : Result :=
  .next (serve (fun r => match r with
    | .permitStage k => onKilnRequest k s fun k => permitStage k s
    | _ => none) s)

/-- The other parity. -/
def otherParity : Parity → Parity
  | .odd => .even
  | .even => .odd

/-- R97: a correct renewal. -/
def renewPermit (k : KilnId) (s : State) : State :=
  s.onPermit k fun r =>
    { r with
      timer := some s.now
      parity := otherParity r.parity
      proving := if r.state = .staged then countUp Config.byteTop r.proving else r.proving }

/-- R97: Permit Renew Odd and Even. -/
def permitRenew (parity : Parity) (k : KilnId) (s : State) : Option (Option Answer × State) :=
  let r := (s.kiln k).permit
  if r.state = .staged ∨ r.state = .live then
    let t := if r.parity = parity then renewPermit k s else failRenewal k s
    replied (.done (byte1 (permitStateCode (t.kiln k).permit.state))) t
  else refused .state s

/-- PERMIT_RENEW_ODD (R97). -/
def execPermitRenewOdd (s : State) : Result :=
  .next (serve (fun r => match r with
    | .permitRenewOdd k => onKilnRequest k s fun k => permitRenew .odd k s
    | _ => none) s)

/-- PERMIT_RENEW_EVEN (R97). -/
def execPermitRenewEven (s : State) : Result :=
  .next (serve (fun r => match r with
    | .permitRenewEven k => onKilnRequest k s fun k => permitRenew .even k s
    | _ => none) s)

/-- R98: Permit Confirm. -/
def permitConfirm (k : KilnId) (s : State) : Option (Option Answer × State) :=
  if (s.kiln k).permit.state = .staged ∧ 2 ≤ (s.kiln k).permit.proving then
    replied (.done []) (tryStart k (s.onPermit k fun r => { r with state := .live }))
  else refused .state s

/-- PERMIT_CONFIRM (R98). -/
def execPermitConfirm (s : State) : Result :=
  .next (serve (fun r => match r with
    | .permitConfirm k => onKilnRequest k s fun k => permitConfirm k s
    | _ => none) s)

/-- R99: Permit Withdraw. -/
def permitWithdraw (k : KilnId) (s : State) : Option (Option Answer × State) :=
  match (s.kiln k).permit.state with
  | .off => replied (.done []) s
  | .tripped => refused .state s
  | _ => replied (.done []) (permitOff k s)

/-- PERMIT_WITHDRAW (R99). -/
def execPermitWithdraw (s : State) : Result :=
  .next (serve (fun r => match r with
    | .permitWithdraw k => onKilnRequest k s fun k => permitWithdraw k s
    | _ => none) s)

/-! ## Kiln requests -/

/-- R88: the cases that refuse Cycle Now. -/
def State.mayCycleNow (s : State) (k : KilnId) : Bool :=
  let r := s.kiln k
  (r.state == .awaiting || r.state == .loading || r.state == .ready) && r.permit.state == .live && r.scheduleFlag &&
    !(s.schedule r.config.schedule).isEmpty &&
    match s.loadingOn k with
    | some (_, c) => (s.picker c.picker).state != .clearing
    | none => true

/-- R88, step 1: a loading charge closed with HostClose; its picker responds. -/
def closeForCycle (k : KilnId) (s : State) : State :=
  match s.loadingOn k with
  | some (n, c) => pickerAfterClose c.picker (enterKiln k .ready (closeCore c.picker n c .hostClose s))
  | none => s

/-- R88: Cycle Now. -/
def cycleNow (k : KilnId) (s : State) : Option (Option Answer × State) :=
  if s.mayCycleNow k then
    replied (.done []) (startCycle k ((closeForCycle k s).onKiln k fun r => { r with capture := none }))
  else refused .state s

/-- CYCLE_NOW (R88). -/
def execCycleNow (s : State) : Result :=
  .next (serve (fun r => match r with
    | .cycleNow k => onKilnRequest k s fun k => cycleNow k s
    | _ => none) s)

/-- KILN_RELEASE (R94). -/
def execKilnRelease (s : State) : Result :=
  .next (serve (fun r => match r with
    | .kilnRelease k => onKilnRequest k s fun k => replied (.done []) (releaseHold k s)
    | _ => none) s)

/-- KILN_MODE (R95). -/
def execKilnMode (s : State) : Result :=
  .next (serve (fun r => match r with
    | .kilnMode k manual => onKilnRequest k s fun k =>
        replied (.done []) (if manual then clearSchedule k s else setSchedule k s)
    | _ => none) s)

/-- R101: the capture can be resumed. -/
def State.resumable (s : State) (c : Capture) : Bool :=
  c.dropOwed || decide (c.stage.getD 0 ≤ (s.schedule (c.schedule.getD 0)).length)

/-- R101: the captured cycle restarted; it ends the wait in Awaiting as a cycle start does (R86, log 43). With drop owed yes
the injection of the entry to Cycling (R92) comes before the drop start, in the order of R101's words (log 22). -/
def resumeCapture (k : KilnId) (c : Capture) (s : State) : State :=
  let s := s.onKiln k fun r =>
    { r with cycleSchedule := c.schedule, capture := none, awaitingStart := none, overdue := false }
  if c.dropOwed then
    askDrop k (enterKiln k .cycling (s.onKiln k fun r => { r with dropOwed := true, stage := c.stage, copy := none }))
  else resumeStage k (c.stage.getD 0) c.elapsed s

/-- R101: Cycle Resume. -/
def cycleResume (k : KilnId) (s : State) : Option (Option Answer × State) :=
  let r := s.kiln k
  match r.capture with
  | none => refused .state s
  | some c =>
    if (r.state = .ready ∨ r.state = .awaiting) ∧ r.permit.state = .live ∧ r.scheduleFlag ∧ s.resumable c then
      replied (.done []) (resumeCapture k c s)
    else refused .state s

/-- CYCLE_RESUME (R101). -/
def execCycleResume (s : State) : Result :=
  .next (serve (fun r => match r with
    | .cycleResume k => onKilnRequest k s fun k => cycleResume k s
    | _ => none) s)

end Sys2Proof.Machine
end

