-- ==== Sys2Proof/Machine/Requests.lean ====
section
/-! DEFINITION. The requests on lots, pickers, presses, tickets, notices and the clock (spec/01, 03, 06, 07, 08, 10), and
the Ticket Store's own frames. -/

namespace Sys2Proof.Machine

/-! ## Identify and the yard clock (R182, R180) -/

/-- R182: the values Identify carries. -/
def identifyFields : List Byte :=
  word2 0x3A41 ++ word2 7340 ++ [0x41] ++ byte1 125 ++ byte1 4 ++ byte1 24 ++ byte1 Config.lotPlaces ++
    byte1 Config.chargePlaces ++ byte1 8 ++ byte1 12 ++ byte1 Config.storePlaces ++ byte1 Config.pilePlaces ++
    byte1 Config.recentPlaces ++ byte1 Config.exceptionPlaces ++ byte1 Config.forwardUpPlaces ++
    byte1 Config.forwardDownPlaces ++ byte1 Config.ownUpPlaces ++ byte1 Config.ownDownPlaces ++
    byte1 (Config.ownDownPlaces - Config.ownDownOrdinary) ++ byte1 Config.requestPlaces

/-- IDENTIFY (R182). -/
def execIdentify (s : State) : Result :=
  .next (serve (fun r => match r with
    | .identify => replied (.done identifyFields) s
    | _ => none) s)

/-- CLOCK_SET (R180). -/
def execClockSet (s : State) : Result :=
  .next (serve (fun r => match r with
    | .clockSet v => replied (.done (clockBytes s.clock)) (s.onClock fun c => { c with yard := v, yardSet := true })
    | _ => none) s)

/-! ## Lots (R3, R4, R5) -/

/-- R1, R3: the record of a new lot. -/
def Lot.declared (grower variety : Nat) (moistureOverride : Option Nat) : Lot :=
  { grower := grower, variety := variety, moistureOverride := moistureOverride, state := .declared, opened := 0, live := 0,
    bales := 0, green := 0, dried := 0, baleCount := 0, netBaled := 0, unweighed := 0, reserved := false }

/-- R3, R41: a picker released from UnknownLot takes the declared lot as a card read. -/
def releaseUnknown (p : PickerId) (n : Nat) (s : State) : State :=
  if (s.picker p).reasons.unknownLot ∧ (s.picker p).refusedLot = some n then takeCard p n s else s

/-- R3, test 1. -/
def lotArgumentsOk (n grower : Nat) (moistureOverride : Option Nat) : Bool :=
  decide (1 ≤ n) && decide (n ≤ 65534) && decide (1 ≤ grower) && decide (moistureOverride.getD 0 ≤ 1000)

/-- R3: Lot Declare. -/
def lotDeclare (n grower variety : Nat) (moistureOverride : Option Nat) (s : State) : Option (Option Answer × State) :=
  if lotArgumentsOk n grower moistureOverride = false ∨ (s.lot n).isSome then refused .badArgument s
  else if Config.lotPlaces ≤ s.lots.length then refused .full s
  else
    replied (.done [])
      (releaseUnknown .p2 n (releaseUnknown .p1 n
        (s.withLots (tablePut s.lots n (.declared grower variety moistureOverride)))))

/-- LOT_DECLARE (R3). -/
def execLotDeclare (s : State) : Result :=
  .next (serve (fun r => match r with
    | .lotDeclare n g v m => lotDeclare n g v m s
    | _ => none) s)

/-- R116: the test for LotEnd at a press whose bale is of a lot that closes. -/
def lotEndTestOf (n : Nat) (b : PressId) (s : State) : State :=
  if (s.press b).bale.map Bale.lot = some n then lotEndTest b s else s

/-- R4: the lot closed, its reservation granted; a Starved press with a bale of the lot tests for LotEnd (R116). -/
def closeLot (n : Nat) (s : State) : State :=
  lotEndTestOf n .b2 (lotEndTestOf n .b1 (settleTest n (s.onLot n fun l => { l with reserved := true, state := .closing })))

/-- R4: Lot Close. -/
def lotClose (n : Nat) (s : State) : Option (Option Answer × State) :=
  match s.lot n with
  | none => refused .notFound s
  | some l =>
    if l.state = .closing ∨ l.state = .settled then refused .state s
    else if s.store.nextSerial.isNone then refused .unseeded s
    else
      match askReservation .settlement s with
      | (false, s) => refused .full s
      | (true, s) =>
        let t := closeLot n s
        replied (.done (byte1 (((t.lot n).map fun l => lotStateCode l.state).getD 0))) t

/-- LOT_CLOSE (R4). -/
def execLotClose (s : State) : Result :=
  .next (serve (fun r => match r with
    | .lotClose n => lotClose n s
    | _ => none) s)

/-- R5, test 3: a lot number held by a picker. -/
def State.pickerHoldsLot (s : State) (n : Nat) : Bool :=
  allPickers.any fun p => (s.picker p).currentLot == some n || (s.picker p).pendingLot == some n

/-- R5: Lot Remove. -/
def lotRemove (n : Nat) (s : State) : Option (Option Answer × State) :=
  match s.lot n with
  | none => refused .notFound s
  | some l =>
    if l.state = .active ∨ l.state = .closing ∨ s.pickerHoldsLot n then refused .state s
    else replied (.done []) (s.withLots (tableErase s.lots n))

/-- LOT_REMOVE (R5). -/
def execLotRemove (s : State) : Result :=
  .next (serve (fun r => match r with
    | .lotRemove n => lotRemove n s
    | _ => none) s)

/-! ## Pickers (R54 to R58) -/

/-- A request on a picker; any other picker is refused with BadArgument. -/
def onPickerRequest (n : Nat) (s : State) (f : PickerId → Option (Option Answer × State)) : Option (Option Answer × State) :=
  match pickerOf n with
  | some p => f p
  | none => refused .badArgument s

/-- R54: a Stopped picker brought back into service. -/
def startPicker (p : PickerId) (s : State) : State :=
  let r := s.picker p
  if r.loading.isSome then
    if r.pendingLot.isSome then startClearance p s
    else if r.reasons.isEmpty then enterRunning p s
    else enterHeld p s
  else if r.reasons.standing then enterHeld p s
  else openOwn p s

/-- PICKER_START (R54). -/
def execPickerStart (s : State) : Result :=
  .next (serve (fun r => match r with
    | .pickerStart p => onPickerRequest p s fun p =>
        if (s.picker p).state = .stopped ∧ (s.picker p).currentLot.isSome then replied (.done []) (startPicker p s)
        else refused .state s
    | _ => none) s)

/-- R55: Picker Stop. -/
def stopPicker (p : PickerId) (s : State) : State :=
  match (s.picker p).state with
  | .stopped => s
  | .clearing => s.onPicker p fun r => { r with stopAfter := true }
  | _ => enterStopped p (dropOpeningReasons p s)

/-- PICKER_STOP (R55). -/
def execPickerStop (s : State) : Result :=
  .next (serve (fun r => match r with
    | .pickerStop p => onPickerRequest p s fun p => replied (.done []) (stopPicker p s)
    | _ => none) s)

/-- PICKER_HOLD (R56). -/
def execPickerHold (s : State) : Result :=
  .next (serve (fun r => match r with
    | .pickerHold p => onPickerRequest p s fun p =>
        replied (.done []) (holdIfRunning p (onReasons p (fun h => { h with operator := true }) s))
    | _ => none) s)

/-- R56: Picker Release. -/
def releasePicker (p : PickerId) (s : State) : State :=
  let had := (s.picker p).reasons.operator || (s.picker p).reasons.disabled
  let s := s.onPicker p fun r =>
    { r with feedEnable := true, reasons := { r.reasons with operator := false, disabled := false } }
  if had then afterRemoval p s else s

/-- PICKER_RELEASE (R56). -/
def execPickerRelease (s : State) : Result :=
  .next (serve (fun r => match r with
    | .pickerRelease p => onPickerRequest p s fun p => replied (.done []) (releasePicker p s)
    | _ => none) s)

/-- R57: Charge Close. -/
def chargeClose (p : PickerId) (s : State) : Option (Option Answer × State) :=
  match s.loadingCharge p with
  | none => refused .state s
  | some (n, c) =>
    if (s.picker p).state = .clearing then refused .state s
    else replied (.done (word2 n ++ mass4 c.green)) (closeCharge p .hostClose s)

/-- CHARGE_CLOSE (R57). -/
def execChargeClose (s : State) : Result :=
  .next (serve (fun r => match r with
    | .chargeClose p => onPickerRequest p s fun p => chargeClose p s
    | _ => none) s)

/-- R58: the Reply an attempt's outcome gives. -/
def assignAnswer (seeded : Bool) : OpeningOutcome → Answer
  | .completed n => .done (word2 n)
  | .noPlace => .refuse .full
  | .noRecord => .refuse .full
  | .noTicket => .refuse (if seeded then .full else .unseeded)
  | .noFloor => .refuse .state
  | .lotRefused => .refuse .state

/-- R58: Picker Assign. -/
def pickerAssign (p : PickerId) (k : KilnId) (s : State) : Option (Option Answer × State) :=
  if inRoute (s.picker p).config k = false then refused .badArgument s
  else if (s.picker p).needsCharge = false ∨ (s.kiln k).claimable = false then refused .state s
  else replied (assignAnswer s.store.nextSerial.isSome (tryOpen p (.assigned k) s).1) (tryOpen p (.assigned k) s).2

/-- PICKER_ASSIGN (R58). -/
def execPickerAssign (s : State) : Result :=
  .next (serve (fun r => match r with
    | .pickerAssign p k => onPickerRequest p s fun p => onKilnRequest k s fun k => pickerAssign p k s
    | _ => none) s)

/-! ## Presses (R115, R122, R123, R124) -/

/-- A request on a press; a press number outside B1..B2 is refused with BadArgument. -/
def onPressRequest (n : Nat) (s : State) (f : PressId → Option (Option Answer × State)) : Option (Option Answer × State) :=
  match pressOf n with
  | some b => f b
  | none => refused .badArgument s

/-- R115: the states Press Now acts in. -/
def Press.mayForce (r : Press) : Bool :=
  r.state == .starved || (r.state == .filling && (r.bale.bind Bale.endReason).isNone)

/-- R115: Press Now; outcome Ended 1 or Withdrawn 2. -/
def pressNow (b : PressId) (s : State) : Option (Option Answer × State) :=
  if (s.press b).mayForce then
    let t := endFill b .forced s
    replied (.done (byte1 (if (t.press b).bale.isSome then 1 else 2))) t
  else refused .state s

/-- PRESS_NOW (R115). -/
def execPressNow (s : State) : Result :=
  .next (serve (fun r => match r with
    | .pressNow b => onPressRequest b s fun b => pressNow b s
    | _ => none) s)

/-- R122: a Faulted press cleared. -/
def clearPress (b : PressId) (s : State) : State :=
  let s := s.onBale b fun x => { x with faulted := true, gross := none, net := none, moisture := none }
  (completeBale b s).onPress b fun r => { r with cause := none }

/-- PRESS_CLEAR (R122): the Reply carries the Bale ticket's serial. -/
def execPressClear (s : State) : Result :=
  .next (serve (fun r => match r with
    | .pressClear b => onPressRequest b s fun b =>
        if (s.press b).state = .faulted then replied (.done (long4 s.serialNext)) (clearPress b s)
        else refused .state s
    | _ => none) s)

/-- PRESS_AUTO (R123): the Reply carries the press state after the request. -/
def execPressAuto (s : State) : Result :=
  .next (serve (fun r => match r with
    | .pressAuto b v => onPressRequest b s fun b =>
        let t := if v then setAuto b s else clearAuto b s
        replied (.done (byte1 (pressStateCode (t.press b).state))) t
    | _ => none) s)

/-- R124: an accepted Reweigh opens its weighing slot. -/
def startReweigh (b : PressId) (n tag : Nat) (s : State) : State :=
  s.onPress b fun r =>
    { r with
      slot := some { purpose := .reweigh, bale := n, start := s.now, best := none, window := r.config.weighWindow }
      reweighTag := some tag }

/-- R124: Press Reweigh; an accepted one leaves the request queue without a Reply (R175). -/
def pressReweigh (b : PressId) (n tag : Nat) (s : State) : Option (Option Answer × State) :=
  let r := s.press b
  if (r.recentOf n).isNone then refused .notFound s
  else if (r.state ≠ .idle ∧ r.state ≠ .paused) ∨ r.slot.isSome then refused .state s
  else if s.store.nextSerial.isNone then refused .unseeded s
  else
    match askReservation .reweigh s with
    | (false, s) => refused .full s
    | (true, s) => some (none, startReweigh b n tag s)

/-- The tag of the Request at the head of the request queue. -/
def State.headTag (s : State) : Nat := (s.agent.requests.head?.map Frame.tag).getD 0

/-- PRESS_REWEIGH (R124). -/
def execPressReweigh (s : State) : Result :=
  .next (serve (fun r => match r with
    | .pressReweigh b n => onPressRequest b s fun b => pressReweigh b n s.headTag s
    | _ => none) s)

/-! ## Tickets (R131, R137, R138, R139, R141) -/

/-- R131: Ticket Base. -/
def ticketBase (b : Nat) (s : State) : Option (Option Answer × State) :=
  if b = 0 ∨ 4294967040 < b then refused .badArgument s
  else if s.store.nextSerial.isSome then refused .state s
  else replied (.done []) (wakeStore (s.onStore fun t => { t with nextSerial := some b }))

/-- TICKET_BASE (R131). -/
def execTicketBase (s : State) : Result :=
  .next (serve (fun r => match r with
    | .ticketBase b => ticketBase b s
    | _ => none) s)

/-- spec/11 11.2: the fields of the Fetch Reply. -/
def fetchFields (t : Store) : List Byte := 0 :: (byte1 t.tickets.length ++ opt4 (t.tickets.head?.map Ticket.serial))

/-- R137: the transfer at its start. -/
def Transfer.fresh (tag count : Nat) : Transfer :=
  { tag := tag, count := count, sent := 0, lastQueued := none, lastSent := none, waiting := false, endReason := none,
    endOwed := false }

/-- R137: Ticket Fetch. -/
def ticketFetch (count tag : Nat) (s : State) : Option (Option Answer × State) :=
  if count = 0 ∨ Config.storePlaces < count then refused .badArgument s
  else if s.store.nextSerial.isNone then refused .unseeded s
  else if s.store.transfer.isSome then refused .state s
  else replied (.done (fetchFields s.store)) (s.onStore fun t => { t with transfer := some (.fresh tag count) })

/-- TICKET_FETCH (R137): a transfer made is tested for its end once its Reply is queued (R139). -/
def execTicketFetch (s : State) : Result :=
  let t := serve (fun r => match r with
    | .ticketFetch n => ticketFetch n s.headTag s
    | _ => none) s
  .next (if s.store.transfer.isNone then fetchEndTest t else t)

/-- R138: the frames of the due ticket queued. -/
def queueTicket (t : Ticket) (s : State) : State :=
  let s := (ticketFrames t).foldl (fun s e => queueUp e.1 e.2 s) s
  s.onTransfer fun x => { x with lastQueued := some t.serial, waiting := true }

/-- TICKET_FRAME_QUEUE (R138, R188): no frame waits, a ticket is due, the transfer has not ended, and there is room (log 5). -/
def execTicketFrameQueue (s : State) : Result :=
  match s.store.transfer with
  | none => .next s
  | some x =>
    match s.store.due x with
    | none => .next s
    | some t =>
      .next (if x.waiting = false ∧ x.endReason = none ∧ (ticketFrames t).length ≤ s.upFree then queueTicket t s else s)

/-- FETCH_END_FRAME_QUEUED (R139): an owed end frame queued at the first free place. -/
def execFetchEndFrameQueued (s : State) : Result :=
  match s.store.transfer with
  | none => .next s
  | some x =>
    match x.endReason with
    | none => .next s
    | some reason => .next (if x.endOwed then queueFetchEnd x reason s else s)

/-- R141: Ticket Take. -/
def ticketTake (serial : Nat) (s : State) : Option (Option Answer × State) :=
  if s.store.nextSerial.isNone then refused .unseeded s
  else if s.store.fetchHigh < serial then refused .badArgument s
  else
    let kept := s.store.tickets.filter fun t => decide (serial < t.serial)
    let removed := s.store.tickets.length - kept.length
    let t := s.onStore fun t => { t with tickets := kept }
    replied (.done (byte1 removed ++ byte1 kept.length)) (if removed = 0 then t else wakeStore t)

/-- TICKET_TAKE (R141). -/
def execTicketTake (s : State) : Result :=
  .next (serve (fun r => match r with
    | .ticketTake n => ticketTake n s
    | _ => none) s)

/-! ## Notices (R156, R157, R158) -/

/-- The number a set of 10 bytes spells: source n is bit n mod 8 of byte n div 8. -/
def sourcesNat (bs : List Byte) : Nat := natOfBytes bs.reverse

/-- R156, R157: a set naming a number above 76 is refused with BadArgument. -/
def onSourcesRequest (bs : List Byte) (s : State) (f : BitVec 77 → Option (Option Answer × State)) :
    Option (Option Answer × State) :=
  if sourcesNat bs < 2 ^ 77 then f (BitVec.ofNat 77 (sourcesNat bs)) else refused .badArgument s

/-- NOTICE_ENABLE (R156). -/
def execNoticeEnable (s : State) : Result :=
  .next (serve (fun r => match r with
    | .noticeEnable bs => onSourcesRequest bs s fun v =>
        replied (.done (sourceBytes v)) (s.onNotice fun c => { c with enabled := v })
    | _ => none) s)

/-- NOTICE_CLEAR (R157). -/
def execNoticeClear (s : State) : Result :=
  .next (serve (fun r => match r with
    | .noticeClear bs => onSourcesRequest bs s fun v =>
        replied (.done (sourceBytes (s.notice.latched &&& ~~~v)))
          (s.onNotice fun c => { c with latched := c.latched &&& ~~~v, sent := c.sent &&& ~~~v })
    | _ => none) s)

/-- NOTICE_READ (R158). -/
def execNoticeRead (s : State) : Result :=
  .next (serve (fun r => match r with
    | .noticeRead =>
      replied (.done (sourceBytes s.notice.latched ++ sourceBytes s.notice.enabled ++ sourceBytes s.notice.sent ++
        fieldBool s.notice.waiting)) s
    | _ => none) s)

end Sys2Proof.Machine
end

