-- ==== Sys2Proof/Machine/Entries.lean ====
section
/-! DEFINITION. The seven tables (spec/10 10.3, 10.4): reading, plain writes, staging and commits, with the checks of the
rules that specify the entries (R18, R37, R82, R83, R108, R145, R162, R164) and their locks (R102, R162). -/

namespace Sys2Proof.Machine

/-! ## Reading bytes -/

/-- The unsigned value of `width` bytes at an offset. -/
def natAt (bs : List Byte) (offset width : Nat) : Nat := natOfBytes ((bs.drop offset).take width)

/-- The signed value of `width` bytes at an offset. -/
def intAt (bs : List Byte) (offset width : Nat) : Int := intOfBytes ((bs.drop offset).take width)

/-- Whether a number lies in a range. -/
def within (low high n : Nat) : Bool := decide (low ≤ n) && decide (n ≤ high)

/-- A yes/no byte is 0 or 1 (R187). -/
def isFlag (n : Nat) : Bool := decide (n ≤ 1)

/-- A byte naming one of two values is 1 or 2 (R187). -/
def isChoice (n : Nat) : Bool := within 1 2 n

/-! ## Entries from bytes -/

/-- R162, R187: the unit a role's unit number names; none for Other, which names no unit. -/
def unitOf (role : Role) (n : Nat) : Option (Option UnitId) :=
  match role with
  | .other => if n = 0 then some none else none
  | .beltScale | .wagonReader | .feedDrive | .distributor => (pickerOf n).map fun p => some (.picker p)
  | .burner | .fan | .airTemp | .floorMoisture | .dropScale | .dropGate => (kilnOf n).map fun k => some (.kiln k)
  | .pileFeed | .pressHydraulics | .fillScale | .baleScale | .baleMoisture => (pressOf n).map fun b => some (.press b)

/-- R18: a descriptor. One with a value no field names (a channel, mask bit or kind code beyond the listed ones) is refused
here, at the commit (log 47). -/
def parseDescriptor (bs : List Byte) : Option Descriptor :=
  let d : Descriptor :=
    { channel := natAt bs 0 1, rangeLow := intAt bs 1 4, rangeHigh := intAt bs 5 4, window := natAt bs 9 2,
      pollInterval := natAt bs 11 2,
      mask := { low := setHas (natAt bs 13 1) 0, high := setHas (natAt bs 13 1) 1, fault := setHas (natAt bs 13 1) 2,
                stale := setHas (natAt bs 13 1) 3 },
      kind := if natAt bs 14 1 = 1 then .level else .runningTotal }
  if isChannel d.channel && decide (d.rangeLow ≤ d.rangeHigh) && within 1 255 d.window && within 0 255 d.pollInterval &&
      within 0 15 (natAt bs 13 1) && isChoice (natAt bs 14 1) && bs.length == 15 then some d
  else none

/-- R19: the kind required of channel 0 of a role that a unit consumes. -/
def consumedKind : Role → Option ChannelKind
  | .beltScale => some .runningTotal
  | .dropScale => some .runningTotal
  | .fillScale => some .runningTotal
  | .wagonReader => some .level
  | .airTemp => some .level
  | .floorMoisture => some .level
  | .dropGate => some .level
  | .pressHydraulics => some .level
  | .baleScale => some .level
  | .baleMoisture => some .level
  | _ => none

/-- R18: a descriptor inserted in channel-number order. -/
def insertDescriptor (d : Descriptor) : List Descriptor → List Descriptor
  | [] => [d]
  | e :: rest => if d.channel < e.channel then d :: e :: rest else e :: insertDescriptor d rest

/-- R18: the descriptors in channel-number order. -/
def sortDescriptors (l : List Descriptor) : List Descriptor := l.foldr insertDescriptor []

/-- R18: whether two descriptors name the same channel. -/
def channelsDistinct : List Descriptor → Bool
  | [] => true
  | d :: rest => (rest.all fun e => e.channel != d.channel) && channelsDistinct rest

/-- R18: a consumed channel's kind is the one R19 requires. -/
def kindsOk (role : Role) (l : List Descriptor) : Bool :=
  match consumedKind role with
  | some kind => l.all fun d => d.channel != 0 || d.kind == kind
  | none => true

/-- R162, R18: a Station entry from its head and descriptor segments; a present byte or role code no field names is refused
here too (log 47). -/
def parseStation (head : List Byte) (segments : List (List Byte)) : Option StationEntry :=
  match roleOf (natAt head 1 1), segments.mapM parseDescriptor with
  | some role, some descriptors =>
    match unitOf role (natAt head 2 1) with
    | some unit =>
      if isFlag (natAt head 0 1) && channelsDistinct descriptors && kindsOk role descriptors && head.length == 3 then
        some { present := natAt head 0 1 == 1, role := role, unit := unit, descriptors := sortDescriptors descriptors }
      else none
    | none => none
  | _, _ => none

/-- R162: the entry would bind a second station to a role of one unit. -/
def State.bindsTwice (s : State) (address : Nat) (e : StationEntry) : Bool :=
  e.present && e.unit.isSome &&
    s.chan.stations.any fun o => o.1 != address && o.2.present && o.2.role == e.role && o.2.unit == e.unit

/-- R162: a unit at rest. -/
def State.atRest (s : State) : UnitId → Bool
  | .picker p => (s.picker p).state == .stopped
  | .kiln k => (s.kiln k).state == .awaiting || (s.kiln k).state == .idle
  | .press b => (s.press b).state == .idle

/-- R162: a unit that is a kiln in Dropping. -/
def State.isDropping (s : State) : UnitId → Bool
  | .kiln k => (s.kiln k).state == .dropping
  | _ => false

/-- R162: the lock on a Station entry. -/
def State.stationLocked (s : State) (address : Nat) (e : StationEntry) : Bool :=
  let old := s.station address
  match old.present, old.unit with
  | true, some u =>
    (!s.atRest u && !(e.present == old.present && e.role == old.role && e.unit == old.unit)) || s.isDropping u
  | _, _ => false

/-- R37: a Picker Configuration entry; a route bit of no kiln is refused here (log 47). -/
def parsePickerConfig (bs : List Byte) : Option PickerConfig :=
  let quiet := natAt bs 0 2
  let limit := natAt bs 2 2
  let route := natAt bs 4 1
  if within 2 60 quiet && within 10 600 limit && decide (quiet < limit) && within 0 63 route then
    some { quiet := quiet, limit := limit, route := BitVec.ofNat 6 route }
  else none

/-- R83: the checks on a Kiln Configuration entry. -/
def kilnConfigOk (c : KilnConfig) : Bool :=
  within 1 8 c.schedule && within 1000 50000 c.capacity && within 100 400 c.nominalYield && within 0 1000 c.moistureTarget &&
    decide (0 ≤ c.holdSetpoint) && decide (c.holdSetpoint ≤ c.maxSetpoint) && decide (c.maxSetpoint ≤ 1500) &&
    within 0 100 c.purgeFan && within 5 60 c.refresh && within 30 900 c.dropTimeout &&
    (c.awaitingLimit == 0 || within 60 7200 c.awaitingLimit) && within 2 120 c.renewalPeriod

/-- R83: a Kiln Configuration entry; a pile or band action code of none is refused here (log 47). -/
def parseKilnConfig (bs : List Byte) : Option KilnConfig :=
  match pressOf (natAt bs 1 1) with
  | none => none
  | some pile =>
    let c : KilnConfig :=
      { schedule := natAt bs 0 1, pile := pile, capacity := natAt bs 2 4, nominalYield := natAt bs 6 2,
        moistureTarget := natAt bs 8 2, holdSetpoint := intAt bs 10 2, maxSetpoint := intAt bs 12 2,
        purgeFan := natAt bs 14 1, refresh := natAt bs 15 2, dropTimeout := natAt bs 17 2, awaitingLimit := natAt bs 19 2,
        bandAction := if natAt bs 21 1 = 1 then .notice else .hold, renewalPeriod := natAt bs 22 2 }
    if kilnConfigOk c && isChoice (natAt bs 21 1) then some c else none

/-- R102: a kiln whose permit is Staged or Live. -/
def State.permitHolds (s : State) (k : KilnId) : Bool :=
  (s.kiln k).permit.state == .staged || (s.kiln k).permit.state == .live

/-- R102: a schedule named by the configuration or the cycle of a kiln whose permit is Staged or Live. -/
def State.scheduleLocked (s : State) (n : Nat) : Bool :=
  allKilns.any fun k => s.permitHolds k && ((s.kiln k).config.schedule == n || (s.kiln k).cycleSchedule == some n)

/-- R82: a stage. -/
def parseStage (bs : List Byte) : Option Stage :=
  let g : Stage :=
    { setpoint := intAt bs 0 2, fan := natAt bs 2 1, duration := natAt bs 3 2, halfWidth := natAt bs 5 2,
      grace := natAt bs 7 2, endTest := if natAt bs 9 1 = 1 then .time else .moisture }
  if decide (0 ≤ g.setpoint) && decide (g.setpoint ≤ 1500) && within 0 100 g.fan && within 60 43200 g.duration &&
      within 0 300 g.halfWidth && within 0 600 g.grace && isChoice (natAt bs 9 1) then some g
  else none

/-- Cut bytes into stages of ten bytes; `fuel` bounds their number. -/
def cutStages : Nat → List Byte → List (List Byte)
  | 0, _ => []
  | fuel + 1, bs => if bs.isEmpty then [] else bs.take 10 :: cutStages fuel (bs.drop 10)

/-- R82: a stage other than the last has the end test Time. -/
def moistureLast : List Stage → Bool
  | [] => true
  | [_] => true
  | g :: h :: rest => g.endTest == .time && moistureLast (h :: rest)

/-- R82: a schedule from its segments. -/
def parseSchedule (segments : List (List Byte)) : Option (List Stage) :=
  match (segments.flatMap (cutStages 3)).mapM parseStage with
  | some stages => if decide (stages.length ≤ 12) && moistureLast stages then some stages else none
  | none => none

/-- R108: the checks on a Press Configuration entry. -/
def pressConfigOk (c : PressConfig) : Bool :=
  within 200 10000 c.target && within 0 c.target c.minimum && within 0 2000 c.tare && within 1 30 c.quiet &&
    within 5 300 c.compressTimeout && within 5 300 c.tieTimeout && within 5 300 c.ejectTimeout && within 2 60 c.weighWindow

/-- R108: a Press Configuration entry. -/
def parsePressConfig (bs : List Byte) : Option PressConfig :=
  let c : PressConfig :=
    { target := natAt bs 0 4, minimum := natAt bs 4 4, tare := natAt bs 8 2, quiet := natAt bs 10 2,
      compressTimeout := natAt bs 12 2, tieTimeout := natAt bs 14 2, ejectTimeout := natAt bs 16 2,
      weighWindow := natAt bs 18 2 }
  if pressConfigOk c then some c else none

/-- R145: a watch entry. A flag, policy or trigger byte that codes no named value is refused here (log 47). -/
def parseWatch (bs : List Byte) : Option WatchEntry :=
  let e : WatchEntry :=
    { enabled := natAt bs 0 1 == 1, station := natAt bs 1 1, channel := natAt bs 2 1, low := intAt bs 3 4,
      high := intAt bs 7 4, negate := natAt bs 11 1 == 1, persistence := natAt bs 12 2,
      unorderedFires := natAt bs 14 1 == 1, repeats := natAt bs 15 1 == 2, clearSet := BitVec.ofNat 16 (natAt bs 16 2) }
  if isFlag (natAt bs 0 1) && isStation e.station && isChannel e.channel && isFlag (natAt bs 11 1) &&
      within 0 255 e.persistence && isChoice (natAt bs 14 1) && isChoice (natAt bs 15 1) then some e
  else none

/-- R164: the line settings entry; a broadcast code of none is refused here (log 47). -/
def parseLineSettings (bs : List Byte) : Option LineSettings :=
  if isChoice (natAt bs 0 1) && within 2 50 (natAt bs 1 2) then
    some { broadcastPass := natAt bs 0 1 == 2, replyWindow := natAt bs 1 2 }
  else none

/-! ## Write counts (R176) -/

/-- The key of an entry's write count. -/
def countKey (t : TableId) (index : Nat) : Nat := 128 * tableCode t + index

/-- An entry's write count. -/
def State.writeCount (s : State) (t : TableId) (index : Nat) : Nat := (tableGet s.agent.writeCounts (countKey t index)).getD 0

/-- R176: a write that takes effect raises the entry's write count, from 255 to 0. -/
def countWrite (t : TableId) (index : Nat) (s : State) : State :=
  s.onAgent fun a =>
    { a with writeCounts := tableSet 0 a.writeCounts (countKey t index) ((s.writeCount t index + 1) % 256) }

/-! ## Table Read (R176) -/

/-- A schedule number (R82). -/
def isSchedule (n : Nat) : Bool := within 1 8 n

/-- spec/11 11.2: a schedule cut into one segment per three stages; none is one empty segment. -/
def scheduleSegments : List Stage → List (List Byte)
  | [] => [[]]
  | [a] => [stageBytes a]
  | [a, b] => [stageBytes a ++ stageBytes b]
  | [a, b, c] => [stageBytes a ++ stageBytes b ++ stageBytes c]
  | a :: b :: c :: rest => (stageBytes a ++ stageBytes b ++ stageBytes c) :: scheduleSegments rest

/-- R176: the segments of an entry as it stands; none outside the table. -/
def State.segments (s : State) (t : TableId) (index : Nat) : Option (List (List Byte)) :=
  match t with
  | .station =>
    if isStation index then some (stationHead (s.station index) :: (s.station index).descriptors.map descriptorBytes) else none
  | .pickerConfig => (pickerOf index).map fun p => [pickerConfigBytes (s.picker p).config]
  | .kilnConfig => (kilnOf index).map fun k => [kilnConfigBytes (s.kiln k).config]
  | .schedule => if isSchedule index then some (scheduleSegments (s.schedule index)) else none
  | .pressConfig => (pressOf index).map fun b => [pressConfigBytes (s.press b).config]
  | .watch => if isWatch index then some [watchEntryBytes (s.watch index).entry] else none
  | .lineSettings => if index = 1 then some [lineSettingsBytes s.line.settings] else none

/-- R176: what a Watch entry's read carries besides. -/
def State.readTail (s : State) (t : TableId) (index : Nat) : List Byte :=
  match t with
  | .watch => watchStateBytes (s.watch index)
  | _ => []

/-- R176: Table Read. -/
def tableRead (table index segment : Nat) (s : State) : Option (Option Answer × State) :=
  match (tableOf table).bind fun t => (s.segments t index).map fun g => (t, g) with
  | none => refused .badArgument s
  | some (t, segs) =>
    match segs[segment]? with
    | none => refused .badArgument s
    | some content =>
      replied (.done (content ++ fieldBool (decide (segment + 1 = segs.length)) ++ byte1 (s.writeCount t index) ++
        s.readTail t index)) s

/-- TABLE_READ (R176). -/
def execTableRead (s : State) : Result :=
  .next (serve (fun r => match r with
    | .tableRead t i g => tableRead t i g s
    | _ => none) s)

/-! ## Staging (R178) -/

/-- R178: staging discarded, where it is open. -/
def discardStaging (s : State) : State :=
  if s.agent.staging.isSome then latch srcStagingDiscarded (s.onAgent fun a => { a with staging := none }) else s

/-- STAGING_TIMEOUT (R178): 10 s have passed since the last segment moment. -/
def execStagingTimeout (s : State) : Result :=
  match s.agent.staging with
  | none => .next s
  | some g => .next (if g.lastMoment + Config.stagingSeconds ≤ s.now then discardStaging s else s)

/-! ## Plain writes (R177) -/

/-- The outcome of a write's tests: refused, or the state with the entry replaced. -/
inductive WriteOutcome where
  | refused (r : ResultCode)
  | taken (s : State)

/-- A write taken where its entry is good. -/
def writeTaken {α : Type} (f : α → State) : Option α → WriteOutcome
  | some a => .taken (f a)
  | none => .refused .badArgument

/-- R162: a Station entry written, at a plain write or a commit. -/
def writeStation (index : Nat) (e : Option StationEntry) (s : State) : WriteOutcome :=
  match e with
  | none => .refused .badArgument
  | some e =>
    if s.bindsTwice index e then .refused .badArgument
    else if s.stationLocked index e then .refused .locked
    else .taken (commitStation index e s)

/-- R145: a watch set afresh by a write of its entry; an enabled one takes the channel's present view where a record
exists (log 32). -/
def writeWatch (n : Nat) (e : WatchEntry) (s : State) : State :=
  let s := s.putWatch n
    { entry := e, state := if e.enabled then .armed else .disabled, pendingStart := none, fireCount := 0, lastFire := none,
      lastOutcome := none }
  if e.enabled && (s.sample e.station e.channel).isSome then takeReading n (s.view e.station e.channel) s else s

/-- R83, R102: a Kiln Configuration entry written. -/
def writeKilnConfig (k : KilnId) (c : Option KilnConfig) (s : State) : WriteOutcome :=
  match c with
  | none => .refused .badArgument
  | some c => if s.permitHolds k then .refused .locked else .taken (s.onKiln k fun r => { r with config := c })

/-- A unit's entry written; another index is refused with BadArgument. -/
def writeUnit {α : Type} (f : α → WriteOutcome) : Option α → WriteOutcome
  | some u => f u
  | none => .refused .badArgument

/-- R177: the tests of a plain write in order, and the entry replaced. -/
def plainWrite (t : TableId) (index : Nat) (content : List Byte) (s : State) : WriteOutcome :=
  match t with
  | .schedule => .refused .badArgument
  | .station => if isStation index then writeStation index (parseStation content []) s else .refused .badArgument
  | .pickerConfig =>
    writeUnit (fun p => writeTaken (fun c => s.onPicker p fun r => { r with config := c }) (parsePickerConfig content))
      (pickerOf index)
  | .kilnConfig => writeUnit (fun k => writeKilnConfig k (parseKilnConfig content) s) (kilnOf index)
  | .pressConfig =>
    writeUnit (fun b => writeTaken (fun c => s.onPress b fun r => { r with config := c }) (parsePressConfig content))
      (pressOf index)
  | .watch =>
    if isWatch index then writeTaken (fun e => writeWatch index e s) (parseWatch content) else .refused .badArgument
  | .lineSettings =>
    if index = 1 then writeTaken (fun c => s.onLine fun l => { l with settings := c }) (parseLineSettings content)
    else .refused .badArgument

/-- R177: a plain Table Write; open staging is discarded first. -/
def tableWritePlain (table index : Nat) (content : List Byte) (s : State) : Option (Option Answer × State) :=
  let s := discardStaging s
  match tableOf table with
  | none => refused .badArgument s
  | some t =>
    match plainWrite t index content s with
    | .refused r => refused r s
    | .taken s' => replied (.done []) (countWrite t index s')

/-- TABLE_WRITE_PLAIN (R177). -/
def execTableWritePlain (s : State) : Result :=
  .next (serve (fun r => match r with
    | .tableWritePlain t i c => tableWritePlain t i c s
    | _ => none) s)

/-! ## Staged writes (R178, R179) -/

/-- R82, R102: a schedule committed. -/
def writeSchedule (n : Nat) (g : Option (List Stage)) (s : State) : WriteOutcome :=
  match g with
  | none => .refused .badArgument
  | some g =>
    if s.scheduleLocked n then .refused .locked else .taken (s.withSchedules (tableSet [] s.schedules n g))

/-- R179: the gathered content tested and, where it is good, made the live entry. -/
def commitWrite (t : TableId) (index : Nat) (content : List (List Byte)) (s : State) : WriteOutcome :=
  match t with
  | .station => writeStation index (parseStation (content.headD []) (content.drop 1)) s
  | _ => writeSchedule index (parseSchedule content) s

/-- R178: the largest number of segments an entry has. -/
def segmentsTop : TableId → Nat
  | .station => 5
  | _ => 4

/-- R178: the tables written in segments. -/
def stagedTable (table index : Nat) : Option TableId :=
  match tableOf table with
  | some .station => if isStation index then some .station else none
  | some .schedule => if isSchedule index then some .schedule else none
  | _ => none

/-- R179: the commit at the last segment; a refusal is a discard. -/
def commitStaged (g : Staging) (s : State) : Option (Option Answer × State) :=
  let s := s.onAgent fun a => { a with staging := some g }
  match commitWrite g.table g.index g.content s with
  | .refused r => refused r (discardStaging s)
  | .taken t => replied (.done []) ((countWrite g.table g.index t).onAgent fun a => { a with staging := none })

/-- R178, cases 2 and 3: an accepted segment appended to the content gathered so far. -/
def takeSegment (t : TableId) (index segment : Nat) (last : Bool) (content : List (List Byte)) (s : State) :
    Option (Option Answer × State) :=
  let g : Staging := { table := t, index := index, next := segment + 1, lastMoment := s.now, content := content }
  if segmentsTop t < content.length then refused .badArgument (discardStaging s)
  else if last then commitStaged g s
  else replied { result := .staged, fields := byte1 g.next } (s.onAgent fun a => { a with staging := some g })

/-- R178: a staged Table Write, by the first case that applies. -/
def tableWriteStaged (table index segment : Nat) (last : Bool) (bs : List Byte) (s : State) :
    Option (Option Answer × State) :=
  match stagedTable table index with
  | none => refused .badArgument s
  | some t =>
    if 15 < segment then refused .badArgument s
    else
      match s.agent.staging with
      | some g =>
        if g.table = t ∧ g.index = index ∧ g.next = segment then takeSegment t index segment last (g.content ++ [bs]) s
        else refused .discarded (discardStaging s)
      | none => if segment = 0 then takeSegment t index 0 last [bs] s else refused .discarded s

/-- TABLE_WRITE_STAGED (R178). -/
def execTableWriteStaged (s : State) : Result :=
  .next (serve (fun r => match r with
    | .tableWriteStaged t i g l c => tableWriteStaged t i g l c s
    | _ => none) s)

end Sys2Proof.Machine
end

