-- ==== Sys2Proof/Machine/Resets.lean ====
section
/-! DEFINITION. Power-on, the Yard Reset input and the Line Reset request, with the orders the units restore
(R17, R35, R60, R61, R81, R104, R105, R126, R127, R140, R144, R150, R158, R172, R173, R183). -/

namespace Sys2Proof.Machine

/-- POWER_ON (R173 and the power-on rule of every chapter; log 15). A frame that is being transmitted completes (R159,
log 10), so the port goes on sending it. -/
def execPowerOn (s : State) : Result :=
  .next ((State.reset.withPending s.pending).onLine fun l => { l with fSending := s.line.fSending, uTaken := s.line.uTaken })

/-- The order the units are taken in: the operand where it names every unit once, else that of spec/00 (log 6). -/
def unitOrder (order : List UnitId) : List UnitId := if isUnitOrder order then order else allUnits

/-! ## Yard Reset -/

/-- R60: a picker at the Yard Reset input. -/
def yardPicker (p : PickerId) (s : State) : State :=
  match (s.picker p).state with
  | .stopped => s
  | .clearing => enterStopped p ((finishClearance p s).onPicker p fun r => { r with stopAfter := false })
  | _ => enterStopped p (dropOpeningReasons p s)

/-- R49, R104: a kiln's offers taken within the Yard Reset, by the pickers not yet Stopped (log 31). -/
def takeOffers (k : KilnId) : Nat → State → State
  | 0, s => s
  | fuel + 1, s =>
    match s.offerNext k with
    | some p => takeOffers k fuel (takeOffer p k s)
    | none => s

/-- R104: a kiln whose cycle is lost goes to Ready, Awaiting or Idle. -/
def loseCycle (k : KilnId) (s : State) : State :=
  let s := clearExcursion k (clearCycle k s)
  match (s.kiln k).ring.upper with
  | .loaded _ => enterReady k s
  | _ => enterAwaitingOrIdle k s

/-- R81, R104: a kiln at the Yard Reset input, its permit already Off. -/
def yardKiln (k : KilnId) (s : State) : State :=
  match (s.kiln k).state with
  | .dropping => takeOffers k 3 (completeDrop k (interruptDrop k s))
  | .idle => s
  | .awaiting => s
  | .loading => s
  | .ready => s
  | _ => takeOffers k 3 (loseCycle k s)

/-- R126: a Reweigh in progress ends without a weight. A picker or press its returned reservation wakes (R144) is marked and
does not ask within the reset (log 53). -/
def yardReweigh (b : PressId) (s : State) : State :=
  match (s.press b).slot with
  | some w =>
    match w.purpose with
    | .reweigh => afterReweigh b (endReweighUnweighed b s)
    | .bale => s
  | none => s

/-- R126: a fill paused. -/
def yardFill (b : PressId) (s : State) : State :=
  if ((s.press b).bale.bind Bale.endReason).isSome then
    pausePress b .compress (s.onPress b fun r => { r with coastStart := none })
  else pausePress b .fill (if (s.press b).feedRun then giveStop b s else s)

/-- R126: a press at the Yard Reset input. -/
def yardPress (b : PressId) (s : State) : State :=
  let s := yardReweigh b (s.onPress b fun r => { r with auto := false })
  let s := s.onPress b fun r => { r with reservationWait := false, fillDue := false }
  match (s.press b).state with
  | .filling => yardFill b s
  | .starved => yardFill b s
  | .compressing => faultPress b .yardReset s
  | .tying => faultPress b .yardReset s
  | .ejecting => faultPress b .yardReset s
  | .weighing => (faultPress b .yardReset s).onPress b fun r => { r with slot := none }
  | _ => s

/-- A unit's turn at the Yard Reset input. -/
def yardUnit (s : State) : UnitId → State
  | .picker p => yardPicker p s
  | .kiln k => yardKiln k s
  | .press b => yardPress b s

/-- R104: every permit goes to Off. -/
def permitsOff (s : State) : State := allKilns.foldl (fun s k => s.onPermit k fun _ => .reset) s

/-- YARD_RESET (R104): the permits, and then each unit in the given order (log 6). -/
def execYardReset (order : List UnitId) (s : State) : Result :=
  .next ((unitOrder order).foldl yardUnit (permitsOff s))

/-! ## Line Reset -/

/-- R183, step 2: the frames removed from each queue and the Requests discarded. -/
def removedCounts (s : State) : List Byte := queueCounts s.line ++ byte1 (s.agent.requests.length - 1)

/-- R172: the Line Interface emptied. -/
def emptyLine (l : Line) : Line :=
  { l with
    forwardUp := []
    forwardDown := []
    ownUp := []
    ownDown := []
    overflow := []
    runUp := 0
    runDown := 0
    poll := none
    counters := .reset }

/-- R158: the Notice Latch at a Line Reset. -/
def emptyNotice (c : NoticeLatch) : NoticeLatch := { c with latched := 0, sent := 0, waiting := false }

/-- R35: each self-poll timer started again. -/
def restartAllTimers (s : State) : State :=
  s.chan.samples.foldl (fun s e => restartPollTimer (e.1 / 4) (e.1 % 4) s) s

/-- R140: an end frame already queued, in the form of reason Reset. -/
def resetEndFrame (f : Frame) : Frame :=
  { f with payload := f.payload.take 2 ++ [fetchEndCode .reset] ++ f.payload.drop 3 }

/-- R140: the end frames a Line Reset removed, queued anew behind its Reply; of eight the last finds no place and is lost
(log 31, log 46). -/
def requeueEnds (removed : List OwnUp) (s : State) : State :=
  removed.foldl (fun s e => if e.origin = .fetchEnd then queueUp (resetEndFrame e.frame) .fetchEnd s else s) s

/-- R140: a transfer in progress ends with reason Reset. -/
def resetTransfer (s : State) : State :=
  match s.store.transfer with
  | some x => queueFetchEnd x .reset s
  | none => s

/-- R105: the owed marks of every kiln become no at the emptying; R81: gate close owed too. -/
def clearOwed (s : State) : State :=
  allKilns.foldl (fun s k => s.onKiln k fun r =>
    { r with burnerOwed := false, fanOwed := false, ring := { r.ring with gateCloseOwed := false } }) s

/-- R61: the Distributor command of a picker's loading charge, owed where no place is free (log 24). It is owed also while no
Distributor is bound, and at the free place goes to the one bound then, or to none (DESIGN CHOICE, log 58). -/
def redistribute (p : PickerId) (s : State) : State :=
  match s.loadingCharge p with
  | none => s.onPicker p fun r => { r with distributorOwed := false }
  | some (_, c) =>
    if s.downFree then queueDistributor p c.kiln (s.onPicker p fun r => { r with distributorOwed := false })
    else s.onPicker p fun r => { r with distributorOwed := true }

/-- R61: what a picker queues again, its Distributor command before its feed stop (log 51). -/
def restorePicker (p : PickerId) (s : State) : State :=
  let s := redistribute p s
  if (s.picker p).state = .running then s else feedStop p s

/-- R81: a kiln's gate order: Open while a drop is in progress, Close otherwise; owed where no place is free (log 24). Where no
DropGate is bound when a place becomes free, the mark is dropped and nothing is queued (DESIGN CHOICE, log 58). -/
def regate (k : KilnId) (s : State) : State :=
  match s.bound .dropGate (.kiln k) with
  | none => s.onRing k fun r => { r with gateRestore := false }
  | some _ =>
    if s.downFree then
      queueGate k (if (s.kiln k).ring.drop.isSome then 1 else 0) (s.onRing k fun r => { r with gateRestore := false })
    else s.onRing k fun r => { r with gateRestore := true }

/-- R105: a Tripped kiln, or one in Dropping with its permit Tripped. -/
def Kiln.purged (r : Kiln) : Bool := r.state == .tripped || (r.state == .dropping && r.permit.state == .tripped)

/-- R81, R105: what a kiln queues again, its gate order first (log 42). -/
def restoreKiln (k : KilnId) (s : State) : State :=
  let s := regate k s
  if (s.kiln k).purged then purgeFrames k s else inject k s

/-- R127: what a press queues again, its PileFeed command before its phase order (log 51). -/
def restorePress (b : PressId) (s : State) : State :=
  let s :=
    if (s.press b).feedRun then giveRun b s
    else if (s.press b).bale.isSome then safetyCommand .pileFeed (.press b) 0 s
    else s
  match phaseOf (s.press b).state with
  | some ph => sendPhase b ph s
  | none => if (s.press b).state = .faulted then safetyCommand .pressHydraulics (.press b) 0 s else s

/-- A unit's turn to queue its orders again. -/
def restoreUnit (s : State) : UnitId → State
  | .picker p => restorePicker p s
  | .kiln k => restoreKiln k s
  | .press b => restorePress b s

/-- R183: the parts of the block emptied, with the Line Reset's Reply as the first frame of the Own queue up. -/
def lineResetCore (f : Frame) (s : State) : State :=
  let removed := removedCounts s
  let ends := s.line.ownUp
  let s := (s.onAgent fun a => { a with requests := [], staging := none }).onLine emptyLine
  let s := queueUp (replyFrame f (.done removed)) .reply s
  let s := (s.onNotice emptyNotice).onChan fun c => { c with exceptions := [], overflowed := false }
  clearOwed (resetTransfer (requeueEnds ends (restartAllTimers s)))

/-- LINE_RESET (R183): executed at the head whether or not the Own queue up has a free place; the units queue their orders
again in the given order (log 6). -/
def execLineReset (order : List UnitId) (s : State) : Result :=
  match s.agent.requests with
  | [] => .next s
  | f :: _ =>
    .next (if s.requestOf f = some .lineReset then (unitOrder order).foldl restoreUnit (lineResetCore f s) else s)

/-- LINE_RESET_RESTORE_QUEUED (R172): an order still owed after a Line Reset queued at the first free place. A press has none:
its Run and phase order are owed by R112 and R118 and queued by those rules' commands (log 24). -/
def execLineResetRestoreQueued (u : UnitId) (s : State) : Result :=
  match u with
  | .picker p => .next (if (s.picker p).distributorOwed && s.downFree then redistribute p s else s)
  | .kiln k => .next (if (s.kiln k).ring.gateRestore && s.downFree then regate k s else s)
  | .press _ => .next s

end Sys2Proof.Machine
end

