-- ==== Sys2Proof/Machine/Clock.lean ====
section
/-! DEFINITION. The elapsed second (spec/00 Time, R89, R180): what the block does when no command waits (log 2). -/

namespace Sys2Proof.Machine

/-- R89: one second of a kiln's stage clock, which holds at the stage's duration until its end is taken (log 2). -/
def tickKiln (r : Kiln) : Kiln :=
  if r.clockRuns then
    match r.copy with
    | some c => { r with stageElapsed := if r.stageElapsed < c.stage.duration then r.stageElapsed + 1 else r.stageElapsed }
    | none => r
  else r

/-- R180: one second of the elapsed count and the yard clock, which passes from 4,294,967,295 to 0. -/
def tickClock (c : Clock) : Clock := { c with elapsed := c.elapsed + 1, yard := (c.yard + 1) % Config.serialEnd }

/-- One elapsed second. -/
def tick (s : State) : State :=
  (s.onClock tickClock).onKilns fun t =>
    { k1 := tickKiln t.k1, k2 := tickKiln t.k2, k3 := tickKiln t.k3, k4 := tickKiln t.k4, k5 := tickKiln t.k5,
      k6 := tickKiln t.k6 }

end Sys2Proof.Machine
end

