-- ==== Sys2Proof/Machine/Dispatch.lean ====
section
/-! DEFINITION. exec: one arm per command. -/

namespace Sys2Proof.Machine

def exec (i : Instr) (s : State) : Host.Outcome State Fault Refusal :=
  match i with
  | .powerOn => Sys2Proof.Machine.execPowerOn s
  | .yardReset order => Sys2Proof.Machine.execYardReset order s
  | .uPortFrameReceived chars => Sys2Proof.Machine.execUPortFrameReceived chars s
  | .fPortFrameReceived chars => Sys2Proof.Machine.execFPortFrameReceived chars s
  | .staleExpiry station channel => Sys2Proof.Machine.execStaleExpiry station channel s
  | .selfPollDue station channel => Sys2Proof.Machine.execSelfPollDue station channel s
  | .fPortTransmit => Sys2Proof.Machine.execFPortTransmit s
  | .pollWindowOpen => Sys2Proof.Machine.execPollWindowOpen s
  | .noReplyPoll => Sys2Proof.Machine.execNoReplyPoll s
  | .uPortTransmit => Sys2Proof.Machine.execUPortTransmit s
  | .requestBadForm => Sys2Proof.Machine.execRequestBadForm s
  | .tableRead => Sys2Proof.Machine.execTableRead s
  | .tableWritePlain => Sys2Proof.Machine.execTableWritePlain s
  | .tableWriteStaged => Sys2Proof.Machine.execTableWriteStaged s
  | .stagingTimeout => Sys2Proof.Machine.execStagingTimeout s
  | .lineStatus => Sys2Proof.Machine.execLineStatus s
  | .lineReset order => Sys2Proof.Machine.execLineReset order s
  | .identify => Sys2Proof.Machine.execIdentify s
  | .clockSet => Sys2Proof.Machine.execClockSet s
  | .lotDeclare => Sys2Proof.Machine.execLotDeclare s
  | .lotClose => Sys2Proof.Machine.execLotClose s
  | .lotRemove => Sys2Proof.Machine.execLotRemove s
  | .lotQuery => Sys2Proof.Machine.execLotQuery s
  | .sampleQuery => Sys2Proof.Machine.execSampleQuery s
  | .exceptionRead => Sys2Proof.Machine.execExceptionRead s
  | .clearanceQuietEnd picker => Sys2Proof.Machine.execClearanceQuietEnd picker s
  | .clearanceLimit picker => Sys2Proof.Machine.execClearanceLimit picker s
  | .openingAttempt picker offer => Sys2Proof.Machine.execOpeningAttempt picker offer s
  | .openingRetry picker => Sys2Proof.Machine.execOpeningRetry picker s
  | .pickerStart => Sys2Proof.Machine.execPickerStart s
  | .pickerStop => Sys2Proof.Machine.execPickerStop s
  | .pickerHold => Sys2Proof.Machine.execPickerHold s
  | .pickerRelease => Sys2Proof.Machine.execPickerRelease s
  | .chargeClose => Sys2Proof.Machine.execChargeClose s
  | .pickerAssign => Sys2Proof.Machine.execPickerAssign s
  | .pickerQuery => Sys2Proof.Machine.execPickerQuery s
  | .floorQuery => Sys2Proof.Machine.execFloorQuery s
  | .chargeQuery => Sys2Proof.Machine.execChargeQuery s
  | .dropStartRetry kiln => Sys2Proof.Machine.execDropStartRetry kiln s
  | .pilefullRetry kiln => Sys2Proof.Machine.execPilefullRetry kiln s
  | .dropTimeout kiln => Sys2Proof.Machine.execDropTimeout kiln s
  | .gateCloseOwedQueued kiln => Sys2Proof.Machine.execGateCloseOwedQueued kiln s
  | .awaitingOverdue kiln => Sys2Proof.Machine.execAwaitingOverdue kiln s
  | .stageEnd kiln => Sys2Proof.Machine.execStageEnd kiln s
  | .timedDryEnd kiln => Sys2Proof.Machine.execTimedDryEnd kiln s
  | .injectionRefresh kiln => Sys2Proof.Machine.execInjectionRefresh kiln s
  | .injectionOwedQueued kiln target => Sys2Proof.Machine.execInjectionOwedQueued kiln target s
  | .bandExcursionDecided kiln => Sys2Proof.Machine.execBandExcursionDecided kiln s
  | .cycleNow => Sys2Proof.Machine.execCycleNow s
  | .kilnRelease => Sys2Proof.Machine.execKilnRelease s
  | .kilnMode => Sys2Proof.Machine.execKilnMode s
  | .cycleResume => Sys2Proof.Machine.execCycleResume s
  | .kilnQuery => Sys2Proof.Machine.execKilnQuery s
  | .permitStage => Sys2Proof.Machine.execPermitStage s
  | .permitRenewOdd => Sys2Proof.Machine.execPermitRenewOdd s
  | .permitRenewEven => Sys2Proof.Machine.execPermitRenewEven s
  | .permitConfirm => Sys2Proof.Machine.execPermitConfirm s
  | .permitWithdraw => Sys2Proof.Machine.execPermitWithdraw s
  | .permitTimerExpiry kiln => Sys2Proof.Machine.execPermitTimerExpiry kiln s
  | .fillStart press => Sys2Proof.Machine.execFillStart press s
  | .pileFeedRunOwedQueued press => Sys2Proof.Machine.execPileFeedRunOwedQueued press s
  | .coastEnd press => Sys2Proof.Machine.execCoastEnd press s
  | .phaseOrderOwedQueued press => Sys2Proof.Machine.execPhaseOrderOwedQueued press s
  | .phaseTimeout press => Sys2Proof.Machine.execPhaseTimeout press s
  | .weighWindowEnd press => Sys2Proof.Machine.execWeighWindowEnd press s
  | .pressNow => Sys2Proof.Machine.execPressNow s
  | .pressClear => Sys2Proof.Machine.execPressClear s
  | .pressAuto => Sys2Proof.Machine.execPressAuto s
  | .pressReweigh => Sys2Proof.Machine.execPressReweigh s
  | .reweighReplyQueued press => Sys2Proof.Machine.execReweighReplyQueued press s
  | .pressQuery => Sys2Proof.Machine.execPressQuery s
  | .ticketBase => Sys2Proof.Machine.execTicketBase s
  | .ticketFetch => Sys2Proof.Machine.execTicketFetch s
  | .ticketFrameQueue => Sys2Proof.Machine.execTicketFrameQueue s
  | .fetchEndFrameQueued => Sys2Proof.Machine.execFetchEndFrameQueued s
  | .ticketTake => Sys2Proof.Machine.execTicketTake s
  | .ticketStatus => Sys2Proof.Machine.execTicketStatus s
  | .watchPersistenceEnd watch => Sys2Proof.Machine.execWatchPersistenceEnd watch s
  | .noticeFrameQueue => Sys2Proof.Machine.execNoticeFrameQueue s
  | .noticeEnable => Sys2Proof.Machine.execNoticeEnable s
  | .noticeClear => Sys2Proof.Machine.execNoticeClear s
  | .noticeRead => Sys2Proof.Machine.execNoticeRead s
  | .lineResetRestoreQueued unit => Sys2Proof.Machine.execLineResetRestoreQueued unit s
  | .fPortTransmissionEnd => Sys2Proof.Machine.execFPortTransmissionEnd s

end Sys2Proof.Machine
end

