-- ==== Sys2Proof/Safety.lean ====
section
/-! DEFINITION. The terms the statements are made in: a command that completes, a Request that is served and its Reply, an
order that waits for the field, and the properties every step keeps. -/

namespace Sys2Proof.Machine

/-- A command completes: it answers a next state. No rule of the spec stops the part (log 33). -/
def Completes (r : Result) : Prop := ∃ t, r = .next t

/-! ## Requests -/

/-- R174: the frame `f` heads the request queue, a place for its Reply is free, and it spells the request `r` in good form. -/
def State.serves (s : State) (f : Frame) (r : Request) : Prop :=
  s.agent.requests.head? = some f ∧ s.upFree ≠ 0 ∧ s.requestOf f = some r

/-- R174, steps 3 and 4: the Reply to `f` joins the tail of the Own queue up and the Request leaves the request queue;
nothing else changes. -/
def State.reply (s : State) (f : Frame) (a : Answer) : State :=
  { s with
    agent := { s.agent with requests := s.agent.requests.drop 1 }
    line := { s.line with ownUp := s.line.ownUp ++ [{ frame := replyFrame f a, origin := .reply }] } }

/-- The Own queue up and the request queue as an answer to `f` leaves them. -/
def State.answeredAs (s t : State) (f : Frame) (a : Answer) : Prop :=
  t.line.ownUp = s.line.ownUp ++ [{ frame := replyFrame f a, origin := .reply }] ∧
    t.agent.requests = s.agent.requests.drop 1

/-! ## Orders to the field -/

/-- A safety frame with a value waits for channel 0 of a station, in the Own queue down or the safety overflow list (R161). -/
def State.safetyWaits (s : State) (station : Nat) (v : Int) : Prop :=
  ∃ e ∈ s.line.ownDown ++ s.line.overflow,
    e.safety = true ∧ e.frame.dest = station ∧ e.frame.channel = 0 ∧ commandValue e.frame = v

/-- R40: where a FeedDrive is bound to the picker, a feed stop waits for it. -/
def State.feedStopWaits (s t : State) (p : PickerId) : Prop :=
  ∀ st, s.bound .feedDrive (.picker p) = some st → t.safetyWaits st 0

/-- A notice source is latched (R153). -/
def State.latchedNow (s : State) (n : Nat) : Prop := s.notice.latched.getLsbD n = true

/-- A ticket with the next serial and a body has been issued between two states (R135). -/
def State.issued (s t : State) (lot grower : Nat) (body : TicketBody) : Prop :=
  ∃ n, s.store.nextSerial = some n ∧
    ({ serial := n, stamp := s.clock.yard, clockSet := s.clock.yardSet, lot := lot, grower := grower, body := body } : Ticket)
      ∈ t.store.tickets

/-! ## Ports and notices -/

/-- R171: a line counter one higher, holding at 4,294,967,295. -/
def saturate (n : Nat) : Nat := min (n + 1) 4294967295

/-- The state with its line counters changed, and nothing else. -/
def State.counts (s : State) (f : Counters → Counters) : State := { s with line := { s.line with counters := f s.line.counters } }

/-- R154: what a latch claim on source `n` makes of the Notice Latch. -/
def NoticeLatch.claimed (c d : NoticeLatch) (n : Nat) : Prop :=
  d.latched.getLsbD n = true ∧ (c.latched.getLsbD n = true → d = c) ∧
    (c.latched.getLsbD n = false → d.sent.getLsbD n = false) ∧ d.enabled = c.enabled ∧ d.waiting = c.waiting ∧
    ∀ m, m ≠ n → d.latched.getLsbD m = c.latched.getLsbD m ∧ d.sent.getLsbD m = c.sent.getLsbD m

/-- R159, R171: a discarded frame is counted as a check failure and latches LineErrors. -/
def State.checkFailed (s t : State) : Prop :=
  s.notice.claimed t.notice 1 ∧
    t = { s.counts fun c => { c with checkFailures := saturate c.checkFailures } with notice := t.notice }

/-- R160, R171: a drop at a full Forward queue is counted and latches LineErrors. -/
def State.forwardDropped (s t : State) : Prop :=
  s.notice.claimed t.notice 1 ∧
    t = { s.counts fun c => { c with forwardDrops := saturate c.forwardDrops } with notice := t.notice }

/-- R160: a frame joins the tail of the Forward queue down with its class, or is dropped at a full queue. -/
def State.forwardedDown (s t : State) (f : Frame) (c : Option StationClass) : Prop :=
  (s.line.forwardDown.length < 16 →
      t = { s with line := { s.line with forwardDown := s.line.forwardDown ++ [{ frame := f, cls := c }] } }) ∧
    (16 ≤ s.line.forwardDown.length → s.forwardDropped t)

/-- R160: a frame joins the tail of the Forward queue up, or is dropped at a full queue. -/
def State.forwardedUp (s t : State) (f : Frame) : Prop :=
  (s.line.forwardUp.length < 32 → t = { s with line := { s.line with forwardUp := s.line.forwardUp ++ [f] } }) ∧
    (32 ≤ s.line.forwardUp.length → s.forwardDropped t)

/-- R30: a raise of a class enters the channel exception list and latches ChannelException. -/
def State.raises (s t : State) (station channel : Nat) (cls : SampleClass) : Prop :=
  t.latchedNow 0 ∧
    if ∃ e ∈ s.chan.exceptions, e.station = station ∧ e.channel = channel then
      t.chan.overflowed = s.chan.overflowed ∧
      t.chan.exceptions = s.chan.exceptions.map fun e =>
        if e.station = station ∧ e.channel = channel then { e with latest := cls, count := min (e.count + 1) 255 } else e
    else if s.chan.exceptions.length < 16 then
      t.chan.overflowed = s.chan.overflowed ∧
      t.chan.exceptions = s.chan.exceptions ++
        [{ station := station, channel := channel, first := cls, latest := cls, count := 1 }]
    else t.chan.overflowed = true ∧ t.chan.exceptions = s.chan.exceptions

/-- R30: the exception list after a Report or expiry that leaves a channel in a class. -/
def State.raisesIfNew (s t : State) (station channel : Nat) (mask : MaskSet) (before after : SampleClass) : Prop :=
  if isRaised after = true ∧ inMask mask after = false ∧ before ≠ after then s.raises t station channel after
  else t.chan.exceptions = s.chan.exceptions ∧ t.chan.overflowed = s.chan.overflowed

/-! ## Openings -/

/-- R48, steps 1, 2, 3 and 5: a place in the Own queue down, a reservation and a charge record are free, and the picker's
current lot is usable. -/
def State.mayOpen (s : State) (p : PickerId) (lot : Nat) : Prop :=
  (s.picker p).currentLot = some lot ∧ s.line.ownDown.length < 6 ∧ s.store.grants = true ∧ s.pool.records.length < 40 ∧
    s.lotUsable lot = true

/-- R48, step 6, R8, R63, R85: what a completed opening leaves at the picker, the charge, the kiln, the lot, the store and the
Distributor. -/
def State.openedAs (s t : State) (p : PickerId) (k : KilnId) (lot : Nat) : Prop :=
  (t.picker p).state = .running ∧ (t.picker p).loading = some s.chargeNumber ∧ (t.picker p).reasons.noFloor = false ∧
    (t.picker p).reasons.noTicketSlot = false ∧ (t.picker p).waitStart = none ∧
    t.charge s.chargeNumber = some
      { lot := lot, picker := p, kiln := k, state := .loading, green := 0, reason := none, cycles := 0, pile := none,
        dried := none, source := none, drawn := none, substituted := false, timedOut := false, timedDry := false,
        interrupted := false } ∧
    t.pool.next = nextNumber s.chargeNumber ∧ (t.kiln k).ring.upper = .loading s.chargeNumber ∧
    (t.kiln k).state = .loading ∧ t.store = { s.store with chargeRes := s.store.chargeRes + 1 } ∧
    t.lot lot = (s.lot lot).map (fun l => { l with opened := l.opened + 1, live := l.live + 1, state := .active }) ∧
    ∀ st, s.bound .distributor (.picker p) = some st →
      ∃ e ∈ t.line.ownDown, e.frame = ownCommand st (kilnIndex k + 1)

/-! ## Stage entries -/

/-- R86, step 4: the state a kiln holds in a stage: Hold where HoldOff is clear; else Finishing in a last stage whose end test is
Moisture, and Cycling in any other. -/
def stageState (holdOff last : Bool) (x : Stage) : KilnState :=
  if holdOff = false then .hold else if last = true ∧ x.endTest = .moisture then .finishing else .cycling

/-- R86, R90: the entry to stage `n` of schedule `g` completes no cycle at once: the stage is not a Finishing one, or the lower slot
is not Empty. -/
def State.stageStays (s : State) (k : KilnId) (g n : Nat) (x : Stage) : Prop :=
  stageState (s.kiln k).holdOff (decide (n = (s.schedule g).length)) x ≠ .finishing ∨ (s.kiln k).ring.lower ≠ .empty

/-- R86: the kiln stands in stage `n` of schedule `g`, entered with stage elapsed `elapsed`. -/
def State.inStage (s t : State) (k : KilnId) (g n elapsed : Nat) (x : Stage) : Prop :=
  (t.kiln k).stage = some n ∧ (t.kiln k).stageElapsed = elapsed ∧ (t.kiln k).cycleSchedule = some g ∧
    (t.kiln k).copy = some { stage := x, last := decide (n = (s.schedule g).length) } ∧
    (t.kiln k).excursionStart = none ∧ (t.kiln k).bandLatched = false ∧ (t.kiln k).holdOff = (s.kiln k).holdOff ∧
    (t.kiln k).state = stageState (s.kiln k).holdOff (decide (n = (s.schedule g).length)) x

/-! ## Frames taken to the field -/

/-- R168: the frame the F-port transmitter takes from the down queues, with its class from arrival; a frame of the part has
none. -/
def State.takesDown (s : State) (f : Frame) (c : Option StationClass) : Prop :=
  (∃ e, s.line.ownDown.find? OwnDown.safety = some e ∧ f = e.frame ∧ c = none) ∨
  (s.line.ownDown.find? OwnDown.safety = none ∧
    ((∃ e rest, s.line.ownDown = e :: rest ∧ (s.line.forwardDown = [] ∨ s.line.runDown ≠ 3) ∧ f = e.frame ∧ c = none) ∨
     (∃ e rest, s.line.forwardDown = e :: rest ∧ (s.line.ownDown = [] ∨ s.line.runDown = 3) ∧ f = e.frame ∧ c = e.cls)))

/-- R166, R167: a Command of a class is gated for a unit in a role, by its destination's binding now or by its class. -/
def State.gatedFor (s : State) (f : Frame) (c : Option StationClass) (role : Role) (unit : UnitId) : Prop :=
  f.kind = .command ∧ (((s.station f.dest).present = true ∧ (s.station f.dest).role = role ∧
    (s.station f.dest).unit = some unit) ∨ c = some { role := role, unit := some unit })

/-! ## Presses that resume -/

/-- R118: a phase is ordered: its start, its timeout and its order, queued or owed. -/
def State.phaseOrdered (s t : State) (b : PressId) (st : PressState) (limit : Nat) (code : Int) : Prop :=
  (t.press b).state = st ∧ (t.press b).phaseStart = some s.now ∧ (t.press b).phaseTimeout = limit ∧
    (t.press b).bale = (s.press b).bale ∧
    ∀ a, s.bound .pressHydraulics (.press b) = some a →
      (s.line.ownDown.length < 6 → (t.press b).phaseOwed = false ∧
        t.line.ownDown = s.line.ownDown ++ [{ frame := ownCommand a code, safety := false, injected := false }]) ∧
      (6 ≤ s.line.ownDown.length → (t.press b).phaseOwed = true ∧ t.line.ownDown = s.line.ownDown)

/-- R123, R112: the fill of a press runs on with the given bale and a Run order, queued or owed. -/
def State.fillRunsOn (s t : State) (b : PressId) (x : Bale) : Prop :=
  (t.press b).state = .filling ∧ (t.press b).feedRun = true ∧ (t.press b).bale = some x ∧
    ∀ a, s.bound .pileFeed (.press b) = some a →
      (s.line.ownDown.length < 6 → (t.press b).runOwed = false ∧
        t.line.ownDown = s.line.ownDown ++ [{ frame := ownCommand a 1, safety := false, injected := false }]) ∧
      (6 ≤ s.line.ownDown.length → (t.press b).runOwed = true ∧ t.line.ownDown = s.line.ownDown)

/-- R115: a fill ends for a reason, or its bale is withdrawn where nothing was booked. -/
def State.fillEnded (s t : State) (b : PressId) (x : Bale) (reason : FillEnd) : Prop :=
  (t.press b).feedRun = false ∧
    (x.fill ≠ 0 → (t.press b).bale = some { x with endReason := some reason } ∧ (t.press b).state = .filling ∧
      (t.press b).coastStart = some s.now ∧ (t.press b).coastQuiet = (s.press b).config.quiet) ∧
    (x.fill = 0 → (t.press b).bale = none ∧ (t.press b).state = .idle)

/-- R123, R114: a Paused press resumes its fill: on with its head, or by the first case of R114 that holds. -/
def State.fillResumed (s t : State) (b : PressId) : Prop :=
  ∀ x pre e, (s.press b).bale = some x → x.contents = pre ++ [e] →
    (t.press b).entries = (s.press b).entries ∧
    ((s.press b).entries.head? = some e.charge → s.fillRunsOn t b x) ∧
    ((s.press b).entries.head? ≠ some e.charge →
      (3 ≤ pre.length → s.fillEnded t b x .contentLimit) ∧
      (∀ n r rest, pre.length < 3 → (s.press b).entries = n :: rest → s.charge n = some r →
        (r.lot = x.lot → s.fillRunsOn t b { x with
          contents := x.contents ++ [{ charge := n, drawn := 0 }], estimated := x.estimated || r.source == some .estimated }) ∧
        (r.lot ≠ x.lot → s.fillEnded t b x .lotBreak)) ∧
      (∀ l, pre.length < 3 → (s.press b).entries = [] → s.lot x.lot = some l → l.state = .closing →
        (∀ q ∈ s.pool.records, q.2.lot = x.lot → q.2.state = .piled) → s.fillEnded t b x .lotEnd) ∧
      (pre.length < 3 → (s.press b).entries = [] → (s.lot x.lot).map Lot.state ≠ some .closing ∨
          (∃ q ∈ s.pool.records, q.2.lot = x.lot ∧ q.2.state ≠ .piled) →
        (t.press b).state = .starved ∧ (t.press b).bale = some x ∧ (t.press b).feedRun = false ∧
          t.latchedNow (srcStarved b) ∧ ∀ a, s.bound .pileFeed (.press b) = some a → t.safetyWaits a 0))

/-- R123: a Paused press resumes from its resume point. -/
def State.resumed (s t : State) (b : PressId) (point : ResumePoint) : Prop :=
  (t.press b).resume = none ∧
    (point = .fill → s.fillResumed t b) ∧
    (point = .compress → s.phaseOrdered t b .compressing (s.press b).config.compressTimeout 1) ∧
    (point = .tie → s.phaseOrdered t b .tying (s.press b).config.tieTimeout 2) ∧
    (point = .eject → s.phaseOrdered t b .ejecting (s.press b).config.ejectTimeout 3)

/-- R124, R175: the Reply of a Reweigh joins the Own queue up where a place is free and none is owed before it; else it is
owed. That it waits behind an older one the press owes is the model's (DESIGN CHOICE, log 60). -/
def State.reweighReplied (s t : State) (b : PressId) (serial : Option Nat) (payload : List Byte) : Prop :=
  let tag := (s.press b).reweighTag.getD 0
  (s.line.ownUp.length < 8 → (s.press b).owedReplies = [] → (t.press b).owedReplies = [] ∧
    t.line.ownUp = s.line.ownUp ++ [{ frame := ownUpFrame .reply tag payload, origin := .reply }]) ∧
  (8 ≤ s.line.ownUp.length ∨ (s.press b).owedReplies ≠ [] → t.line.ownUp = s.line.ownUp ∧
    (t.press b).owedReplies = (s.press b).owedReplies ++ [{ tag := tag, serial := serial }])

/-- R124: what either end of a Reweigh leaves at the press: the slot and the tag absent, a fill start to test in Idle, and in
Paused the wait, or the resuming where Auto is set. But for a fill resumed, the lots and the bale in progress stand. -/
def State.reweighOver (s t : State) (b : PressId) : Prop :=
  (t.press b).slot = none ∧ (t.press b).reweighTag = none ∧ t.store.reweighRes = s.store.reweighRes - 1 ∧
    ((s.press b).state = .idle → (t.press b).state = .idle ∧ (t.press b).fillDue = true) ∧
    ((s.press b).state = .paused → (s.press b).auto = false →
      (t.press b).state = .paused ∧ (t.press b).resume = (s.press b).resume) ∧
    (∀ point, (s.press b).state = .paused → (s.press b).auto = true → (s.press b).resume = some point →
      s.resumed t b point) ∧
    ((s.press b).state = .idle ∨ (s.press b).auto = false ∨ (s.press b).resume ≠ some .fill →
      t.lots = s.lots ∧ (t.press b).bale = (s.press b).bale)

/-! ## Orders queued again at a Line Reset -/

/-- An ordinary entry of the Own queue down that orders value `v` at a station's channel 0. -/
def orderTo (station : Nat) (v : Int) : OwnDown := { frame := ownCommand station v, safety := false, injected := false }

/-- An injected entry of the Own queue down (R92). -/
def injectionTo (station : Nat) (v : Int) : OwnDown := { frame := ownCommand station v, safety := false, injected := true }

/-- A safety entry of the Own queue down (R161). -/
def safetyTo (station : Nat) (v : Int) : OwnDown := { frame := ownCommand station v, safety := true, injected := false }

/-- R105: a kiln that queues its purge frames again: Tripped, or in Dropping with its permit Tripped. -/
def Kiln.queuesPurge (r : Kiln) : Prop := r.state = .tripped ∨ (r.state = .dropping ∧ r.permit.state = .tripped)

/-- R61: what a picker queues again. -/
def State.pickerRestores (s : State) (e : OwnDown) : Prop :=
  ∃ p st, (∃ n c, s.loadingCharge p = some (n, c) ∧ s.bound .distributor (.picker p) = some st ∧
      e = orderTo st (kilnIndex c.kiln + 1)) ∨
    ((s.picker p).state ≠ .running ∧ s.bound .feedDrive (.picker p) = some st ∧ e = safetyTo st 0)

/-- R81, R105: what a kiln queues again. -/
def State.kilnRestores (s : State) (e : OwnDown) : Prop :=
  ∃ k st, (s.bound .dropGate (.kiln k) = some st ∧ e = orderTo st (if (s.kiln k).ring.drop = none then 0 else 1)) ∨
    ((s.kiln k).queuesPurge ∧ ((s.bound .burner (.kiln k) = some st ∧ e = safetyTo st 0) ∨
      (s.bound .fan (.kiln k) = some st ∧ e = safetyTo st (s.kiln k).config.purgeFan))) ∨
    (¬(s.kiln k).queuesPurge ∧ ∃ v, (s.kiln k).injection = some v ∧
      ((s.bound .burner (.kiln k) = some st ∧ e = injectionTo st v.1) ∨
        (s.bound .fan (.kiln k) = some st ∧ e = injectionTo st v.2)))

/-- R118: the value that orders the phase a press is in. -/
def phaseOrderOf : PressState → Option Int
  | .compressing => some 1
  | .tying => some 2
  | .ejecting => some 3
  | _ => none

/-- R127: what a press queues again. -/
def State.pressRestores (s : State) (e : OwnDown) : Prop :=
  ∃ b st, (s.bound .pileFeed (.press b) = some st ∧ (((s.press b).feedRun = true ∧ e = orderTo st 1) ∨
      ((s.press b).feedRun = false ∧ (s.press b).bale ≠ none ∧ e = safetyTo st 0))) ∨
    (s.bound .pressHydraulics (.press b) = some st ∧
      ((∃ v, phaseOrderOf (s.press b).state = some v ∧ e = orderTo st v) ∨
        ((s.press b).state = .faulted ∧ e = safetyTo st 0)))

/-- R160: an order waits in the Own queue down with its owed mark clear, or is owed while no place outside the safety places is
free. -/
def State.waitsOrOwed (t : State) (e : OwnDown) (owed : Bool) : Prop :=
  (owed = false ∧ e ∈ t.line.ownDown) ∨ (owed = true ∧ 6 ≤ t.line.ownDown.length)

/-! ## Properties every step keeps -/

/-- The capacities of the queues, the runs, the exception list and the line counters (spec/09 9.2, R168, R170, R30, R171,
R174). -/
def State.withinCapacity (s : State) : Prop :=
  s.line.forwardUp.length ≤ 32 ∧ s.line.forwardDown.length ≤ 16 ∧ s.line.ownUp.length ≤ 8 ∧ s.line.ownDown.length ≤ 8 ∧
    s.line.runUp ≤ 3 ∧ s.line.runDown ≤ 3 ∧ s.agent.requests.length ≤ 4 ∧ s.chan.exceptions.length ≤ 16 ∧
    s.line.counters.receivedU ≤ 4294967295 ∧ s.line.counters.receivedF ≤ 4294967295 ∧
    s.line.counters.checkFailures ≤ 4294967295 ∧ s.line.counters.forwardDrops ≤ 4294967295 ∧
    s.line.counters.misdirected ≤ 4294967295 ∧ s.line.counters.overridden ≤ 4294967295 ∧
    s.line.counters.rewritten ≤ 4294967295 ∧ s.line.counters.noReplyPolls ≤ 4294967295 ∧
    s.line.counters.requestOverruns ≤ 4294967295

/-- A table in canonical form: its keys rise and no record listed is the one an unlisted key reads as. -/
def tableCanonical {α : Type} (d : α) (t : List (Nat × α)) : Prop := tableWf t = true ∧ ∀ e ∈ t, e.2 ≠ d

/-- Every keyed table in its canonical form, and no more lots than the Lot Table has places (R2). -/
def State.tablesOk (s : State) : Prop :=
  (tableWf s.lots = true ∧ s.lots.length ≤ 64) ∧ tableWf s.pool.records = true ∧ tableWf s.chan.samples = true ∧
    tableCanonical StationEntry.reset s.chan.stations ∧ tableCanonical Watch.reset s.watches ∧
    tableCanonical [] s.schedules ∧ tableCanonical 0 s.agent.writeCounts

/-- R135: the tickets held stand in strictly increasing serial order, all below the next serial; an Unseeded store holds none. -/
def Store.ordered (t : Store) : Prop :=
  match t.nextSerial with
  | none => t.tickets = []
  | some n => t.tickets.Pairwise (fun a b => a.serial < b.serial) ∧ ∀ k ∈ t.tickets, k.serial < n

/-- R69, R75: a kiln is Dropping exactly while its ring holds a drop in progress. -/
def State.droppingMatchesRing (s : State) : Prop := ∀ k, (s.kiln k).state = .dropping ↔ (s.kiln k).ring.drop ≠ none

/-- R96: in Off and Tripped a permit's timer is stopped. -/
def State.timersStopped (s : State) : Prop :=
  ∀ k, (s.kiln k).permit.state = .off ∨ (s.kiln k).permit.state = .tripped → (s.kiln k).permit.timer = none

end Sys2Proof.Machine
end

