-- ==== Sys2Proof/Certificates/Slice0/Obligations.lean ====
section
/-! DEFINITION. The statements for the provers, by the chapters of the spec. A statement that joins several rules is a
conjunction of one statement for each. -/

section

open Sys2Proof Sys2Proof.Machine

/-! ## The step -/

/-- The command at the front of the queue is run on the queue's rest (the block's form of a step; log 2 for the queue). -/
def Obligations.StepTakesFront : Prop :=
  ∀ (c : Instr) (rest : List Instr) (s : State), s.pending = c :: rest → step s = exec c (s.withPending rest)

/-- With no command waiting one second passes (DESIGN CHOICE, log 2): the elapsed count and the yard clock rise (R180), the
stage clocks that run count (R89) up to their stage's duration, and nothing else changes. -/
def Obligations.EmptyQueuePassesOneSecond : Prop :=
  ∀ s : State, s.pending = [] → ∃ t, step s = .next t ∧
    t.clock = { elapsed := s.clock.elapsed + 1, yard := (s.clock.yard + 1) % 4294967296, yardSet := s.clock.yardSet } ∧
    (∀ k, t.kiln k = { s.kiln k with
      stageElapsed := if (s.kiln k).clockRuns = true ∧ ∃ c, (s.kiln k).copy = some c ∧ (s.kiln k).stageElapsed < c.stage.duration
        then (s.kiln k).stageElapsed + 1 else (s.kiln k).stageElapsed }) ∧
    t = { s with clock := t.clock, kilns := t.kilns }

/-- Every command answers a next state: no rule of the spec stops the part (log 33; DESIGN CHOICE for a command whose
occasion is not there, log 1).

R180: only Clock Set and power-on write the clock, and a command leaves the commands behind it as they are. -/
def Obligations.EveryCommandCompletes : Prop :=
  (∀ (c : Instr) (s : State), Completes (exec c s)) ∧
  (∀ (c : Instr) (s t : State), exec c s = .next t → t.pending = s.pending ∧
     (c ≠ .clockSet → c ≠ .powerOn → t.clock = s.clock) ∧
     (c = .clockSet → t.clock.elapsed = s.clock.elapsed))

/-- R17, R35, R61, R37, R81, R83, R105, R108, R127, R144, R150, R153, R173, R174, R180: the part after power-on. The commands
that wait are kept, and the values that no rule states are the model's (DESIGN CHOICE, log 15); a frame that is being
transmitted completes (R159, log 10). -/
def Obligations.PowerOnState : Prop :=
  ∀ s : State, ∃ t, exec .powerOn s = .next t ∧ t.pending = s.pending ∧
    t.clock = { elapsed := 0, yard := 0, yardSet := false } ∧
    t.line = { forwardUp := [], forwardDown := [], ownUp := [], ownDown := [], overflow := [], runUp := 0, runDown := 0,
               poll := none, fSending := s.line.fSending, uTaken := s.line.uTaken,
               counters := { receivedU := 0, receivedF := 0, checkFailures := 0, forwardDrops := 0, misdirected := 0,
                             overridden := 0, rewritten := 0, noReplyPolls := 0, requestOverruns := 0 },
               settings := { broadcastPass := false, replyWindow := 10 } } ∧
    t.agent = { requests := [], staging := none, writeCounts := [] } ∧ (∀ i n, t.writeCount i n = 0) ∧
    (∀ n, t.station n = { present := false, role := .other, unit := none, descriptors := [] }) ∧
    (∀ n c, t.sample n c = none) ∧ t.chan.exceptions = [] ∧ t.chan.overflowed = false ∧
    (∀ n, t.watch n =
      { entry := { enabled := false, station := 2, channel := 0, low := 0, high := 0, negate := false, persistence := 0,
                   unorderedFires := false, repeats := false, clearSet := 0 },
        state := .disabled, pendingStart := none, fireCount := 0, lastFire := none, lastOutcome := none }) ∧
    t.notice = { latched := 0, enabled := 0, sent := 0, waiting := false } ∧
    (∀ n, t.lot n = none) ∧ (∀ n, t.charge n = none) ∧ t.pool.next = 1 ∧
    (∀ p, t.picker p =
      { state := .stopped, currentLot := none, pendingLot := none, refusedLot := none, loading := none, unattributed := 0,
        reasons := { noFloor := false, unknownLot := false, noTicketSlot := false, sensorLost := false, disabled := false,
                     operator := false },
        clearanceStart := none, quietStart := none, inForce := none, waitStart := none, stopAfter := false,
        feedEnable := true, retryFrom := none, woken := false, distributorOwed := false,
        config := { quiet := 10, limit := 120, route := 0 } }) ∧
    (∀ k, t.kiln k =
      { state := .idle, cycleSchedule := none, stage := none, copy := none, stageElapsed := 0, dropOwed := false,
        excursionStart := none, bandLatched := false, awaitingStart := none, overdue := false, capture := none,
        scheduleFlag := true, holdOff := true, lastInjection := none, burnerOwed := false, fanOwed := false,
        dropRetryFrom := none, pileWoken := false,
        permit := { state := .off, timer := none, parity := .odd, proving := 0 },
        config := { schedule := 1, pile := if kilnIndex k < 3 then .b1 else .b2, capacity := 15000, nominalYield := 220,
                    moistureTarget := 100, holdSetpoint := 400, maxSetpoint := 700, purgeFan := 100, refresh := 15,
                    dropTimeout := 300, awaitingLimit := 0, bandAction := .notice, renewalPeriod := 10 },
        ring := { top := 0, slot0 := .empty, slot1 := .empty, slot2 := .empty, drop := none, gateCloseOwed := false,
                  dropsCompleted := 0, emptyDrops := 0, offered := false, declined := [], gateRestore := false } }) ∧
    (∀ n, t.schedule n = []) ∧
    (∀ b, t.press b =
      { state := .idle, auto := true, nextBale := 1, bale := none, feedRun := false, runOwed := false,
        reservationWait := false, coastStart := none, coastQuiet := 0, phaseStart := none, phaseTimeout := 0,
        phaseOwed := false, resume := none, cause := none, slot := none, reweighTag := none, recent := [], unbooked := 0,
        fillDue := false, owedReplies := [],
        config := { target := 5000, minimum := 2000, tare := 150, quiet := 5, compressTimeout := 60, tieTimeout := 60,
                    ejectTimeout := 30, weighWindow := 20 },
        entries := [], inFlight := 0 }) ∧
    t.store = { tickets := [], chargeRes := 0, baleRes := 0, settlementRes := 0, reweighRes := 0, nextSerial := none,
                fetchHigh := 0, transfer := none }

/-! ## What every step keeps -/

/-- The state after reset meets each property that every step keeps. -/
def Obligations.ResetMeetsInvariants : Prop :=
  State.reset.withinCapacity ∧ State.reset.tablesOk ∧ State.reset.store.ordered ∧ State.reset.timersStopped ∧
    State.reset.droppingMatchesRing

/-- No queue, run, list or counter passes its capacity (spec/09 9.2, R160, R161, R168, R170, R171, R174, R30). -/
def Obligations.StepKeepsCapacity : Prop :=
  ∀ s t : State, s.withinCapacity → step s = .next t → t.withinCapacity

/-- Every keyed table keeps its canonical form, and the Lot Table its 64 places (R2). -/
def Obligations.StepKeepsTables : Prop :=
  ∀ s t : State, s.tablesOk → step s = .next t → t.tablesOk

/-- R135: the tickets held stand in strictly increasing serial order, all below the next serial. -/
def Obligations.StepKeepsTicketOrder : Prop :=
  ∀ s t : State, s.store.ordered → step s = .next t → t.store.ordered

/-- R96: in Off and Tripped the renewal timer is stopped.

R100: a Tripped permit is left only by the Yard Reset input or by power-on.

R98: heat is permitted only by a Permit Confirm of a Staged permit proved at least twice.

R69, R75: a kiln is Dropping exactly while its ring holds a drop in progress, whatever step is taken. -/
def Obligations.PermitLaws : Prop :=
  (∀ s t : State, s.timersStopped → step s = .next t → t.timersStopped) ∧
  (∀ (c : Instr) (s t : State) (k : KilnId), exec c s = .next t → (s.kiln k).permit.state = .tripped →
     c ≠ .powerOn → (∀ order, c ≠ .yardReset order) → (t.kiln k).permit = (s.kiln k).permit) ∧
  (∀ (c : Instr) (s t : State) (k : KilnId), exec c s = .next t → (s.kiln k).permit.state ≠ .live →
     (t.kiln k).permit.state = .live →
     c = .permitConfirm ∧ (s.kiln k).permit.state = .staged ∧ 2 ≤ (s.kiln k).permit.proving) ∧
  (∀ s t : State, s.droppingMatchesRing → step s = .next t → t.droppingMatchesRing)

/-- R184, spec/11 11.1: a frame whose fields are in range and of their kind is read back from its characters. -/
def Obligations.FrameRoundTrip : Prop :=
  ∀ f : Frame, f.dest ≤ 127 → f.src ≤ 127 → f.channel ≤ 255 → f.tag ≤ 255 → f.payload.length ≤ 40 →
    (f.kind = .command → f.channel ≤ 3 ∧ f.payload.length = 4) → (f.kind = .poll → f.channel ≤ 3 ∧ f.payload.length = 0) →
    (f.kind = .report → f.channel ≤ 3 ∧ f.payload.length = 5) → arrive (frameChars f) = .accepted f

/-! ## The Plant Line -/

/-- R159, R184: a run of characters that is too short or too long, whose count is not 8 plus its payload length, or that fails
its check is counted as received and as a check failure, latches LineErrors and does nothing else; one that passes its check
but holds unused values (an address above 127, a kind 0 or above 7, a channel or a length its kind does not have) is counted
as received and misdirected, and does nothing else. The F-port is half duplex: while it transmits it receives nothing (what
becomes of such characters is DESIGN CHOICE, log 1). -/
def Obligations.BadFramesAreCountedAndDropped : Prop :=
  ∀ (chars : List Byte) (s : State),
    (s.line.fSending ≠ none → exec (.fPortFrameReceived chars) s = .next s) ∧
    (chars.length < 8 ∨ 48 < chars.length ∨ (∃ l, chars[5]? = some l ∧ chars.length ≠ 8 + l.toNat) ∨
        bytesOfNat 2 (crc (chars.take (chars.length - 2))).toNat ≠ chars.drop (chars.length - 2) →
      (∃ t, exec (.uPortFrameReceived chars) s = .next t ∧
        (s.counts fun c => { c with receivedU := saturate c.receivedU }).checkFailed t) ∧
      (s.line.fSending = none → ∃ t, exec (.fPortFrameReceived chars) s = .next t ∧
        (s.counts fun c => { c with receivedF := saturate c.receivedF }).checkFailed t)) ∧
    (∀ (dest src kind channel tag len : Byte) (payload body : List Byte),
        body = [dest, src, kind, channel, tag, len] ++ payload → chars = body ++ bytesOfNat 2 (crc body).toNat →
        payload.length = len.toNat → len.toNat ≤ 40 →
        127 < dest.toNat ∨ 127 < src.toNat ∨ kind.toNat = 0 ∨ 7 < kind.toNat ∨
          (kind.toNat = 1 ∧ (3 < channel.toNat ∨ len.toNat ≠ 4)) ∨ (kind.toNat = 2 ∧ (3 < channel.toNat ∨ len.toNat ≠ 0)) ∨
          (kind.toNat = 3 ∧ (3 < channel.toNat ∨ len.toNat ≠ 5)) →
      exec (.uPortFrameReceived chars) s =
        .next (s.counts fun c => { c with receivedU := saturate c.receivedU, misdirected := saturate c.misdirected }) ∧
      (s.line.fSending = none → exec (.fPortFrameReceived chars) s =
        .next (s.counts fun c => { c with receivedF := saturate c.receivedF, misdirected := saturate c.misdirected })))

/-- R163 (cases 1 to 5), R164, R174: what becomes of a frame from the host that names no Present station.

R163 (case 6 and its table): what becomes of a frame from the host to a Present station. -/
def Obligations.HostFrameActions : Prop :=
  (∀ (chars : List Byte) (f : Frame) (s u : State), arrive chars = .accepted f →
     u = s.counts (fun c => { c with receivedU := saturate c.receivedU }) →
     (f.src ≠ 1 ∨ f.dest = 1 ∨ (f.dest = 127 ∧ f.kind ≠ .request) →
       exec (.uPortFrameReceived chars) s = .next (u.counts fun c => { c with misdirected := saturate c.misdirected })) ∧
     (f.src = 1 → f.dest = 127 → f.kind = .request → s.agent.requests.length < 4 →
       exec (.uPortFrameReceived chars) s = .next { u with agent := { u.agent with requests := u.agent.requests ++ [f] } }) ∧
     (f.src = 1 → f.dest = 127 → f.kind = .request → 4 ≤ s.agent.requests.length →
       exec (.uPortFrameReceived chars) s =
         .next (u.counts fun c => { c with requestOverruns := saturate c.requestOverruns })) ∧
     (f.src = 1 → f.dest = 0 →
       s.line.settings.broadcastPass = false ∨ f.kind = .poll ∨ (f.kind = .command ∧ commandValue f ≠ 0) →
       exec (.uPortFrameReceived chars) s = .next (u.counts fun c => { c with overridden := saturate c.overridden })) ∧
     (f.src = 1 → f.dest = 0 → s.line.settings.broadcastPass = true → f.kind ≠ .poll →
       (f.kind = .command → commandValue f = 0) →
       ∃ t, exec (.uPortFrameReceived chars) s = .next t ∧ u.forwardedDown t f none) ∧
     (f.src = 1 → 2 ≤ f.dest → f.dest ≤ 126 → (s.station f.dest).present = false →
       ∃ t, exec (.uPortFrameReceived chars) s = .next t ∧ u.forwardedDown t f none)) ∧
  (∀ (chars : List Byte) (f : Frame) (s u : State) (e : StationEntry), arrive chars = .accepted f → f.src = 1 →
     2 ≤ f.dest → f.dest ≤ 126 → s.station f.dest = e → e.present = true →
     u = s.counts (fun c => { c with receivedU := saturate c.receivedU }) →
     let passes := ∃ t, exec (.uPortFrameReceived chars) s = .next t ∧
       u.forwardedDown t f (some { role := e.role, unit := e.unit })
     let overridden := exec (.uPortFrameReceived chars) s =
       .next (u.counts fun c => { c with overridden := saturate c.overridden })
     (f.kind ≠ .command → passes) ∧
     (f.kind = .command →
       (∀ k, e.unit = some (.kiln k) → e.role = .burner ∨ e.role = .fan → (s.kiln k).scheduleFlag = true → overridden) ∧
       (∀ k, e.unit = some (.kiln k) → e.role = .fan → (s.kiln k).scheduleFlag = false → passes) ∧
       (∀ k, e.unit = some (.kiln k) → e.role = .burner → (s.kiln k).scheduleFlag = false →
         f.channel ≠ 0 ∨ commandValue f ≤ (s.kiln k).config.maxSetpoint → passes) ∧
       (∀ k, e.unit = some (.kiln k) → e.role = .burner → (s.kiln k).scheduleFlag = false → f.channel = 0 →
         (s.kiln k).config.maxSetpoint < commandValue f →
         ∃ t, exec (.uPortFrameReceived chars) s = .next t ∧
           (u.counts fun c => { c with rewritten := saturate c.rewritten }).forwardedDown t
             (withValue f (s.kiln k).config.maxSetpoint) (some { role := e.role, unit := e.unit })) ∧
       (∀ p, e.unit = some (.picker p) → e.role = .distributor →
         ((s.picker p).state = .running ∨ (s.picker p).state = .clearing → overridden) ∧
         ((s.picker p).state ≠ .running → (s.picker p).state ≠ .clearing → passes)) ∧
       (∀ k, e.unit = some (.kiln k) → e.role = .dropGate →
         ((s.kiln k).state = .dropping → overridden) ∧ ((s.kiln k).state ≠ .dropping → passes)) ∧
       (∀ b, e.unit = some (.press b) → e.role = .pileFeed ∨ e.role = .pressHydraulics →
         ((s.press b).auto = true → overridden) ∧ ((s.press b).auto = false → passes)) ∧
       (e.role ≠ .burner → e.role ≠ .fan → e.role ≠ .distributor → e.role ≠ .dropGate → e.role ≠ .pileFeed →
         e.role ≠ .pressHydraulics → passes)))

/-- R165, R169: what becomes of a frame from the field that is not a Report of a described channel with a source and a
destination it may have, and when it ends the outstanding poll. A Report of a described channel whose source or destination
it may not have is misdirected as any other frame, and is not tapped.

R165, R169, R29, R23, R31, R32: a Report on a described channel ends the outstanding poll of its station; its record takes it
(its class, value and raise: their own statements), its self-poll timer starts again with the descriptor's interval, or with one
second for the BeltScale of a picker that is Clearing, and its update goes to the unit bound in the station's role, where the channel
is 0, and to the watches, once each and with nothing else done (the units first, log 7); one to address 127 ends there, and
one to 0 or 1 is forwarded up unchanged as well. -/
def Obligations.FieldFrameRouting : Prop :=
  (∀ (chars : List Byte) (f : Frame) (s u : State), arrive chars = .accepted f → s.line.fSending = none →
     (f.kind = .report → 2 ≤ f.src → f.src ≤ 126 → f.dest ≤ 1 ∨ f.dest = 127 → s.descriptor f.src f.channel = none) →
     u = { s with line := { s.line with
       counters := { s.line.counters with receivedF := saturate s.line.counters.receivedF }
       poll := if f.kind = .report ∧ s.line.poll.map Poll.station = some f.src then none else s.line.poll } } →
     (f.src = 0 ∨ f.src = 1 ∨ f.src = 127 ∨ (2 ≤ f.dest ∧ f.dest ≤ 126) ∨ (f.dest = 127 ∧ f.kind ≠ .report) →
       exec (.fPortFrameReceived chars) s = .next (u.counts fun c => { c with misdirected := saturate c.misdirected })) ∧
     (2 ≤ f.src → f.src ≤ 126 → f.dest = 127 → f.kind = .report → exec (.fPortFrameReceived chars) s = .next u) ∧
     (2 ≤ f.src → f.src ≤ 126 → f.dest ≤ 1 → ∃ t, exec (.fPortFrameReceived chars) s = .next t ∧ u.forwardedUp t f)) ∧
  (∀ (chars : List Byte) (f : Frame) (s : State) (d : Descriptor) (r : Sample), arrive chars = .accepted f →
     s.line.fSending = none → f.kind = .report → 2 ≤ f.src → f.src ≤ 126 → f.dest = 0 ∨ f.dest = 1 ∨ f.dest = 127 →
     s.descriptor f.src f.channel = some d → s.sample f.src f.channel = some r →
     ∃ t m w q, exec (.fPortFrameReceived chars) s = .next t ∧
       (m = { s with
         line := { s.line with
           counters := { s.line.counters with receivedF := saturate s.line.counters.receivedF }
           poll := if s.line.poll.map Poll.station = some f.src then none else s.line.poll }
         chan := m.chan
         notice := m.notice } ∧
       m.chan.stations = s.chan.stations ∧ m.sample f.src f.channel = some q ∧ q.lastReport = some s.now ∧
       (let fast := f.channel = 0 ∧ (s.station f.src).role = .beltScale ∧
         ∃ p, (s.station f.src).unit = some (.picker p) ∧ (s.picker p).state = .clearing
       (fast → q.pollDue = some (s.now + 1)) ∧
       (¬fast → q.pollDue = if d.pollInterval = 0 then none else some (s.now + d.pollInterval))) ∧
       q.substituted = (m.view f.src f.channel).substituted ∧
       (∀ n c, c ≤ 3 → n ≠ f.src ∨ c ≠ f.channel → m.sample n c = s.sample n c)) ∧
       (let u : Update := { view := m.view f.src f.channel, report := true, settled := reportFlag f 1 }
       w = watchesTake f.src f.channel u.view (match (s.station f.src).unit with
         | some unit => if f.channel = 0 then unitTakes (s.station f.src).role unit u m else m
         | none => m)) ∧
       w.line.poll = m.line.poll ∧ w.line.forwardUp = s.line.forwardUp ∧
       (f.dest = 127 → t = w) ∧ (f.dest ≤ 1 → w.forwardedUp t f))

/-- R168, R161: which frame the F-port transmitter takes, what leaves its queue, and the own run. The frame sent is the frame
taken, or the same frame with value 0 where a gate is shut (R166, R167: their own statement).

R168, R169: while a frame leaves or a poll is outstanding no frame is taken; the end of a Poll's transmission opens its
window with the reply window in force, the end of any other frame's frees the port, and a window that passes is counted.

R161: the entry of a safety frame, here the feed stop of a Picker Hold: the older ordinary frames to its station and
channel are removed; a safety frame that waits for it, in the queue or in the overflow list, takes its value and keeps its
place; else it joins the queue below 8 frames, and the overflow list at 8. -/
def Obligations.TransmitDownAndPoll : Prop :=
  (∀ s : State, s.line.fSending = none → s.line.poll = none →
     (s.line.ownDown = [] → s.line.forwardDown = [] → exec .fPortTransmit s = .next s) ∧
     (∀ e, s.line.ownDown.find? OwnDown.safety = some e →
       ∃ t g, exec .fPortTransmit s = .next t ∧ t.line.fSending = some g ∧ (g = e.frame ∨ g = withValue e.frame 0) ∧
         t.line.forwardDown = s.line.forwardDown ∧ t.line.runDown = s.line.runDown ∧
         t.line.ownDown = s.line.ownDown.erase e ++ (if s.line.ownDown.length = 8 then s.line.overflow.take 1 else []) ∧
         t.line.overflow = (if s.line.ownDown.length = 8 then s.line.overflow.drop 1 else s.line.overflow)) ∧
     (∀ e rest, s.line.ownDown.find? OwnDown.safety = none → s.line.ownDown = e :: rest →
       s.line.forwardDown = [] ∨ s.line.runDown ≠ 3 →
       ∃ t g, exec .fPortTransmit s = .next t ∧ t.line.fSending = some g ∧ (g = e.frame ∨ g = withValue e.frame 0) ∧
         t.line.forwardDown = s.line.forwardDown ∧
         t.line.runDown = (if s.line.forwardDown = [] then 0 else s.line.runDown + 1) ∧
         t.line.ownDown = rest ++ (if s.line.ownDown.length = 8 then s.line.overflow.take 1 else []) ∧
         t.line.overflow = (if s.line.ownDown.length = 8 then s.line.overflow.drop 1 else s.line.overflow)) ∧
     (∀ e rest, s.line.ownDown.find? OwnDown.safety = none → s.line.forwardDown = e :: rest →
       s.line.ownDown = [] ∨ s.line.runDown = 3 →
       ∃ t g, exec .fPortTransmit s = .next t ∧ t.line.fSending = some g ∧ (g = e.frame ∨ g = withValue e.frame 0) ∧
         t.line.forwardDown = rest ∧ t.line.runDown = 0 ∧ t.line.ownDown = s.line.ownDown ∧
         t.line.overflow = s.line.overflow)) ∧
  (∀ s : State,
     (s.line.fSending ≠ none ∨ s.line.poll ≠ none → exec .fPortTransmit s = .next s) ∧
     (∀ f, s.line.fSending = some f → f.kind = .poll → f.dest ≠ 0 →
       exec .fPortTransmissionEnd s = .next s ∧
       exec .pollWindowOpen s = .next { s with line := { s.line with
         fSending := none
         poll := some { station := f.dest, channel := f.channel, source := f.src, opened := s.now,
                        window := s.line.settings.replyWindow } } }) ∧
     (∀ f, s.line.fSending = some f → f.kind ≠ .poll ∨ f.dest = 0 →
       exec .pollWindowOpen s = .next s ∧
       exec .fPortTransmissionEnd s = .next { s with line := { s.line with fSending := none } }) ∧
     (∀ p, s.line.poll = some p →
       exec .noReplyPoll s = .next
         { s.counts fun c => { c with noReplyPolls := saturate c.noReplyPolls } with
           line := { (s.counts fun c => { c with noReplyPolls := saturate c.noReplyPolls }).line with poll := none } })) ∧
  (∀ (s : State) (f : Frame) (i : Nat) (p : PickerId) (st : Nat), s.serves f (.pickerHold i) → pickerOf i = some p →
     (s.picker p).state = .running → s.bound .feedDrive (.picker p) = some st →
     let toIt (e : OwnDown) : Bool := e.frame.dest == st && e.frame.channel == 0
     let kept := s.line.ownDown.filter fun e => e.safety || !toIt e
     let valued (e : OwnDown) : OwnDown :=
       if e.safety && toIt e then { e with frame := { e.frame with payload := fieldInt 4 0 } } else e
     let entry : OwnDown := { frame := ownCommand st 0, safety := true, injected := false }
     ∃ t, exec .pickerHold s = .next t ∧
       ((∃ e ∈ kept ++ s.line.overflow, e.safety = true ∧ toIt e = true) →
         t.line.ownDown = kept.map valued ∧ t.line.overflow = s.line.overflow.map valued) ∧
       ((∀ e ∈ kept ++ s.line.overflow, e.safety = false ∨ toIt e = false) →
         (kept.length < 8 → t.line.ownDown = kept ++ [entry] ∧ t.line.overflow = s.line.overflow) ∧
         (8 ≤ kept.length → t.line.ownDown = kept ∧ t.line.overflow = s.line.overflow ++ [entry])))

/-- R166: no Command is taken toward a kiln's Burner with a value other than Off while that kiln's permit is not Live, whether
the destination is bound so now or was at the frame's arrival.

R167: no Command is taken toward a picker's FeedDrive with a value other than 0 while that picker is not Running, whether
the destination is bound so now or was at the frame's arrival; with every gate open a frame leaves as it was queued.

R166, R167, R171: the Command the F-port transmitter takes toward a kiln whose permit is not Live, or a picker that is not
Running, leaves with value 0, and the rewritten count rises once where the value was another; a frame that no shut gate
concerns leaves as it was queued, with the counters as they were, whatever the other permits and pickers are. -/
def Obligations.GatesAtTransmission : Prop :=
  (∀ (s t : State) (g : Frame) (k : KilnId), s.line.fSending = none → exec .fPortTransmit s = .next t →
     t.line.fSending = some g → g.kind = .command → (s.kiln k).permit.state ≠ .live →
     ((s.station g.dest).present = true ∧ (s.station g.dest).role = .burner ∧ (s.station g.dest).unit = some (.kiln k)) ∨
       (s.line.ownDown.find? OwnDown.safety = none ∧ (s.line.ownDown = [] ∨ s.line.runDown = 3) ∧
         ∃ e rest, s.line.forwardDown = e :: rest ∧
         e.cls = some { role := .burner, unit := some (.kiln k) }) →
     commandValue g = 0) ∧
  (∀ (s t : State) (g : Frame), s.line.fSending = none → exec .fPortTransmit s = .next t → t.line.fSending = some g →
     (∀ p, g.kind = .command → (s.picker p).state ≠ .running →
       ((s.station g.dest).present = true ∧ (s.station g.dest).role = .feedDrive ∧
           (s.station g.dest).unit = some (.picker p)) ∨
         (s.line.ownDown.find? OwnDown.safety = none ∧ (s.line.ownDown = [] ∨ s.line.runDown = 3) ∧
         ∃ e rest, s.line.forwardDown = e :: rest ∧
           e.cls = some { role := .feedDrive, unit := some (.picker p) }) →
       commandValue g = 0) ∧
     ((∀ k, (s.kiln k).permit.state = .live) → (∀ p, (s.picker p).state = .running) →
       t.line.counters = s.line.counters ∧
         ((∃ e ∈ s.line.ownDown, e.frame = g) ∨ ∃ e ∈ s.line.forwardDown, e.frame = g))) ∧
  (∀ (s : State) (f : Frame) (c : Option StationClass), s.line.fSending = none → s.line.poll = none → s.takesDown f c →
     let shut := (∃ k, s.gatedFor f c .burner (.kiln k) ∧ (s.kiln k).permit.state ≠ .live) ∨
       (∃ p, s.gatedFor f c .feedDrive (.picker p) ∧ (s.picker p).state ≠ .running)
     ∃ t, exec .fPortTransmit s = .next t ∧
       (shut → commandValue f ≠ 0 → t.line.fSending = some (withValue f 0) ∧
         t.line.counters = { s.line.counters with rewritten := saturate s.line.counters.rewritten }) ∧
       (shut → commandValue f = 0 → t.line.fSending = some f ∧ t.line.counters = s.line.counters) ∧
       (¬shut → t.line.fSending = some f ∧ t.line.counters = s.line.counters))

/-- R170, R155, R138: which frame the U-port transmitter takes, and what its taking means to its originator. R170 takes a frame
while the transmitter is not transmitting; the occasion of the taking is the model's (DESIGN CHOICE, log 9).

R138, R139: after a ticket's frame has been taken, the transfer counts it; it ends Counted at its count and Short where no
ticket is due, with its end frame queued, and otherwise goes on. -/
def Obligations.TransmitUpAndTicketSent : Prop :=
  (∀ s : State,
     (s.line.ownUp = [] → s.line.forwardUp = [] → exec .uPortTransmit s = .next s) ∧
     (∀ f rest, s.line.forwardUp = f :: rest → s.line.ownUp = [] ∨ s.line.runUp = 3 →
       exec .uPortTransmit s = .next { s with line := { s.line with forwardUp := rest, runUp := 0, uTaken := some f } }) ∧
     (∀ e rest u, s.line.ownUp = e :: rest → s.line.forwardUp = [] ∨ s.line.runUp ≠ 3 →
       u = { s with line := { s.line with
         ownUp := rest, uTaken := some e.frame, runUp := if s.line.forwardUp = [] then 0 else s.line.runUp + 1 } } →
       (e.origin = .reply ∨ e.origin = .fetchEnd ∨ e.origin = .ticketFirst → exec .uPortTransmit s = .next u) ∧
       (e.origin = .notice → exec .uPortTransmit s = .next { u with notice := { u.notice with waiting := false } }) ∧
       (∀ n, e.origin = .ticket n → ∃ t, exec .uPortTransmit s = .next t ∧
         t.store.fetchHigh = max s.store.fetchHigh n ∧ t.store.tickets = s.store.tickets ∧
         t.line.uTaken = some e.frame ∧ t.line.forwardUp = s.line.forwardUp ∧ t.line.runUp = u.line.runUp ∧
         (s.store.transfer = none → t.line = u.line ∧ t.store.transfer = none)))) ∧
  (∀ (s : State) (e : OwnUp) (rest : List OwnUp) (n : Nat) (x : Transfer), s.line.ownUp = e :: rest →
     s.line.ownUp.length ≤ 8 → s.line.forwardUp = [] ∨ s.line.runUp ≠ 3 → e.origin = .ticket n →
     s.store.transfer = some x → x.endReason = none →
     let y : Transfer := { x with sent := x.sent + 1, lastSent := some n, waiting := false }
     let ends (r : FetchEnd) := ∃ t, exec .uPortTransmit s = .next t ∧ t.store.transfer = none ∧
       t.line.ownUp = rest ++ [{ frame := fetchEndFrame y r, origin := .fetchEnd }]
     (x.sent + 1 = x.count → ends .counted) ∧
     (x.sent + 1 ≠ x.count → s.store.due x = none → ends .short) ∧
     (∀ k, x.sent + 1 ≠ x.count → s.store.due x = some k →
       ∃ t, exec .uPortTransmit s = .next t ∧ t.store.transfer = some y ∧ t.line.ownUp = rest))

/-! ## The Channel Monitor -/

/-- R21, R20, R30: the record a Report on a described Level channel leaves, and its raise.

R23: the view a channel's record gives: the class and value as they stand where the class is not masked; else the last
good value, marked substituted, or Absent where there is none. -/
def Obligations.LevelReportIsClassed : Prop :=
  (∀ (chars : List Byte) (f : Frame) (s : State) (d : Descriptor) (r : Sample) (v : Int), arrive chars = .accepted f →
     s.line.fSending = none →
     f.kind = .report → 2 ≤ f.src → f.src ≤ 126 → f.dest = 0 ∨ f.dest = 1 ∨ f.dest = 127 →
     s.descriptor f.src f.channel = some d → s.sample f.src f.channel = some r → d.kind = .level → reportValue f = v →
     ∃ t q, exec (.fPortFrameReceived chars) s = .next t ∧ t.sample f.src f.channel = some q ∧
       q.cls = (if reportFlag f 0 then .fault else if v < d.rangeLow then .low else if d.rangeHigh < v then .high
         else if v = 0 then .zero else .normal) ∧
       q.value = some v ∧ q.lastReport = some s.now ∧ q.expired = false ∧ q.baseline = r.baseline ∧
       (q.cls = .normal → q.lastGood = some { value := v, isZero := false }) ∧
       (q.cls = .zero → q.lastGood = some { value := v, isZero := true }) ∧
       (q.cls ≠ .normal → q.cls ≠ .zero → q.lastGood = r.lastGood) ∧
       s.raisesIfNew t f.src f.channel d.mask r.cls q.cls) ∧
  (∀ (s : State) (station channel : Nat),
     (s.sample station channel = none → s.view station channel = { cls := .absent, value := none, substituted := false }) ∧
     (∀ d r, s.descriptor station channel = some d → s.sample station channel = some r →
       let masked := (r.cls = .low ∧ d.mask.low = true) ∨ (r.cls = .high ∧ d.mask.high = true) ∨
         (r.cls = .fault ∧ d.mask.fault = true) ∨ (r.cls = .stale ∧ d.mask.stale = true)
       (¬masked → s.view station channel = { cls := r.cls, value := r.value, substituted := false }) ∧
       (masked → r.lastGood = none → s.view station channel = { cls := .absent, value := none, substituted := false }) ∧
       (∀ g, masked → r.lastGood = some g →
         s.view station channel = { cls := if g.isZero then .zero else .normal, value := some g.value, substituted := true })))

/-- R25: the increment and the baseline a Report without CounterRestart leaves on a RunningTotal channel. The class a baseline
leaves after a fault on a channel without one, and the meaning of Stale here, are DESIGN CHOICES (log 27, log 11); an increment
outside 32 bits is a free value (log 12), of which nothing is said.

R26: a Report that carries CounterRestart re-takes the baseline and books nothing. -/
def Obligations.TotalReportIsMeasured : Prop :=
  (∀ (chars : List Byte) (f : Frame) (s : State) (d : Descriptor) (r : Sample) (v : Int), arrive chars = .accepted f →
     s.line.fSending = none →
     f.kind = .report → 2 ≤ f.src → f.src ≤ 126 → f.dest = 0 ∨ f.dest = 1 ∨ f.dest = 127 →
     s.descriptor f.src f.channel = some d → s.sample f.src f.channel = some r → d.kind = .runningTotal →
     reportValue f = v → reportFlag f 2 = false →
     let new := operandOf (classValue d v (reportFlag f 0))
     ∃ t q, exec (.fPortFrameReceived chars) s = .next t ∧ t.sample f.src f.channel = some q ∧
       q.lastReport = some s.now ∧ q.expired = false ∧ s.raisesIfNew t f.src f.channel d.mask r.cls q.cls ∧
       (new = .fault → q.cls = .fault ∧ q.value = none ∧
         q.baseline = r.baseline.map fun b => { b with cls := OperandClass.fault }) ∧
       (new ≠ .fault → q.baseline = some { total := v, cls := new }) ∧
       (new ≠ .fault → r.baseline = none → q.cls = .absent ∧ q.value = none) ∧
       (∀ b, new ≠ .fault → r.baseline = some b →
         (b.cls = .fault → q.cls = .fault ∧ q.value = none) ∧
         (b.cls ≠ .fault → r.expired = true → q.cls = .stale ∧ q.value = none) ∧
         (b.cls ≠ .fault → r.expired = false →
           (new = .high ∨ b.cls = .high → q.cls = .high ∧ q.value = none) ∧
           (new ≠ .high → b.cls ≠ .high → new = .low ∨ b.cls = .low → q.cls = .low ∧ q.value = none) ∧
           (new = .good → b.cls = .good →
             (b.total < v → q.cls = .normal ∧ (v - b.total ≤ 2147483647 →
               q.value = some (v - b.total) ∧ q.lastGood = some { value := v - b.total, isZero := false })) ∧
             (v = b.total → q.cls = .zero ∧ q.value = some 0 ∧ q.lastGood = some { value := 0, isZero := true }) ∧
             (v < b.total → q.cls = .low ∧ q.value = none)))) ∧
       (q.value = none → q.lastGood = r.lastGood)) ∧
  (∀ (chars : List Byte) (f : Frame) (s : State) (d : Descriptor) (r : Sample) (v : Int), arrive chars = .accepted f →
     s.line.fSending = none →
     f.kind = .report → 2 ≤ f.src → f.src ≤ 126 → f.dest = 0 ∨ f.dest = 1 ∨ f.dest = 127 →
     s.descriptor f.src f.channel = some d → s.sample f.src f.channel = some r → d.kind = .runningTotal →
     reportValue f = v → reportFlag f 2 = true →
     let sound := d.rangeLow ≤ v ∧ v ≤ d.rangeHigh
     ∃ t q, exec (.fPortFrameReceived chars) s = .next t ∧ t.sample f.src f.channel = some q ∧
       (reportFlag f 0 = true → q.cls = .fault ∧ q.value = none ∧
         q.baseline = r.baseline.map fun b => { b with cls := OperandClass.fault }) ∧
       (reportFlag f 0 = false → sound → q.cls = .zero ∧ q.value = some 0 ∧
         q.baseline = some { total := v, cls := OperandClass.good }) ∧
       (reportFlag f 0 = false → v < d.rangeLow → q.cls = .low ∧ q.value = none ∧
         q.baseline = some { total := v, cls := OperandClass.low }) ∧
       (reportFlag f 0 = false → d.rangeLow ≤ v → d.rangeHigh < v → q.cls = .high ∧ q.value = none ∧
         q.baseline = some { total := v, cls := OperandClass.high }))

/-- R22, R30: a Stale expiry falls due when the freshness window has passed since the last Report, and is one expiry.

R31, R32: a self-poll that falls due is queued where a place is free and none waits for the channel, and the timer starts
again; without a place it falls due again one second later. -/
def Obligations.ChannelTimers : Prop :=
  (∀ (s : State) (station channel : Nat) (d : Descriptor) (r : Sample), s.descriptor station channel = some d →
     s.sample station channel = some r →
     (r.lastReport = none ∨ r.expired = true ∨ (∃ n, r.lastReport = some n ∧ s.now < n + d.window) →
       exec (.staleExpiry station channel) s = .next s) ∧
     (∀ n, r.lastReport = some n → n + d.window ≤ s.now → r.expired = false →
       ∃ t q, exec (.staleExpiry station channel) s = .next t ∧ t.sample station channel = some q ∧ q.cls = .stale ∧
         q.expired = true ∧ q.lastGood = r.lastGood ∧ q.baseline = r.baseline ∧ q.lastReport = r.lastReport ∧
         (d.kind = .level → q.value = r.value) ∧ (d.kind = .runningTotal → q.value = none) ∧
         s.raisesIfNew t station channel d.mask r.cls .stale)) ∧
  (∀ (s : State) (station channel : Nat) (r : Sample) (n : Nat), s.sample station channel = some r → r.pollDue = some n →
     let waits := ∃ e ∈ s.line.ownDown, e.frame.kind = .poll ∧ e.frame.dest = station ∧ e.frame.channel = channel
     let due (m : Nat) : State := s.putSample station channel { r with pollDue := if m = 0 then none else some (s.now + m) }
     (s.now < n → exec (.selfPollDue station channel) s = .next s) ∧
     (n ≤ s.now → waits → exec (.selfPollDue station channel) s = .next (due (s.pollInterval station channel))) ∧
     (n ≤ s.now → ¬waits → 6 ≤ s.line.ownDown.length → exec (.selfPollDue station channel) s = .next (due 1)) ∧
     (n ≤ s.now → ¬waits → s.line.ownDown.length < 6 →
       exec (.selfPollDue station channel) s = .next { due (s.pollInterval station channel) with
         line := { s.line with ownDown := s.line.ownDown ++
           [{ frame := ownPoll station channel, safety := false, injected := false }] } }))

/-- R28: the comparison of a view with a band. -/
def Obligations.BandComparison : Prop :=
  ∀ (low high : Int) (v : View),
    (v.cls = .fault ∨ v.cls = .stale ∨ v.cls = .absent → v.substituted = false → compareBand low high v = .unordered) ∧
    (v.value = none → compareBand low high v = .unordered) ∧
    (∀ x, v.value = some x →
      v.cls = .normal ∨ v.cls = .zero ∨ v.substituted = true ∨ v.cls = .low ∨ v.cls = .high →
      (x < low → compareBand low high v = .below) ∧ (low ≤ x → high < x → compareBand low high v = .above) ∧
      (low ≤ x → x ≤ high → compareBand low high v = .inside))

/-! ## Watches and notices -/

/-- R147, R148, R149: what the update of a Stale expiry makes of each watch on the channel; the view is the one the record then
gives (R23). -/
def Obligations.WatchesReadAnUpdate : Prop :=
  ∀ (s : State) (station channel : Nat) (d : Descriptor) (r : Sample) (m i : Nat), s.descriptor station channel = some d →
    s.sample station channel = some r → r.lastReport = some m → m + d.window ≤ s.now → r.expired = false →
    1 ≤ i → i ≤ 24 →
    ∃ t, exec (.staleExpiry station channel) s = .next t ∧
      let w := s.watch i
      let o := compareBand w.entry.low w.entry.high (t.view station channel)
      let holds := (o = .below ∨ o = .above) ∧ w.entry.negate = false ∨ o = .inside ∧ w.entry.negate = true ∨
        o = .unordered ∧ w.entry.unorderedFires = true
      let aside := o = .unordered ∧ w.entry.unorderedFires = false
      (w.entry.station ≠ station ∨ w.entry.channel ≠ channel ∨ w.state = .disabled → t.watch i = w) ∧
      (w.entry.station = station → w.entry.channel = channel → w.state ≠ .disabled →
        (aside → t.watch i = { w with lastOutcome := some o }) ∧
        (holds → w.state = .armed → w.entry.persistence ≠ 0 →
          t.watch i = { w with lastOutcome := some o, state := .pending, pendingStart := some s.now }) ∧
        (holds → w.state = .armed → w.entry.persistence = 0 → t.latchedNow (52 + i) ∧
          t.watch i = { w with
            lastOutcome := some o, fireCount := min (w.fireCount + 1) 255, lastFire := some s.now, pendingStart := none,
            state := if w.entry.repeats then .fired else .disabled }) ∧
        (holds → w.state ≠ .armed → t.watch i = { w with lastOutcome := some o }) ∧
        (¬holds → ¬aside → w.state = .pending →
          t.watch i = { w with lastOutcome := some o, state := .armed, pendingStart := none }) ∧
        (¬holds → ¬aside → w.state = .fired → t.watch i = { w with lastOutcome := some o, state := .armed }) ∧
        (¬holds → ¬aside → w.state = .armed → t.watch i = { w with lastOutcome := some o }))

/-- R145: which contents are a watch entry, and which entry each is. That a byte that codes no named value is refused here and not
as bad form is DESIGN CHOICE (log 47).

R145, R147, R148, R149, R177: a watch entry written sets the watch afresh; an enabled one takes the channel's present view as a
reading, which leaves it Armed, makes it Pending, or fires it at once with a persistence of 0.

R148, R149, R151: a Pending watch fires when its persistence has passed: its count, moment, source and state, and each flag
of its clear set is clear afterward. -/
def Obligations.WatchesAreSetAndFire : Prop :=
  (∀ (enabled station channel negate persistence policy trigger clear : Nat) (low high : Int), enabled < 256 →
     station < 256 → channel < 256 → negate < 256 → persistence < 65536 → policy < 256 → trigger < 256 → clear < 65536 →
     -2147483648 ≤ low → low < 2147483648 → -2147483648 ≤ high → high < 2147483648 →
     parseWatch (fieldNat 1 enabled ++ fieldNat 1 station ++ fieldNat 1 channel ++ fieldInt 4 low ++ fieldInt 4 high ++
         fieldNat 1 negate ++ fieldNat 2 persistence ++ fieldNat 1 policy ++ fieldNat 1 trigger ++ fieldNat 2 clear) =
       if enabled ≤ 1 ∧ 2 ≤ station ∧ station ≤ 126 ∧ channel ≤ 3 ∧ negate ≤ 1 ∧ persistence ≤ 255 ∧
           (policy = 1 ∨ policy = 2) ∧ (trigger = 1 ∨ trigger = 2) then
         some { enabled := decide (enabled = 1), station := station, channel := channel, low := low, high := high,
                negate := decide (negate = 1), persistence := persistence, unorderedFires := decide (policy = 1),
                repeats := decide (trigger = 2), clearSet := BitVec.ofNat 16 clear }
       else none) ∧
  (∀ (s : State) (f : Frame) (i : Nat) (content : List Byte) (e : WatchEntry),
     s.serves f (.tableWritePlain 6 i content) → 1 ≤ i → i ≤ 24 → parseWatch content = some e →
     ∃ t, exec .tableWritePlain s = .next t ∧ s.answeredAs t f (.done []) ∧ (t.watch i).entry = e ∧
       t.writeCount .watch i = (s.writeCount .watch i + 1) % 256 ∧ (∀ j, j ≠ i → t.watch j = s.watch j) ∧
       (e.enabled = false → t.watch i = { entry := e, state := .disabled, pendingStart := none, fireCount := 0,
                                          lastFire := none, lastOutcome := none }) ∧
       (e.enabled = true → s.sample e.station e.channel = none →
         t.watch i = { entry := e, state := .armed, pendingStart := none, fireCount := 0, lastFire := none,
                       lastOutcome := none }) ∧
       (e.enabled = true → s.sample e.station e.channel ≠ none →
         let o := compareBand e.low e.high (s.view e.station e.channel)
         let fresh : Watch := { entry := e, state := .armed, pendingStart := none, fireCount := 0, lastFire := none,
                                lastOutcome := some o }
         let holds := ((o = .below ∨ o = .above) ∧ e.negate = false) ∨ (o = .inside ∧ e.negate = true) ∨
           (o = .unordered ∧ e.unorderedFires = true)
         (¬holds → t.watch i = fresh) ∧
         (holds → e.persistence ≠ 0 → t.watch i = { fresh with state := .pending, pendingStart := some s.now }) ∧
         (holds → e.persistence = 0 → t.latchedNow (52 + i) ∧ t.watch i = { fresh with
           state := if e.repeats then .fired else .disabled, fireCount := 1, lastFire := some s.now }))) ∧
  (∀ (s : State) (i n : Nat), (s.watch i).state = .pending → (s.watch i).pendingStart = some n → 1 ≤ i → i ≤ 24 →
     (s.now < n + (s.watch i).entry.persistence → exec (.watchPersistenceEnd i) s = .next s) ∧
     (n + (s.watch i).entry.persistence ≤ s.now →
       ∃ t, exec (.watchPersistenceEnd i) s = .next t ∧ t.latchedNow (52 + i) ∧
         t.watch i = { s.watch i with
           fireCount := min ((s.watch i).fireCount + 1) 255, lastFire := some s.now, pendingStart := none,
           state := if (s.watch i).entry.repeats then .fired else .disabled } ∧
         (∀ j, j ≠ i → t.watch j = s.watch j) ∧
         (∀ p, (t.picker p).feedEnable =
           ((s.picker p).feedEnable && !(s.watch i).entry.clearSet.getLsbD (pickerIndex p))) ∧
         (∀ k, (t.kiln k).scheduleFlag =
           ((s.kiln k).scheduleFlag && !(s.watch i).entry.clearSet.getLsbD (2 + kilnIndex k))) ∧
         (∀ k, (t.kiln k).holdOff = ((s.kiln k).holdOff && !(s.watch i).entry.clearSet.getLsbD (8 + kilnIndex k))) ∧
         (∀ b, (t.press b).auto = ((s.press b).auto && !(s.watch i).entry.clearSet.getLsbD (14 + pressIndex b)))))

/-- R155: a Notice frame is queued when a source is due, none waits and a place is free, and lists what is latched and
enabled. That its queuing is a command of its own is the model's (DEDUCED, log 5).

R156, R157, R158: Notice Enable, Notice Clear and Notice Read, and the sets that name a number above 76. -/
def Obligations.NoticesAndTheirRequests : Prop :=
  (∀ (s : State) (listed : BitVec 77), listed = s.notice.latched &&& s.notice.enabled →
     (s.notice.waiting = true ∨ 8 ≤ s.line.ownUp.length ∨ (∀ n, listed.getLsbD n = true → s.notice.sent.getLsbD n = true) →
       exec .noticeFrameQueue s = .next s) ∧
     (∀ n, listed.getLsbD n = true → s.notice.sent.getLsbD n = false → s.notice.waiting = false →
       s.line.ownUp.length < 8 →
       exec .noticeFrameQueue s = .next { s with
         notice := { s.notice with sent := s.notice.sent ||| listed, waiting := true }
         line := { s.line with ownUp := s.line.ownUp ++ [{ frame := ownUpFrame .notice 0 (sourceBytes listed),
                                                           origin := .notice }] } })) ∧
  (∀ (s : State) (f : Frame),
     (∀ (bs : List Byte) (v : BitVec 77), s.serves f (.noticeEnable bs) → v.toNat = sourcesNat bs →
       exec .noticeEnable s =
         .next (({ s with notice := { s.notice with enabled := v } } : State).reply f (.done (sourceBytes v)))) ∧
     (∀ (bs : List Byte) (v : BitVec 77), s.serves f (.noticeClear bs) → v.toNat = sourcesNat bs →
       exec .noticeClear s =
         .next (({ s with notice := { s.notice with
           latched := s.notice.latched &&& ~~~v, sent := s.notice.sent &&& ~~~v } } : State).reply f
             (.done (sourceBytes (s.notice.latched &&& ~~~v))))) ∧
     (∀ bs : List Byte, 2 ^ 77 ≤ sourcesNat bs →
       (s.serves f (.noticeEnable bs) → exec .noticeEnable s = .next (s.reply f (.refuse .badArgument))) ∧
       (s.serves f (.noticeClear bs) → exec .noticeClear s = .next (s.reply f (.refuse .badArgument)))) ∧
     (s.serves f .noticeRead →
       exec .noticeRead s = .next (s.reply f (.done (sourceBytes s.notice.latched ++ sourceBytes s.notice.enabled ++
         sourceBytes s.notice.sent ++ [if s.notice.waiting then 1 else 0])))))

/-! ## The Management Agent -/

/-- R174, R175: while the Own queue up has no free place, and while no Request waits, no request but Line Reset is executed.

R185: a Request of bad form is answered BadArgument and has no other effect. Of bad form are: an empty payload, a code outside
the table, arguments of another length than the code's (for a plain write and a segment, that of its table: logs 19 and 20),
a part number above 15 or beyond the last part of the answer (in parts of 36 bytes, log 16), a presence byte, an option or a
last flag other than 0 and 1, and a selector or mode other than 1 and 2. -/
def Obligations.RequestsWaitAndHaveForm : Prop :=
  (∀ s : State, 8 ≤ s.line.ownUp.length ∨ s.agent.requests = [] →
     ∀ c ∈ [Instr.requestBadForm, .tableRead, .tableWritePlain, .tableWriteStaged, .lineStatus, .identify, .clockSet,
       .lotDeclare, .lotClose, .lotRemove, .lotQuery, .sampleQuery, .exceptionRead, .pickerStart, .pickerStop, .pickerHold,
       .pickerRelease, .chargeClose, .pickerAssign, .pickerQuery, .floorQuery, .chargeQuery, .cycleNow, .kilnRelease,
       .kilnMode, .cycleResume, .kilnQuery, .permitStage, .permitRenewOdd, .permitRenewEven, .permitConfirm,
       .permitWithdraw, .pressNow, .pressClear, .pressAuto, .pressReweigh, .pressQuery, .ticketBase, .ticketFetch, .ticketTake,
       .ticketStatus, .noticeEnable, .noticeClear, .noticeRead],
     exec c s = .next s) ∧
  ((∀ (s : State) (f : Frame), s.agent.requests.head? = some f → s.upFree ≠ 0 →
     (s.requestOf f ≠ none → exec .requestBadForm s = .next s) ∧
     (s.requestOf f = none → exec .requestBadForm s = .next (s.reply f (.refuse .badArgument)))) ∧
   (∀ (s : State) (f : Frame),
     (f.payload = [] → s.requestOf f = none) ∧
     (∀ r part a, parseRequest f.payload = some r → s.query r = some (part, a) → a.parts ≤ part → s.requestOf f = none) ∧
     (∀ (code : Byte) (a : List Byte), f.payload = code :: a →
       code.toNat = 0 ∨ (7 < code.toNat ∧ code.toNat < 16) ∨ (19 < code.toNat ∧ code.toNat < 24) ∨
           (25 < code.toNat ∧ code.toNat < 32) ∨ code.toNat = 39 ∨ (41 < code.toNat ∧ code.toNat < 48) ∨
           (52 < code.toNat ∧ code.toNat < 56) ∨ (60 < code.toNat ∧ code.toNat < 64) ∨
           (68 < code.toNat ∧ code.toNat < 72) ∨ (75 < code.toNat ∧ code.toNat < 80) ∨ 82 < code.toNat ∨
         -- arguments of another length
         (∃ n, (code.toNat, n) ∈ [(1, 3), (4, 2), (5, 0), (6, 0), (7, 4), (16, 8), (17, 2), (18, 2), (19, 4), (24, 3), (25, 2),
             (32, 1), (33, 1), (34, 1), (35, 1), (36, 1), (37, 2), (38, 3), (40, 2), (41, 4), (48, 1), (49, 1), (50, 2),
             (51, 1), (52, 2), (56, 1), (57, 1), (58, 1), (59, 1), (60, 1), (64, 1), (65, 1), (66, 2), (67, 3), (68, 3),
             (72, 4), (73, 1), (74, 4), (75, 1), (80, 10), (81, 10), (82, 0)] ∧ a.length ≠ n) ∨
         (code.toNat = 2 ∧ (a.length < 2 ∨ ∃ t w, a[0]? = some t ∧
             (t.toNat, w) ∈ [(1, 3), (2, 5), (3, 24), (5, 20), (6, 18), (7, 3)] ∧ a.length ≠ 2 + w)) ∨
         (code.toNat = 3 ∧ (a.length < 4 ∨ (∃ t g, a[0]? = some t ∧ a[2]? = some g ∧ t.toNat = 1 ∧
               a.length ≠ 4 + (if g.toNat = 0 then 3 else 15)) ∨
             (∃ t g l, a[0]? = some t ∧ a[2]? = some g ∧ a[3]? = some l ∧ t.toNat = 4 ∧
               a.length ≠ 4 + 30 ∧ (l.toNat = 0 ∨ (a.length ≠ 4 + 10 ∧ a.length ≠ 4 + 20 ∧
                 (g.toNat ≠ 0 ∨ a.length ≠ 4 + 0)))))) ∨
         -- a part number above 15, and a presence byte, an option or a last flag above 1
         (∃ j top b, (code.toNat, j, top) ∈ [(4, 0, 15), (19, 0, 15), (24, 0, 15), (25, 0, 15), (38, 0, 15), (40, 0, 15),
             (41, 0, 15), (52, 0, 15), (68, 0, 15), (75, 0, 15), (16, 5, 1), (4, 1, 1), (25, 1, 1), (38, 2, 1), (66, 1, 1),
             (68, 2, 1), (3, 3, 1)] ∧ a[j]? = some b ∧ top < b.toNat) ∨
         -- a selector or a mode
         (∃ j b, (code.toNat, j) ∈ [(19, 3), (41, 3), (50, 1)] ∧ a[j]? = some b ∧ b.toNat ≠ 1 ∧ b.toNat ≠ 2) →
       s.requestOf f = none)))

/-- R176: Table Read answers a segment of the entry as it stands, with the last flag, the write count and a watch's state, and
changes nothing.

R182, R180: Identify and Clock Set. The code of the revision letter is the model's (log 18). -/
def Obligations.ReadIdentifyAndClock : Prop :=
  (∀ (s : State) (f : Frame) (tn i g : Nat), s.serves f (.tableRead tn i g) →
     (∀ t segs content, tableOf tn = some t → s.segments t i = some segs → segs[g]? = some content →
       exec .tableRead s = .next (s.reply f (.done (content ++ [if g + 1 = segs.length then 1 else 0] ++
         fieldNat 1 (s.writeCount t i) ++ (if t = .watch then watchStateBytes (s.watch i) else []))))) ∧
     ((∀ t segs, tableOf tn = some t → s.segments t i = some segs → segs.length ≤ g) →
       exec .tableRead s = .next (s.reply f (.refuse .badArgument)))) ∧
  (∀ (s : State) (f : Frame),
     (s.serves f .identify → exec .identify s = .next (s.reply f (.done
       [0x3A, 0x41, 0x1C, 0xAC, 0x41, 125, 4, 24, 64, 40, 8, 12, 192, 8, 16, 16, 32, 16, 8, 8, 2, 4]))) ∧
     (∀ v, s.serves f (.clockSet v) → exec .clockSet s =
       .next (({ s with clock := { elapsed := s.clock.elapsed, yard := v, yardSet := true } } : State).reply f
         (.done (fieldNat 4 s.clock.yard ++ [if s.clock.yardSet then 1 else 0])))))

/-- R37, R83, R108, R164: which contents are an entry of the picker, kiln, press and line tables, and which entry each is. That a
byte that codes no named value is refused here and not as bad form is DESIGN CHOICE (log 47).

R176, R177, R178: what a plain write that takes effect leaves besides its entry: Done, a write count one higher (from 255
to 0), and staging discarded. That the line settings entry has index 1 is the model's (DESIGN CHOICE, log 18).

R177, R102, R162: the plain writes that are refused, in the order of the tests. Only staging may be lost by them. -/
def Obligations.PlainWrites : Prop :=
  ((∀ quiet limit route : Nat, quiet < 65536 → limit < 65536 → route < 256 →
     parsePickerConfig (fieldNat 2 quiet ++ fieldNat 2 limit ++ fieldNat 1 route) =
       if 2 ≤ quiet ∧ quiet ≤ 60 ∧ 10 ≤ limit ∧ limit ≤ 600 ∧ quiet < limit ∧ route < 64 then
         some { quiet := quiet, limit := limit, route := BitVec.ofNat 6 route }
       else none) ∧
   (∀ (sched pile capacity yield moisture fan refresh drop wait action period : Nat) (hold top : Int),
     sched < 256 → pile < 256 → capacity < 4294967296 → yield < 65536 → moisture < 65536 → fan < 256 → refresh < 65536 →
     drop < 65536 → wait < 65536 → action < 256 → period < 65536 → -32768 ≤ hold → hold < 32768 → -32768 ≤ top → top < 32768 →
     parseKilnConfig (fieldNat 1 sched ++ fieldNat 1 pile ++ fieldNat 4 capacity ++ fieldNat 2 yield ++ fieldNat 2 moisture ++
         fieldInt 2 hold ++ fieldInt 2 top ++ fieldNat 1 fan ++ fieldNat 2 refresh ++ fieldNat 2 drop ++ fieldNat 2 wait ++
         fieldNat 1 action ++ fieldNat 2 period) =
       if 1 ≤ sched ∧ sched ≤ 8 ∧ (pile = 1 ∨ pile = 2) ∧ 1000 ≤ capacity ∧ capacity ≤ 50000 ∧ 100 ≤ yield ∧ yield ≤ 400 ∧
           moisture ≤ 1000 ∧ 0 ≤ hold ∧ hold ≤ top ∧ top ≤ 1500 ∧ fan ≤ 100 ∧ 5 ≤ refresh ∧ refresh ≤ 60 ∧ 30 ≤ drop ∧
           drop ≤ 900 ∧ (wait = 0 ∨ (60 ≤ wait ∧ wait ≤ 7200)) ∧ (action = 1 ∨ action = 2) ∧ 2 ≤ period ∧ period ≤ 120 then
         some { schedule := sched, pile := if pile = 1 then .b1 else .b2, capacity := capacity, nominalYield := yield,
                moistureTarget := moisture, holdSetpoint := hold, maxSetpoint := top, purgeFan := fan, refresh := refresh,
                dropTimeout := drop, awaitingLimit := wait, bandAction := if action = 1 then .notice else .hold,
                renewalPeriod := period }
       else none) ∧
   (∀ target minimum tare quiet compress tie eject window : Nat, target < 4294967296 → minimum < 4294967296 → tare < 65536 →
     quiet < 65536 → compress < 65536 → tie < 65536 → eject < 65536 → window < 65536 →
     parsePressConfig (fieldNat 4 target ++ fieldNat 4 minimum ++ fieldNat 2 tare ++ fieldNat 2 quiet ++ fieldNat 2 compress ++
         fieldNat 2 tie ++ fieldNat 2 eject ++ fieldNat 2 window) =
       if 200 ≤ target ∧ target ≤ 10000 ∧ minimum ≤ target ∧ tare ≤ 2000 ∧ 1 ≤ quiet ∧ quiet ≤ 30 ∧ 5 ≤ compress ∧
           compress ≤ 300 ∧ 5 ≤ tie ∧ tie ≤ 300 ∧ 5 ≤ eject ∧ eject ≤ 300 ∧ 2 ≤ window ∧ window ≤ 60 then
         some { target := target, minimum := minimum, tare := tare, quiet := quiet, compressTimeout := compress,
                tieTimeout := tie, ejectTimeout := eject, weighWindow := window }
       else none) ∧
   (∀ broadcast window : Nat, broadcast < 256 → window < 65536 →
     parseLineSettings (fieldNat 1 broadcast ++ fieldNat 2 window) =
       if (broadcast = 1 ∨ broadcast = 2) ∧ 2 ≤ window ∧ window ≤ 50 then
         some { broadcastPass := decide (broadcast = 2), replyWindow := window }
       else none)) ∧
  (∀ (s : State) (f : Frame) (tn i : Nat) (content : List Byte), s.serves f (.tableWritePlain tn i content) →
     let written (t : State) (table : TableId) := exec .tableWritePlain s = .next t ∧ s.answeredAs t f (.done []) ∧
       t.writeCount table i = (s.writeCount table i + 1) % 256 ∧
       (∀ u j, countKey u j ≠ countKey table i → t.writeCount u j = s.writeCount u j) ∧
       t.agent.staging = none ∧ (s.agent.staging ≠ none → t.latchedNow 2) ∧ (s.agent.staging = none → t.notice = s.notice) ∧
       t = { s with agent := t.agent, notice := t.notice, line := t.line, pickers := t.pickers, kilns := t.kilns,
                    presses := t.presses }
     (∀ p c, tn = 2 → pickerOf i = some p → parsePickerConfig content = some c → ∃ t, written t .pickerConfig ∧
       t.kilns = s.kilns ∧ t.presses = s.presses ∧ t.line.settings = s.line.settings ∧
       t.picker p = { s.picker p with config := c } ∧ ∀ q, q ≠ p → t.picker q = s.picker q) ∧
     (∀ k c, tn = 3 → kilnOf i = some k → parseKilnConfig content = some c → (s.kiln k).permit.state ≠ .staged →
       (s.kiln k).permit.state ≠ .live → ∃ t, written t .kilnConfig ∧ t.pickers = s.pickers ∧ t.presses = s.presses ∧
       t.line.settings = s.line.settings ∧ t.kiln k = { s.kiln k with config := c } ∧ ∀ j, j ≠ k → t.kiln j = s.kiln j) ∧
     (∀ b c, tn = 5 → pressOf i = some b → parsePressConfig content = some c → ∃ t, written t .pressConfig ∧
       t.pickers = s.pickers ∧ t.kilns = s.kilns ∧ t.line.settings = s.line.settings ∧
       t.press b = { s.press b with config := c } ∧ ∀ a, a ≠ b → t.press a = s.press a) ∧
     (∀ c, tn = 7 → i = 1 → parseLineSettings content = some c → ∃ t, written t .lineSettings ∧
       t.pickers = s.pickers ∧ t.kilns = s.kilns ∧ t.presses = s.presses ∧ t.line.settings = c)) ∧
  (∀ (s : State) (f : Frame) (tn i : Nat) (content : List Byte), s.serves f (.tableWritePlain tn i content) →
     let answers (r : ResultCode) := ∃ t, exec .tableWritePlain s = .next t ∧ s.answeredAs t f (.refuse r) ∧
       (s.agent.staging = none → t = s.reply f (.refuse r)) ∧
       (s.agent.staging ≠ none → s.notice.claimed t.notice 2 ∧
         t = ({ s with agent := { s.agent with staging := none }, notice := t.notice } : State).reply f (.refuse r))
     (tn = 0 ∨ tn = 4 ∨ 7 < tn → answers .badArgument) ∧
     (tn = 1 → i < 2 ∨ 126 < i ∨ parseStation content [] = none → answers .badArgument) ∧
     (∀ e, tn = 1 → 2 ≤ i → i ≤ 126 → parseStation content [] = some e →
       (s.bindsTwice i e = true → answers .badArgument) ∧
       (s.bindsTwice i e = false → s.stationLocked i e = true → answers .locked)) ∧
     (tn = 2 → pickerOf i = none ∨ parsePickerConfig content = none → answers .badArgument) ∧
     (tn = 3 → kilnOf i = none ∨ parseKilnConfig content = none → answers .badArgument) ∧
     (∀ k c, tn = 3 → kilnOf i = some k → parseKilnConfig content = some c →
       (s.kiln k).permit.state = .staged ∨ (s.kiln k).permit.state = .live → answers .locked) ∧
     (tn = 5 → pressOf i = none ∨ parsePressConfig content = none → answers .badArgument) ∧
     (tn = 6 → i < 1 ∨ 24 < i ∨ parseWatch content = none → answers .badArgument) ∧
     (tn = 7 → i ≠ 1 ∨ parseLineSettings content = none → answers .badArgument))

/-- R162, R18, R19: which head and descriptor segments are a Station entry, and which entry they are. That a byte that codes no
named value is refused here and not as bad form is DESIGN CHOICE (log 47).

R162: when an entry is locked, and when it would bind a second station to a role of one unit, in a Station Table in canonical
form (an invariant: StepKeepsTables).

R162, R33, R179: a Station entry that takes effect, by a plain write or at the commit of its last segment: the entry stands,
each of its channels has a fresh sample record while it is Present, and every other channel of the station has none. -/
def Obligations.StationWriteCommits : Prop :=
  ((∀ (channel window poll mask kind : Nat) (low high : Int), channel < 256 → window < 65536 → poll < 65536 → mask < 256 →
     kind < 256 → -2147483648 ≤ low → low < 2147483648 → -2147483648 ≤ high → high < 2147483648 →
     parseDescriptor (fieldNat 1 channel ++ fieldInt 4 low ++ fieldInt 4 high ++ fieldNat 2 window ++ fieldNat 2 poll ++
         fieldNat 1 mask ++ fieldNat 1 kind) =
       if channel ≤ 3 ∧ low ≤ high ∧ 1 ≤ window ∧ window ≤ 255 ∧ poll ≤ 255 ∧ mask ≤ 15 ∧ (kind = 1 ∨ kind = 2) then
         some { channel := channel, rangeLow := low, rangeHigh := high, window := window, pollInterval := poll,
                mask := { low := mask.testBit 0, high := mask.testBit 1, fault := mask.testBit 2, stale := mask.testBit 3 },
                kind := if kind = 1 then .level else .runningTotal }
       else none) ∧
   (∀ (present role unit : Nat) (segments : List (List Byte)) (e : StationEntry), present < 256 → role < 256 → unit < 256 →
     (parseStation (fieldNat 1 present ++ fieldNat 1 role ++ fieldNat 1 unit) segments = some e ↔
       present ≤ 1 ∧ e.present = decide (present = 1) ∧
       (role, e.role) ∈ [(1, Role.beltScale), (2, .wagonReader), (3, .feedDrive), (4, .distributor), (5, .burner), (6, .fan),
         (7, .airTemp), (8, .floorMoisture), (9, .dropScale), (10, .dropGate), (11, .pileFeed), (12, .pressHydraulics),
         (13, .fillScale), (14, .baleScale), (15, .baleMoisture), (16, .other)] ∧
       ((role ≤ 4 ∧ ∃ p, pickerOf unit = some p ∧ e.unit = some (.picker p)) ∨
         (5 ≤ role ∧ role ≤ 10 ∧ ∃ k, kilnOf unit = some k ∧ e.unit = some (.kiln k)) ∨
         (11 ≤ role ∧ role ≤ 15 ∧ ∃ b, pressOf unit = some b ∧ e.unit = some (.press b)) ∨
         (role = 16 ∧ unit = 0 ∧ e.unit = none)) ∧
       ∃ ds, segments.map parseDescriptor = ds.map some ∧ (ds.map Descriptor.channel).Nodup ∧
         (∀ d ∈ ds, d.channel = 0 →
           (e.role ∈ [Role.beltScale, .dropScale, .fillScale] → d.kind = .runningTotal) ∧
           (e.role ∈ [Role.wagonReader, .airTemp, .floorMoisture, .dropGate, .pressHydraulics, .baleScale, .baleMoisture] →
             d.kind = .level)) ∧
         e.descriptors.Perm ds ∧ (e.descriptors.map Descriptor.channel).Pairwise (· < ·)))) ∧
  (∀ (s : State) (i : Nat) (e : StationEntry),
     let atRest : UnitId → Prop := fun u =>
       (∃ p, u = .picker p ∧ (s.picker p).state = .stopped) ∨
         (∃ k, u = .kiln k ∧ ((s.kiln k).state = .awaiting ∨ (s.kiln k).state = .idle)) ∨
         (∃ b, u = .press b ∧ (s.press b).state = .idle)
     (s.stationLocked i e = true ↔ (s.station i).present = true ∧ ∃ u, (s.station i).unit = some u ∧
       ((¬atRest u ∧ (e.present = false ∨ e.role ≠ (s.station i).role ∨ e.unit ≠ some u)) ∨
         ∃ k, u = .kiln k ∧ (s.kiln k).state = .dropping)) ∧
     (s.tablesOk → (s.bindsTwice i e = true ↔ e.present = true ∧ ∃ u j, e.unit = some u ∧ j ≠ i ∧
       (s.station j).present = true ∧ (s.station j).role = e.role ∧ (s.station j).unit = some u))) ∧
  (∀ (s : State) (f : Frame) (i : Nat) (e : StationEntry), 2 ≤ i → i ≤ 126 → s.bindsTwice i e = false →
     s.stationLocked i e = false →
     let committed (c : Instr) := ∃ t, exec c s = .next t ∧ s.answeredAs t f (.done []) ∧ t.station i = e ∧
       t.agent.staging = none ∧ t.writeCount .station i = (s.writeCount .station i + 1) % 256 ∧
       t.chan.exceptions = s.chan.exceptions ∧ (∀ j, j ≠ i → t.station j = s.station j) ∧
       ∀ ch, ch ≤ 3 →
         (e.present = true → (∃ d ∈ e.descriptors, d.channel = ch) →
           ∃ q, t.sample i ch = some q ∧ q.cls = .absent ∧ q.value = none ∧ q.lastGood = none ∧ q.lastReport = none ∧
             q.baseline = none ∧ q.substituted = false) ∧
         (e.present = false ∨ (∀ d ∈ e.descriptors, d.channel ≠ ch) → t.sample i ch = none)
     (∀ content, s.serves f (.tableWritePlain 1 i content) → parseStation content [] = some e →
       committed .tableWritePlain) ∧
     (∀ n content gathered, s.serves f (.tableWriteStaged 1 i n true content) → n ≤ 15 →
       (s.agent.staging = none ∧ n = 0 ∧ gathered = [content]) ∨
         (∃ g, s.agent.staging = some g ∧ g.table = .station ∧ g.index = i ∧ g.next = n ∧
           gathered = g.content ++ [content]) →
       gathered.length ≤ 5 → parseStation (gathered.headD []) (gathered.drop 1) = some e →
       committed .tableWriteStaged))

/-- R82: what a schedule's segments hold of stages of ten bytes makes a schedule, unless a value is out of range, there are more
than 12 stages or one that is not the last has the end test Moisture.

R102: a schedule is locked while the configuration or the cycle of a kiln with a Staged or Live permit names it.

R178, R179, R102, R162: the segments of a staged write, the commit of a schedule, the segments out of order, and the commit of
a schedule or of a Station entry that is refused. A discard changes nothing but the staging, the notice source StagingDiscarded
and the Reply.

R178: the staging timeout. -/
def Obligations.StagedWrites : Prop :=
  ((∀ (temp : Int) (fan duration half grace test : Nat), -32768 ≤ temp → temp < 32768 → fan < 256 → duration < 65536 →
     half < 65536 → grace < 65536 → test < 256 →
     parseStage (fieldInt 2 temp ++ fieldNat 1 fan ++ fieldNat 2 duration ++ fieldNat 2 half ++ fieldNat 2 grace ++
         fieldNat 1 test) =
       if 0 ≤ temp ∧ temp ≤ 1500 ∧ fan ≤ 100 ∧ 60 ≤ duration ∧ duration ≤ 43200 ∧ half ≤ 300 ∧ grace ≤ 600 ∧
           (test = 1 ∨ test = 2) then
         some { setpoint := temp, fan := fan, duration := duration, halfWidth := half, grace := grace,
                endTest := if test = 1 then .time else .moisture }
       else none) ∧
   (∀ (cut : List (List (List Byte))) (stages : List Stage), (∀ c ∈ cut, c.length ≤ 3 ∧ ∀ x ∈ c, x.length = 10) →
     (parseSchedule (cut.map List.flatten) = some stages ↔
       cut.flatten.map parseStage = stages.map some ∧ stages.length ≤ 12 ∧ ∀ g ∈ stages.dropLast, g.endTest = .time))) ∧
  (∀ (s : State) (n : Nat), s.scheduleLocked n = true ↔
     ∃ k, ((s.kiln k).permit.state = .staged ∨ (s.kiln k).permit.state = .live) ∧
       ((s.kiln k).config.schedule = n ∨ (s.kiln k).cycleSchedule = some n)) ∧
  (∀ (s : State) (f : Frame) (tn i n : Nat) (last : Bool) (bs : List Byte), s.serves f (.tableWriteStaged tn i n last bs) →
     let discarded (r : ResultCode) := ∃ t, exec .tableWriteStaged s = .next t ∧ s.notice.claimed t.notice 2 ∧
       t = ({ s with agent := { s.agent with staging := none }, notice := t.notice } : State).reply f (.refuse r)
     (stagedTable tn i = none ∨ 15 < n → exec .tableWriteStaged s = .next (s.reply f (.refuse .badArgument))) ∧
     (∀ t, stagedTable tn i = some t → n = 0 → last = false → s.agent.staging = none →
       exec .tableWriteStaged s =
         .next (({ s with agent := { s.agent with
           staging := some { table := t, index := i, next := 1, lastMoment := s.now, content := [bs] } } } : State).reply f
           { result := .staged, fields := [1] })) ∧
     (∀ t g, stagedTable tn i = some t → n ≤ 15 → s.agent.staging = some g → g.table = t → g.index = i → g.next = n →
       g.content.length < (if t = .station then 5 else 4) → last = false →
       exec .tableWriteStaged s =
         .next (({ s with agent := { s.agent with
           staging := some { g with next := n + 1, lastMoment := s.now, content := g.content ++ [bs] } } } : State).reply f
           { result := .staged, fields := fieldNat 1 (n + 1) })) ∧
     (∀ t g, stagedTable tn i = some t → n ≤ 15 → s.agent.staging = some g → g.table ≠ t ∨ g.index ≠ i ∨ g.next ≠ n →
       discarded .discarded) ∧
     (∀ t, stagedTable tn i = some t → n ≤ 15 → s.agent.staging = none → n ≠ 0 →
       exec .tableWriteStaged s = .next (s.reply f (.refuse .discarded))) ∧
     (∀ t g, stagedTable tn i = some t → n ≤ 15 → s.agent.staging = some g → g.table = t → g.index = i → g.next = n →
       (if t = .station then 5 else 4) ≤ g.content.length → discarded .badArgument) ∧
     (∀ gathered, tn = 4 → 1 ≤ i → i ≤ 8 → n ≤ 15 → last = true →
       (s.agent.staging = none ∧ n = 0 ∧ gathered = [bs]) ∨
         (∃ g, s.agent.staging = some g ∧ g.table = .schedule ∧ g.index = i ∧ g.next = n ∧ gathered = g.content ++ [bs]) →
       gathered.length ≤ 4 →
       (parseSchedule gathered = none → discarded .badArgument) ∧
       (∀ x, parseSchedule gathered = some x → s.scheduleLocked i = true → discarded .locked) ∧
       (∀ x, parseSchedule gathered = some x → s.scheduleLocked i = false →
         ∃ t, exec .tableWriteStaged s = .next t ∧ s.answeredAs t f (.done []) ∧ t.schedule i = x ∧
           t.agent.staging = none ∧ t.notice = s.notice ∧ (∀ j, j ≠ i → t.schedule j = s.schedule j) ∧
           t.writeCount .schedule i = (s.writeCount .schedule i + 1) % 256)) ∧
     (∀ gathered, tn = 1 → 2 ≤ i → i ≤ 126 → n ≤ 15 → last = true →
       (s.agent.staging = none ∧ n = 0 ∧ gathered = [bs]) ∨
         (∃ g, s.agent.staging = some g ∧ g.table = .station ∧ g.index = i ∧ g.next = n ∧ gathered = g.content ++ [bs]) →
       gathered.length ≤ 5 →
       let entry := parseStation (gathered.headD []) (gathered.drop 1)
       (entry = none → discarded .badArgument) ∧
       (∀ e, entry = some e → s.bindsTwice i e = true → discarded .badArgument) ∧
       (∀ e, entry = some e → s.bindsTwice i e = false → s.stationLocked i e = true → discarded .locked))) ∧
  (∀ s : State, (s.agent.staging = none → exec .stagingTimeout s = .next s) ∧
     (∀ g, s.agent.staging = some g →
       (s.now < g.lastMoment + 10 → exec .stagingTimeout s = .next s) ∧
       (g.lastMoment + 10 ≤ s.now → ∃ t, exec .stagingTimeout s = .next t ∧ s.notice.claimed t.notice 2 ∧
         t = { s with agent := { s.agent with staging := none }, notice := t.notice })))

/-- R186, R6, R34, R59, R79, R80, R103, R125, R143, R181: every query answers the part it names of the answer its rule gives on
the state as it stands, and changes nothing but what its clear option clears, after the Reply is formed.

R6, R1, R34, R20, R23, R80, R62, R187: the fields of the Replies that carry a lot record, a sample record with its view, and a
charge record followed by the six bytes of its position, each in one part. The cut into parts (log 16) and the layout of the
position (log 40) are DESIGN CHOICE.

R6: a Lot Query with selector Next answers the record with the lowest lot number above the one named, or NotFound; the table
is in its canonical form (an invariant: StepKeepsTables). -/
def Obligations.QueriesAnswerAndClear : Prop :=
  (∀ (s : State) (f : Frame) (r : Request) (part : Nat) (a : QueryAnswer), s.serves f r → s.query r = some (part, a) →
     (∀ n next, r = .lotQuery part n next → exec .lotQuery s = .next (s.reply f (a.part part))) ∧
     (∀ st ch, r = .sampleQuery part st ch → exec .sampleQuery s = .next (s.reply f (a.part part))) ∧
     (∀ k, r = .floorQuery part k → exec .floorQuery s = .next (s.reply f (a.part part))) ∧
     (∀ n next, r = .chargeQuery part n next → exec .chargeQuery s = .next (s.reply f (a.part part))) ∧
     (∀ k, r = .kilnQuery part k → exec .kilnQuery s = .next (s.reply f (a.part part))) ∧
     (r = .ticketStatus part → exec .ticketStatus s = .next (s.reply f (a.part part))) ∧
     (∀ clear, r = .lineStatus part clear →
       exec .lineStatus s = .next ((if clear then s.counts fun _ => Counters.reset else s).reply f (a.part part))) ∧
     (∀ clear, r = .exceptionRead part clear →
       exec .exceptionRead s = .next ((if clear then
         { s with chan := { s.chan with exceptions := [], overflowed := false } } else s).reply f (a.part part))) ∧
     (∀ n clear, r = .pickerQuery part n clear →
       exec .pickerQuery s = .next ((match pickerOf n, clear with
         | some p, true => s.onPicker p fun x => { x with unattributed := 0 }
         | _, _ => s).reply f (a.part part))) ∧
     (∀ n clear, r = .pressQuery part n clear →
       exec .pressQuery s = .next ((match pressOf n, clear with
         | some b, true => s.onPress b fun x => { x with unbooked := 0 }
         | _, _ => s).reply f (a.part part)))) ∧
  (∀ (s : State) (f : Frame) (n : Nat),
     let code (v : Nat) : List Byte := fieldNat 1 v
     let absent (w : Nat) : List Byte := List.replicate (w + 1) 0
     let first : List Byte := [0, 1]
     let opt (w : Nat) : Option Nat → List Byte := fun o => match o with
       | some v => code 1 ++ fieldNat w v
       | none => absent w
     let optInt : Option Int → List Byte := fun o => match o with
       | some v => code 1 ++ fieldInt 4 v
       | none => absent 4
     let flag (b : Bool) : List Byte := [if b then 1 else 0]
     let classCode : SampleClass → List Byte := fun c => code (match c with
       | .normal => 1 | .zero => 2 | .low => 3 | .high => 4 | .fault => 5 | .stale => 6 | .absent => 7)
     (∀ l, s.serves f (.lotQuery 0 n false) → 1 ≤ n → n ≤ 65534 → s.lot n = some l → exec .lotQuery s =
       .next (s.reply f (.done (first ++ fieldNat 2 n ++ fieldNat 2 l.grower ++ fieldNat 1 l.variety ++
         opt 2 l.moistureOverride ++ code (match l.state with
           | .declared => 1 | .active => 2 | .closing => 3 | .settled => 4) ++
         fieldNat 4 l.opened.toNat ++ fieldNat 1 l.live ++ fieldNat 1 l.bales ++ fieldNat 4 l.green.toNat ++
         fieldNat 4 l.dried.toNat ++ fieldNat 4 l.baleCount.toNat ++ fieldNat 4 l.netBaled.toNat ++
         fieldNat 4 l.unweighed.toNat ++ flag l.reserved)))) ∧
     (∀ r ch, s.serves f (.sampleQuery 0 n ch) → 2 ≤ n → n ≤ 126 → ch ≤ 3 → s.sample n ch = some r → exec .sampleQuery s =
       .next (s.reply f (.done (first ++ classCode r.cls ++ optInt r.value ++
         (match r.lastGood with
           | some g => code 1 ++ fieldInt 4 g.value ++ classCode (if g.isZero then .zero else .normal)
           | none => absent 5) ++
         opt 4 r.lastReport ++ flag r.substituted ++
         (match r.baseline with
           | some b => code 1 ++ fieldInt 4 b.total ++ code (match b.cls with
             | .good => 1 | .low => 2 | .high => 3 | .fault => 4)
           | none => absent 5) ++
         classCode (s.view n ch).cls ++ optInt (s.view n ch).value ++ flag (s.view n ch).substituted)))) ∧
     (∀ c, s.serves f (.chargeQuery 0 n false) → 1 ≤ n → s.charge n = some c →
       ∃ position : List Byte, position.length = 6 ∧ exec .chargeQuery s =
         .next (s.reply f (.done (first ++ fieldNat 2 n ++ fieldNat 2 c.lot ++
           code (match c.picker with | .p1 => 1 | .p2 => 2) ++
           code (match c.kiln with | .k1 => 1 | .k2 => 2 | .k3 => 3 | .k4 => 4 | .k5 => 5 | .k6 => 6) ++
           code (match c.state with | .loading => 1 | .loaded => 2 | .dropping => 3 | .piled => 4) ++
           fieldNat 4 c.green.toNat ++
           opt 1 (c.reason.map fun r => match r with
             | .lotChange => 1 | .full => 2 | .hostClose => 3 | .trip => 4) ++
           fieldNat 1 c.cycles ++ opt 1 (c.pile.map fun b => match b with | .b1 => 1 | .b2 => 2) ++
           opt 4 (c.dried.map BitVec.toNat) ++
           opt 1 (c.source.map fun d => match d with | .measured => 1 | .estimated => 2) ++
           opt 4 (c.drawn.map BitVec.toNat) ++
           code ((if c.substituted then 1 else 0) + (if c.timedOut then 2 else 0) + (if c.timedDry then 4 else 0) +
             (if c.interrupted then 8 else 0)) ++ position))))) ∧
  (∀ (s : State) (f : Frame) (n : Nat), tableWf s.lots = true → s.serves f (.lotQuery 0 n true) →
     (∀ m l, s.lot m = some l → n < m → (∀ j, n < j → j < m → s.lot j = none) →
       exec .lotQuery s = .next (s.reply f ((QueryAnswer.fields (lotBytes m l)).part 0))) ∧
     ((∀ m, n < m → s.lot m = none) → exec .lotQuery s = .next (s.reply f (.refuse .notFound))))

/-! ## Lots -/

/-- R3, R41: Lot Declare: its refusals in order, the new record, and the release of a picker that holds UnknownLot for it. -/
def Obligations.LotDeclareCreatesRecord : Prop :=
  ∀ (s : State) (f : Frame) (n grower variety : Nat) (m : Option Nat), s.serves f (.lotDeclare n grower variety m) →
    let made : Lot :=
      { grower := grower, variety := variety, moistureOverride := m, state := .declared, opened := 0, live := 0,
        bales := 0, green := 0, dried := 0, baleCount := 0, netBaled := 0, unweighed := 0, reserved := false }
    let sound := 1 ≤ n ∧ n ≤ 65534 ∧ 1 ≤ grower ∧ (∀ x, m = some x → x ≤ 1000) ∧ s.lot n = none
    (¬sound → exec .lotDeclare s = .next (s.reply f (.refuse .badArgument))) ∧
    (sound → 64 ≤ s.lots.length → exec .lotDeclare s = .next (s.reply f (.refuse .full))) ∧
    (sound → s.lots.length < 64 → (∀ p, (s.picker p).reasons.unknownLot = false ∨ (s.picker p).refusedLot ≠ some n) →
      exec .lotDeclare s =
        .next (({ s with lots := tablePut s.lots n made } : State).reply f (.done []))) ∧
    (∀ p, sound → s.lots.length < 64 → (s.picker p).reasons.unknownLot = true → (s.picker p).refusedLot = some n →
      ∃ t, exec .lotDeclare s = .next t ∧ s.answeredAs t f (.done []) ∧ (t.lot n).isSome = true ∧
        (t.picker p).reasons.unknownLot = false ∧ (t.picker p).refusedLot = none)

/-- R4, R15, R133: Lot Close: its refusals in order, and the lot Closing, or Settled at once with its ticket where nothing of it
is live. A Starved press with a bale of the lot is left to its own rule
(R116). -/
def Obligations.LotCloseReservesOrSettles : Prop :=
  ∀ (s : State) (f : Frame) (n : Nat), s.serves f (.lotClose n) →
    (s.lot n = none → exec .lotClose s = .next (s.reply f (.refuse .notFound))) ∧
    (∀ l, s.lot n = some l →
      (l.state = .closing ∨ l.state = .settled → exec .lotClose s = .next (s.reply f (.refuse .state))) ∧
      (l.state = .declared ∨ l.state = .active →
        (s.store.nextSerial = none → exec .lotClose s = .next (s.reply f (.refuse .unseeded))) ∧
        (s.store.nextSerial ≠ none → s.store.grants = false →
          ∃ t, exec .lotClose s = .next t ∧ t = { s.reply f (.refuse .full) with notice := t.notice } ∧
            s.notice.claimed t.notice 4) ∧
        (s.store.grants = true →
          (∀ b y, (s.press b).state = .starved → (s.press b).bale = some y → y.lot ≠ n) →
          (0 < l.live ∨ 0 < l.bales → ∃ t, exec .lotClose s = .next t ∧ s.answeredAs t f (.done [3]) ∧
            t.lot n = some { l with state := .closing, reserved := true } ∧
            t.store = { s.store with settlementRes := s.store.settlementRes + 1 }) ∧
          (l.live = 0 → l.bales = 0 → ∃ t, exec .lotClose s = .next t ∧ s.answeredAs t f (.done [4]) ∧
            t.lot n = some { l with state := .settled, reserved := false } ∧
            s.issued t n l.grower
              (.settlement l.opened l.green l.dried l.baleCount l.netBaled l.unweighed) ∧
            t.store.settlementRes = s.store.settlementRes))))

/-- R5: Lot Remove: its refusals in order, and the record freed. -/
def Obligations.LotRemoveFreesRecord : Prop :=
  ∀ (s : State) (f : Frame) (n : Nat), s.serves f (.lotRemove n) →
    (s.lot n = none → exec .lotRemove s = .next (s.reply f (.refuse .notFound))) ∧
    (∀ l, s.lot n = some l → l.state = .active ∨ l.state = .closing ∨
        (∃ p, (s.picker p).currentLot = some n ∨ (s.picker p).pendingLot = some n) →
      exec .lotRemove s = .next (s.reply f (.refuse .state))) ∧
    (∀ l, s.lot n = some l → l.state ≠ .active → l.state ≠ .closing →
      (∀ p, (s.picker p).currentLot ≠ some n ∧ (s.picker p).pendingLot ≠ some n) →
      ∃ t, exec .lotRemove s = .next t ∧ t.lot n = none ∧ (∀ m, m ≠ n → t.lot m = s.lot m) ∧
        t = ({ s with lots := t.lots } : State).reply f (.done []))

/-! ## Pickers -/

/-- R41, R42, R43, R39: a card read at a picker, by the usability of its lot, the picker's state and its loading charge; a card for
the current lot that ends UnknownLot lets a Held picker go on where nothing else holds it.

R50, R51, R9: what a Report on the belt scale books, and when the picker holds for it.

R44, R50: in Clearing each update of the belt scale but a Report of a fresh Zero sets quiet start, and an increment is booked
to the loading charge and its lot without the test against the capacity.

R51, R39: a Low, High, Fault or Stale view that is not substituted adds SensorLost and holds a Running picker; a Report of a
fresh Normal or Zero removes it, and a Held picker goes on where nothing else holds it. -/
def Obligations.PickerTakesUpdates : Prop :=
  (∀ (s : State) (p : PickerId) (v : Int) (settled : Bool) (lot : Nat),
     lot = (if 1 ≤ v ∧ v ≤ 65534 then v.toNat else 65535) →
     let r := s.picker p
     let t := unitTakes .wagonReader (.picker p)
       { view := { cls := .normal, value := some v, substituted := false }, report := true, settled := settled } s
     (s.lotUsable lot = false →
       (t.picker p).reasons = { r.reasons with unknownLot := true } ∧ (t.picker p).refusedLot = some lot ∧
       (t.picker p).currentLot = r.currentLot ∧ (t.picker p).pendingLot = r.pendingLot ∧
       (t.picker p).loading = r.loading ∧
       (r.state = .running → (t.picker p).state = .held ∧ s.feedStopWaits t p ∧ t.latchedNow (srcHeld p)) ∧
       (r.state ≠ .running → (t.picker p).state = r.state) ∧
       (r.reasons.unknownLot = false ∨ r.refusedLot ≠ some lot → t.latchedNow (srcUnknownLot p)) ∧
       (r.reasons.unknownLot = true → r.refusedLot = some lot → r.state ≠ .running → t = s)) ∧
     (s.lotUsable lot = true → (t.picker p).reasons.unknownLot = false ∧ (t.picker p).refusedLot = none) ∧
     (s.lotUsable lot = true → r.currentLot = some lot →
       let cleared : HoldReasons := { r.reasons with unknownLot := false }
       (r.reasons.unknownLot = false → r.refusedLot = none → t = s) ∧
       (r.reasons.unknownLot = false ∨ r.state ≠ .held →
         t = s.onPicker p fun r => { r with refusedLot := none, reasons := cleared }) ∧
       (r.reasons.unknownLot = true → r.state = .held → r.loading ≠ none →
         (cleared = HoldReasons.none →
           t = s.onPicker p fun r => { r with state := .running, refusedLot := none, reasons := cleared }) ∧
         (cleared ≠ HoldReasons.none → t = s.onPicker p fun r => { r with refusedLot := none, reasons := cleared })) ∧
       (r.reasons.unknownLot = true → r.state = .held → r.loading = none →
         (t.picker p).currentLot = r.currentLot ∧ (t.picker p).pendingLot = r.pendingLot ∧
         (r.reasons.operator = true ∨ r.reasons.disabled = true ∨ r.reasons.sensorLost = true →
           t = s.onPicker p fun r => { r with refusedLot := none, reasons := cleared }) ∧
         (r.reasons.operator = false → r.reasons.disabled = false → r.reasons.sensorLost = false →
           ((t.picker p).state = .running ∧ (t.picker p).loading ≠ none) ∨
             ((t.picker p).state = .held ∧ (t.picker p).loading = none)))) ∧
     (s.lotUsable lot = true → r.currentLot ≠ some lot →
       (r.state = .running ∨ (r.state = .held ∧ r.loading ≠ none) →
         (t.picker p).state = .clearing ∧ (t.picker p).pendingLot = some lot ∧ (t.picker p).currentLot = r.currentLot ∧
         (t.picker p).clearanceStart = some s.now ∧ (t.picker p).quietStart = some s.now ∧
         (t.picker p).inForce = some (r.config.quiet, r.config.limit) ∧ s.feedStopWaits t p) ∧
       (r.state = .held → r.loading = none → (t.picker p).currentLot = some lot ∧
         (t.picker p).pendingLot = r.pendingLot ∧
         (r.reasons.operator = true ∨ r.reasons.disabled = true ∨ r.reasons.sensorLost = true →
           (t.picker p).state = .held ∧ (t.picker p).loading = none) ∧
         (r.reasons.operator = false → r.reasons.disabled = false → r.reasons.sensorLost = false →
           (t.picker p).state = .running ∨ (t.picker p).state = .held)) ∧
       (r.state = .clearing ∨ (r.state = .stopped ∧ r.loading ≠ none) →
         t = s.onPicker p fun r => { r with
           pendingLot := some lot, refusedLot := none, reasons := { r.reasons with unknownLot := false } }) ∧
       (r.state = .stopped → r.loading = none →
         t = s.onPicker p fun r => { r with
           currentLot := some lot, pendingLot := none, refusedLot := none,
           reasons := { r.reasons with unknownLot := false } }))) ∧
  (∀ (s : State) (p : PickerId) (u : Update) (v : Int), u.report = true → u.view.value = some v →
     u.view.cls = .normal ∨ (u.view.cls = .zero ∧ u.view.substituted = true) → (s.picker p).state ≠ .clearing →
     u.view.substituted = true ∨ (s.picker p).reasons.sensorLost = false →
     (s.loadingCharge p = none → unitTakes .beltScale (.picker p) u s =
       s.onPicker p fun r => { r with unattributed := r.unattributed + BitVec.ofInt 32 v }) ∧
     (∀ n c l, s.loadingCharge p = some (n, c) → s.lot c.lot = some l → (s.picker p).loading = some n →
       let t := unitTakes .beltScale (.picker p) u s
       ((c.green + BitVec.ofInt 32 v).toNat < (s.kiln c.kiln).config.capacity →
         t.charge n = some { c with
           green := c.green + BitVec.ofInt 32 v, substituted := c.substituted || u.view.substituted } ∧
         t.lot c.lot = some { l with green := l.green + BitVec.ofInt 32 v } ∧ t.pickers = s.pickers ∧ t.kilns = s.kilns ∧
         t.store = s.store ∧ t.line = s.line) ∧
       ((s.kiln c.kiln).config.capacity ≤ (c.green + BitVec.ofInt 32 v).toNat → s.store.nextSerial ≠ none →
         s.issued t c.lot l.grower (.charge n c.picker c.kiln (c.green + BitVec.ofInt 32 v) .full
           (c.substituted || u.view.substituted) c.timedOut)))) ∧
  (∀ (s : State) (p : PickerId) (u : Update), (s.picker p).state = .clearing →
     let t := unitTakes .beltScale (.picker p) u s
     let fresh := u.report = true ∧ u.view.cls = .zero ∧ u.view.substituted = false
     (t.picker p).state = .clearing ∧ (t.picker p).loading = (s.picker p).loading ∧
     (t.picker p).clearanceStart = (s.picker p).clearanceStart ∧
     (fresh → (t.picker p).quietStart = (s.picker p).quietStart) ∧ (¬fresh → (t.picker p).quietStart = some s.now) ∧
     (∀ v n c l, u.report = true → u.view.value = some v →
       u.view.cls = .normal ∨ (u.view.cls = .zero ∧ u.view.substituted = true) → s.loadingCharge p = some (n, c) →
       s.lot c.lot = some l →
       t.charge n = some { c with
         green := c.green + BitVec.ofInt 32 v, substituted := c.substituted || u.view.substituted } ∧
       t.lot c.lot = some { l with green := l.green + BitVec.ofInt 32 v } ∧ t.store = s.store ∧ t.kilns = s.kilns)) ∧
  (∀ (s : State) (p : PickerId) (u : Update), u.view.substituted = false →
     let r := s.picker p
     let t := unitTakes .beltScale (.picker p) u s
     (u.view.cls = .low ∨ u.view.cls = .high ∨ u.view.cls = .fault ∨ u.view.cls = .stale →
       (t.picker p).reasons = { r.reasons with sensorLost := true } ∧ (t.picker p).loading = r.loading ∧ t.pool = s.pool ∧
       t.lots = s.lots ∧ (r.state ≠ .running → (t.picker p).state = r.state) ∧
       (r.state = .running → (t.picker p).state = .held ∧ t.latchedNow (srcHeld p) ∧ s.feedStopWaits t p)) ∧
     (u.view.cls = .absent → (t.picker p).reasons = r.reasons ∧ (t.picker p).state = r.state) ∧
     (u.report = true → u.view.cls = .normal ∨ u.view.cls = .zero → r.reasons.sensorLost = true →
       (t.picker p).reasons.sensorLost = false) ∧
     (u.report = true → u.view.cls = .zero → r.reasons.sensorLost = true →
       (r.state ≠ .held → (t.picker p).state = r.state) ∧
       (r.state = .held → r.loading ≠ none →
         ({ r.reasons with sensorLost := false } = HoldReasons.none → (t.picker p).state = .running) ∧
         ({ r.reasons with sensorLost := false } ≠ HoldReasons.none → (t.picker p).state = .held)) ∧
       (r.state = .held → r.loading = none →
         (r.reasons.operator = true ∨ r.reasons.disabled = true ∨ r.reasons.unknownLot = true →
           (t.picker p).state = .held ∧ (t.picker p).loading = none) ∧
         (r.reasons.operator = false → r.reasons.disabled = false → r.reasons.unknownLot = false →
           ((t.picker p).state = .running ∧ (t.picker p).loading ≠ none) ∨
             ((t.picker p).state = .held ∧ (t.picker p).loading = none)))))

/-- R48, R49, R47: an opening attempt completes on the lowest-numbered kiln that the picker may claim (its own attempt,
woken or repeated), or on the kiln offered to it where it stands first in the wait order, as that is at the moment, among
the pickers whose attempt at this offer has not failed. A picker that does not stand first takes no offer, and one whose
attempt at an offer has failed stands first in it no longer. The marks of an offer are the model's (log 4), and so is that
an attempt on an offered or assigned kiln is repeated over the route set (DESIGN CHOICE, log 34). -/
def Obligations.OpeningCompletes : Prop :=
  (∀ (s : State) (p : PickerId) (k : KilnId) (lot : Nat), s.mayOpen p lot → (s.picker p).needsCharge = true →
    inRoute (s.picker p).config k = true → (s.kiln k).claimable = true →
    (s.passedOver p k = false →
      (∀ j, kilnIndex j < kilnIndex k →
        inRoute (s.picker p).config j = false ∨ (s.kiln j).claimable = false ∨ s.passedOver p j = true) →
      ((s.picker p).woken = true → ∃ t, exec (.openingAttempt p none) s = .next t ∧ s.openedAs t p k lot) ∧
      (∀ n, (s.picker p).retryFrom = some n → n + 1 ≤ s.now →
        ∃ t, exec (.openingRetry p) s = .next t ∧ s.openedAs t p k lot)) ∧
    ((s.kiln k).ring.offered = true → p ∉ (s.kiln k).ring.declined → (s.picker p).reasons.noFloor = true →
      s.passedOver p k = false ∨ otherPicker p ∈ (s.kiln k).ring.declined →
      ∃ t, exec (.openingAttempt p (some k)) s = .next t ∧ s.openedAs t p k lot)) ∧
  (∀ (s : State) (p : PickerId) (k : KilnId),
    ((s.kiln k).ring.offered = false ∨ p ∈ (s.kiln k).ring.declined ∨ (s.picker p).waitsForFloor = false ∨
        inRoute (s.picker p).config k = false ∨
        (s.passedOver p k = true ∧ otherPicker p ∉ (s.kiln k).ring.declined) →
      exec (.openingAttempt p (some k)) s = .next s) ∧
    ∀ t, exec (.openingAttempt p (some k)) s = .next t → s.offerNext k = some p → (t.picker p).loading = none →
      t.offerNext k ≠ some p)

/-- R48, R134: an opening attempt that does not complete leaves the lots, the charges, the Ticket Store and the floors as they
were.

R47, R48: the step at which an attempt fails decides the hold reason, and the picker stays Held; a wait start once set is
kept. -/
def Obligations.FailedOpeningIsUndone : Prop :=
  (∀ (s t : State) (p : PickerId) (offer : Option KilnId),
     exec (.openingAttempt p offer) s = .next t ∨ exec (.openingRetry p) s = .next t →
     (s.picker p).loading = none → (t.picker p).loading = none →
     t.lots = s.lots ∧ t.pool = s.pool ∧ t.store = s.store ∧ t.chan = s.chan ∧
       ∀ k, (t.kiln k).state = (s.kiln k).state ∧ (t.kiln k).ring.slot0 = (s.kiln k).ring.slot0 ∧
         (t.kiln k).ring.slot1 = (s.kiln k).ring.slot1 ∧ (t.kiln k).ring.slot2 = (s.kiln k).ring.slot2 ∧
         (t.kiln k).ring.top = (s.kiln k).ring.top) ∧
  (∀ (s : State) (p : PickerId) (lot : Nat), (s.picker p).currentLot = some lot → (s.picker p).needsCharge = true →
     (s.picker p).woken = true →
     ∃ t, exec (.openingAttempt p none) s = .next t ∧
       let failed (floor : Bool) := (t.picker p).state = .held ∧ (t.picker p).loading = none ∧
         (t.picker p).reasons = { (s.picker p).reasons with noFloor := floor, noTicketSlot := !floor } ∧
         (t.picker p).waitStart = some ((s.picker p).waitStart.getD s.now)
       (6 ≤ s.line.ownDown.length → failed true ∧ (t.picker p).retryFrom = some s.now) ∧
       (s.line.ownDown.length < 6 → s.store.grants = false → failed false ∧
         (s.store.nextSerial ≠ none → t.latchedNow 4) ∧ (s.store.nextSerial = none → t.notice = s.notice)) ∧
       (s.line.ownDown.length < 6 → s.store.grants = true → 40 ≤ s.pool.records.length → failed true) ∧
       (s.line.ownDown.length < 6 → s.store.grants = true → s.pool.records.length < 40 →
         (∀ k, inRoute (s.picker p).config k = false ∨ (s.kiln k).claimable = false ∨ s.passedOver p k = true) →
         failed true) ∧
       (∀ k, s.line.ownDown.length < 6 → s.store.grants = true → s.pool.records.length < 40 →
         inRoute (s.picker p).config k = true → (s.kiln k).claimable = true → s.passedOver p k = false →
         s.lotUsable lot = false →
         (t.picker p).state = .held ∧ (t.picker p).loading = none ∧ (t.picker p).refusedLot = some lot ∧
           (t.picker p).reasons =
             { (s.picker p).reasons with noFloor := false, noTicketSlot := false, unknownLot := true } ∧
           (t.picker p).waitStart = (s.picker p).waitStart ∧ t.latchedNow (srcUnknownLot p)))

/-- R44, R45, R32: the two ends of a clearance: the lot change, the picker's next state, the close of the loading charge with its
ticket, and the flag and notice of a limited end. -/
def Obligations.ClearanceEnds : Prop :=
  ∀ (s : State) (p : PickerId) (a b quiet limit : Nat), (s.picker p).state = .clearing →
    (s.picker p).quietStart = some a → (s.picker p).clearanceStart = some b →
    (s.picker p).inForce = some (quiet, limit) →
    let ends (t : State) := (t.picker p).clearanceStart = none ∧ (t.picker p).quietStart = none ∧
      (t.picker p).pendingLot = none ∧
      (t.picker p).currentLot =
        (if (s.picker p).pendingLot = none then (s.picker p).currentLot else (s.picker p).pendingLot) ∧
      ((s.picker p).stopAfter = true → (t.picker p).state = .stopped ∧ (t.picker p).stopAfter = false ∧
        (t.picker p).loading = none ∧ s.feedStopWaits t p) ∧
      ((s.picker p).stopAfter = false → (s.picker p).reasons.standing = true →
        (t.picker p).state = .held ∧ (t.picker p).loading = none ∧ t.latchedNow (srcHeld p) ∧ s.feedStopWaits t p) ∧
      ((s.picker p).stopAfter = false → (s.picker p).reasons.standing = false →
        (s.picker p).pendingLot ≠ none ∨ (s.picker p).currentLot ≠ none →
        ((t.picker p).state = .running ∧ (t.picker p).loading ≠ none) ∨ (t.picker p).state = .held)
    let ticket (t : State) (late : Bool) := ∀ n c, s.loadingCharge p = some (n, c) → s.store.nextSerial ≠ none →
      s.issued t c.lot (s.growerOf c.lot)
        (.charge n c.picker c.kiln c.green .lotChange c.substituted (c.timedOut || late))
    (s.now < a + quiet → exec (.clearanceQuietEnd p) s = .next s) ∧
    (a + quiet ≤ s.now → s.loadingCharge p ≠ none ∨ (s.picker p).loading = none →
      ∃ t, exec (.clearanceQuietEnd p) s = .next t ∧ ends t ∧ ticket t false) ∧
    (s.now < b + limit → exec (.clearanceLimit p) s = .next s) ∧
    (b + limit ≤ s.now → s.loadingCharge p ≠ none ∨ (s.picker p).loading = none →
      ∃ t, exec (.clearanceLimit p) s = .next t ∧ ends t ∧ ticket t true ∧ t.latchedNow (srcClearanceTimeout p))

/-- R54: Picker Start: its refusals and its three cases.

R56, R39: Picker Hold and Picker Release. -/
def Obligations.PickerStartHoldRelease : Prop :=
  (∀ (s : State) (f : Frame) (i : Nat) (p : PickerId), s.serves f (.pickerStart i) →
     (pickerOf i = none → exec .pickerStart s = .next (s.reply f (.refuse .badArgument))) ∧
     (pickerOf i = some p →
       ((s.picker p).state ≠ .stopped ∨ (s.picker p).currentLot = none →
         exec .pickerStart s = .next (s.reply f (.refuse .state))) ∧
       ((s.picker p).state = .stopped → (s.picker p).currentLot ≠ none →
         ∃ t, exec .pickerStart s = .next t ∧ s.answeredAs t f (.done []) ∧
           ((s.picker p).pendingLot ≠ none → (s.picker p).loading ≠ none →
             (t.picker p).state = .clearing ∧ (t.picker p).clearanceStart = some s.now ∧ s.feedStopWaits t p) ∧
           ((s.picker p).pendingLot = none → (s.picker p).loading ≠ none → (s.picker p).reasons = .none →
             t = (s.onPicker p fun r => { r with state := .running }).reply f (.done [])) ∧
           ((s.picker p).pendingLot = none → (s.picker p).loading ≠ none → (s.picker p).reasons ≠ .none →
             (t.picker p).state = .held ∧ t.latchedNow (srcHeld p) ∧ s.feedStopWaits t p) ∧
           ((s.picker p).loading = none → (s.picker p).reasons.standing = true →
             (t.picker p).state = .held ∧ (t.picker p).loading = none ∧ t.latchedNow (srcHeld p) ∧
               s.feedStopWaits t p) ∧
           ((s.picker p).loading = none → (s.picker p).reasons.standing = false →
             ((t.picker p).state = .running ∧ (t.picker p).loading ≠ none) ∨
               ((t.picker p).state = .held ∧ (t.picker p).loading = none ∧ t.latchedNow (srcHeld p)))))) ∧
  (∀ (s : State) (f : Frame) (i : Nat) (p : PickerId), pickerOf i = some p →
     (s.serves f (.pickerHold i) →
       ((s.picker p).state = .running → ∃ t, exec .pickerHold s = .next t ∧ s.answeredAs t f (.done []) ∧
         t.picker p = { s.picker p with state := .held, reasons := { (s.picker p).reasons with operator := true } } ∧
         t.latchedNow (srcHeld p) ∧ s.feedStopWaits t p) ∧
       ((s.picker p).state ≠ .running → exec .pickerHold s =
         .next ((s.onPicker p fun r => { r with reasons := { r.reasons with operator := true } }).reply f (.done [])))) ∧
     (s.serves f (.pickerRelease i) →
       ∃ t, exec .pickerRelease s = .next t ∧ s.answeredAs t f (.done []) ∧ (t.picker p).feedEnable = true ∧
         (t.picker p).reasons.operator = false ∧ (t.picker p).reasons.disabled = false ∧
         ((s.picker p).reasons.operator = false → (s.picker p).reasons.disabled = false →
           t = (s.onPicker p fun r => { r with feedEnable := true }).reply f (.done [])) ∧
         ((s.picker p).state ≠ .held → (t.picker p).state = (s.picker p).state) ∧
         ((s.picker p).reasons.operator = true ∨ (s.picker p).reasons.disabled = true → (s.picker p).state = .held →
           ((s.picker p).loading ≠ none → (t.picker p).reasons = .none → (t.picker p).state = .running) ∧
           ((s.picker p).loading ≠ none → (t.picker p).reasons ≠ .none → (t.picker p).state = .held))))

/-- R55, R40, R49: Picker Stop in each state; a Stopped picker stands in no offer of a floor. -/
def Obligations.PickerStopCases : Prop :=
  ∀ (s : State) (f : Frame) (i : Nat) (p : PickerId), s.serves f (.pickerStop i) → pickerOf i = some p →
    ((s.picker p).state = .running ∨ (s.picker p).state = .held →
      ∃ t, exec .pickerStop s = .next t ∧ s.answeredAs t f (.done []) ∧ (t.picker p).state = .stopped ∧
        (t.picker p).reasons = { (s.picker p).reasons with noFloor := false, noTicketSlot := false } ∧
        (t.picker p).waitStart = none ∧ (t.picker p).loading = (s.picker p).loading ∧
        (t.picker p).currentLot = (s.picker p).currentLot ∧ s.feedStopWaits t p ∧ t.pool = s.pool ∧
        t.lots = s.lots ∧ t.store = s.store ∧ (∀ q, q ≠ p → t.picker q = s.picker q) ∧
        ∀ k, t.offerNext k ≠ some p ∧ t.kiln k = { s.kiln k with ring := { (s.kiln k).ring with
          offered := (t.kiln k).ring.offered, declined := (t.kiln k).ring.declined } }) ∧
    ((s.picker p).state = .clearing →
      exec .pickerStop s = .next ((s.onPicker p fun r => { r with stopAfter := true }).reply f (.done []))) ∧
    ((s.picker p).state = .stopped → exec .pickerStop s = .next (s.reply f (.done [])))

/-- R57, R53: Charge Close: its refusals, and the close with its Reply and ticket.

R58: Picker Assign: its refusals in order, and the attempt on the named kiln alone. -/
def Obligations.ChargeCloseAndAssign : Prop :=
  (∀ (s : State) (f : Frame) (i : Nat) (p : PickerId), s.serves f (.chargeClose i) → pickerOf i = some p →
     (s.loadingCharge p = none ∨ (s.picker p).state = .clearing →
       exec .chargeClose s = .next (s.reply f (.refuse .state))) ∧
     (∀ n c, s.loadingCharge p = some (n, c) → (s.picker p).state ≠ .clearing → s.store.nextSerial ≠ none →
       ∃ t, exec .chargeClose s = .next t ∧
         s.answeredAs t f (.done (fieldNat 2 n ++ fieldNat 4 c.green.toNat)) ∧
         s.issued t c.lot (s.growerOf c.lot) (.charge n c.picker c.kiln c.green .hostClose c.substituted c.timedOut) ∧
         ((s.picker p).state ≠ .running → (t.picker p).loading = none ∧ (t.picker p).state = (s.picker p).state) ∧
         ((s.picker p).state = .running → (s.picker p).currentLot ≠ none →
           ((t.picker p).state = .running ∧ (t.picker p).loading ≠ none) ∨
             ((t.picker p).state = .held ∧ (t.picker p).loading = none)))) ∧
  (∀ (s : State) (f : Frame) (i j : Nat) (p : PickerId) (k : KilnId), s.serves f (.pickerAssign i j) →
     pickerOf i = some p → kilnOf j = some k →
     (inRoute (s.picker p).config k = false → exec .pickerAssign s = .next (s.reply f (.refuse .badArgument))) ∧
     (inRoute (s.picker p).config k = true → (s.picker p).needsCharge = false ∨ (s.kiln k).claimable = false →
       exec .pickerAssign s = .next (s.reply f (.refuse .state))) ∧
     (∀ lot, inRoute (s.picker p).config k = true → (s.picker p).needsCharge = true → (s.kiln k).claimable = true →
       (s.picker p).currentLot = some lot →
       let answers (r : ResultCode) := ∃ t, exec .pickerAssign s = .next t ∧ s.answeredAs t f (.refuse r) ∧
         (t.picker p).state = .held ∧ (t.picker p).loading = none ∧ t.lots = s.lots ∧ t.pool = s.pool ∧ t.store = s.store
       (s.mayOpen p lot → ∃ t, exec .pickerAssign s = .next t ∧ s.answeredAs t f (.done (fieldNat 2 s.chargeNumber)) ∧
         s.openedAs t p k lot) ∧
       (6 ≤ s.line.ownDown.length → answers .full) ∧
       (s.line.ownDown.length < 6 → s.store.nextSerial = none → answers .unseeded) ∧
       (s.line.ownDown.length < 6 → s.store.nextSerial ≠ none → s.store.grants = false → answers .full) ∧
       (s.line.ownDown.length < 6 → s.store.grants = true → 40 ≤ s.pool.records.length → answers .full) ∧
       (s.line.ownDown.length < 6 → s.store.grants = true → s.pool.records.length < 40 → s.lotUsable lot = false →
         answers .state)))

/-! ## Kilns -/

/-- R92: the Burner and Fan values a kiln injects, by its state; a kiln whose Schedule flag is clear injects nothing.

R92: an injection at its refresh, and an owed one: both Commands are queued with the values in force where places are free and
none waits; as soon as none waits and a place is free an owed Command is queued, or its mark dropped where the kiln injects
nothing at that moment. That a refresh with no station bound starts the interval again and clears the marks (DEDUCED, log 22),
that the refresh interval is the one configured when its passing is tested (DESIGN CHOICE, log 45), that the Burner's Command
joins before the Fan's (DESIGN CHOICE, log 56), and that an owed one goes to the station bound then (DESIGN CHOICE, log 58), are
the model's. -/
def Obligations.InjectionsAreQueued : Prop :=
  (∀ r : Kiln,
     (r.scheduleFlag = false → r.injection = none) ∧
     (r.scheduleFlag = true →
       (r.state = .idle → r.injection = some (0, 0)) ∧
       (r.state = .awaiting ∨ r.state = .loading ∨ r.state = .ready ∨ r.state = .pileFull →
         r.injection = some (r.config.holdSetpoint, r.config.purgeFan)) ∧
       (r.state = .cycling ∨ r.state = .finishing →
         (r.dropOwed = true → r.injection = some (r.config.holdSetpoint, r.config.purgeFan)) ∧
         (∀ c, r.dropOwed = false → r.copy = some c →
           r.injection = some (min c.stage.setpoint r.config.maxSetpoint, c.stage.fan))) ∧
       (r.state = .dropping →
         (r.permit.state ≠ .tripped → r.injection = some (r.config.holdSetpoint, r.config.purgeFan)) ∧
         (r.permit.state = .tripped → r.injection = none)) ∧
       (∀ c, r.state = .hold → r.copy = some c → r.injection = some (r.config.holdSetpoint, c.stage.fan)) ∧
       (r.state = .manual ∨ r.state = .tripped → r.injection = none))) ∧
  (∀ (s : State) (k : KilnId),
     (∀ n, (s.kiln k).lastInjection = some n →
       (s.now < n + (s.kiln k).config.refresh ∨ (s.kiln k).injection = none → exec (.injectionRefresh k) s = .next s) ∧
       (∀ v, n + (s.kiln k).config.refresh ≤ s.now → (s.kiln k).injection = some v →
         (∀ a b, s.bound .burner (.kiln k) = some a → s.bound .fan (.kiln k) = some b → a ≠ b →
           s.injectionWaits a = false → s.injectionWaits b = false → s.line.ownDown.length < 5 →
           exec (.injectionRefresh k) s = .next { s.onKiln k fun r =>
             { r with lastInjection := some s.now, burnerOwed := false, fanOwed := false } with
             line := { s.line with ownDown := s.line.ownDown ++
               [{ frame := ownCommand a v.1, safety := false, injected := true },
                { frame := ownCommand b v.2, safety := false, injected := true }] } }) ∧
         (s.bound .burner (.kiln k) = none → s.bound .fan (.kiln k) = none →
           exec (.injectionRefresh k) s = .next (s.onKiln k fun r =>
             { r with lastInjection := some s.now, burnerOwed := false, fanOwed := false })) ∧
         (∀ a b, s.bound .burner (.kiln k) = some a → s.bound .fan (.kiln k) = some b → 6 ≤ s.line.ownDown.length →
           exec (.injectionRefresh k) s = .next (s.onKiln k fun r =>
             { r with lastInjection := some s.now, burnerOwed := true, fanOwed := true })))) ∧
     (∀ target, (s.kiln k).owes target = true →
       (6 ≤ s.line.ownDown.length ∨
           (∃ a, s.bound (targetRole target) (.kiln k) = some a ∧ s.injectionWaits a = true) →
         exec (.injectionOwedQueued k target) s = .next s) ∧
       ((s.kiln k).injection = none → s.line.ownDown.length < 6 →
         (∀ a, s.bound (targetRole target) (.kiln k) = some a → s.injectionWaits a = false) →
         exec (.injectionOwedQueued k target) s = .next (setOwed k target false s)) ∧
       (∀ v a, (s.kiln k).injection = some v → s.bound (targetRole target) (.kiln k) = some a →
         s.injectionWaits a = false → s.line.ownDown.length < 6 →
         exec (.injectionOwedQueued k target) s = .next { setOwed k target false s with
           line := { s.line with ownDown := s.line.ownDown ++
             [{ frame := ownCommand a (match target with
                 | .burner => v.1
                 | .fan => v.2), safety := false, injected := true }] } })))

/-- R89, R86, R90: the end of a Time stage enters the next stage of the cycle schedule with stage elapsed 0, in Cycling, in Finishing
(with a loaded lower slot) or in Hold; or it completes the cycle.

R90, R91: a Finishing stage that reaches its duration completes the cycle by timed-dry; the lower charge is flagged.

R93, R94: a decided excursion latches Band, and with the band action Hold sends the kiln to Hold.

R87, R86: a kiln becomes overdue when its awaiting limit has passed, and then starts its cycle at stage 1 as soon as the
conditions hold. That the limit is the one configured when its passing is tested is the model's (DESIGN CHOICE, log 45).

R90: an update of FloorMoisture in Finishing: with the lower slot loaded, a fresh good Report at or below the moisture target of
the lower charge's lot, or else of the kiln, completes the cycle, and the charge is not flagged timed-dry; any other does
nothing.

R93: an update of AirTemp while the stage clock runs: Inside ends the excursion; any other outcome opens it, and decides it at
once with a grace of 0. -/
def Obligations.KilnTimers : Prop :=
  (∀ (s : State) (k : KilnId) (c : StageCopy) (g n : Nat), (s.kiln k).clockRuns = true → (s.kiln k).copy = some c →
     (s.kiln k).cycleSchedule = some g → (s.kiln k).stage = some n → (s.kiln k).state = .cycling →
     ((s.kiln k).stageElapsed < c.stage.duration → exec (.stageEnd k) s = .next s) ∧
     (∀ x, c.stage.duration ≤ (s.kiln k).stageElapsed → c.last = false → s.stageOf g (n + 1) = some x →
       ∃ t, exec (.stageEnd k) s = .next t ∧ (s.stageStays k g (n + 1) x → s.inStage t k g (n + 1) 0 x)) ∧
     (c.stage.duration ≤ (s.kiln k).stageElapsed → c.last = true ∨ s.stageOf g (n + 1) = none →
       ∃ t, exec (.stageEnd k) s = .next t ∧ t.latchedNow (srcCycleDone k) ∧ (t.kiln k).excursionStart = none)) ∧
  (∀ (s : State) (k : KilnId) (c : StageCopy), (s.kiln k).clockRuns = true → (s.kiln k).copy = some c →
     (s.kiln k).state = .finishing →
     ((s.kiln k).stageElapsed < c.stage.duration → exec (.timedDryEnd k) s = .next s) ∧
     (c.stage.duration ≤ (s.kiln k).stageElapsed →
       ∃ t, exec (.timedDryEnd k) s = .next t ∧ t.latchedNow (srcCycleDone k) ∧
         ∀ n r, (s.kiln k).ring.lower = .loaded n → s.charge n = some r → (t.charge n).map Charge.timedDry = some true)) ∧
  (∀ (s : State) (k : KilnId) (c : StageCopy) (n : Nat), (s.kiln k).excursionStart = some n → (s.kiln k).copy = some c →
     (s.kiln k).clockRuns = true →
     ((s.kiln k).bandLatched = true ∨ s.now < n + c.stage.grace → exec (.bandExcursionDecided k) s = .next s) ∧
     ((s.kiln k).bandLatched = false → n + c.stage.grace ≤ s.now →
       ∃ t, exec (.bandExcursionDecided k) s = .next t ∧ t.latchedNow (srcBand k) ∧
         ((s.kiln k).config.bandAction = .notice ∨ (s.kiln k).holdOff = false →
           t.kiln k = { s.kiln k with bandLatched := true }) ∧
         ((s.kiln k).config.bandAction = .hold → (s.kiln k).holdOff = true →
           (t.kiln k).holdOff = false ∧ (t.kiln k).state = .hold ∧ (t.kiln k).stageElapsed = (s.kiln k).stageElapsed ∧
           (t.kiln k).excursionStart = none ∧ (t.kiln k).bandLatched = false))) ∧
  (∀ (s : State) (k : KilnId) (n : Nat), (s.kiln k).state = .awaiting → (s.kiln k).awaitingStart = some n →
     ((s.kiln k).config.awaitingLimit = 0 ∨ s.now < n + (s.kiln k).config.awaitingLimit →
       exec (.awaitingOverdue k) s = .next s) ∧
     ((s.kiln k).config.awaitingLimit ≠ 0 → n + (s.kiln k).config.awaitingLimit ≤ s.now →
       ((s.kiln k).permit.state ≠ .live ∨ (s.kiln k).scheduleFlag = false ∨
           s.schedule (s.kiln k).config.schedule = [] ∨ (s.kiln k).capture ≠ none →
         exec (.awaitingOverdue k) s = .next (s.onKiln k fun r => { r with overdue := true })) ∧
       (∀ x, (s.kiln k).permit.state = .live → (s.kiln k).scheduleFlag = true → (s.kiln k).capture = none →
         s.stageOf (s.kiln k).config.schedule 1 = some x → s.stageStays k (s.kiln k).config.schedule 1 x →
         ∃ t, exec (.awaitingOverdue k) s = .next t ∧ s.inStage t k (s.kiln k).config.schedule 1 0 x ∧
           (t.kiln k).overdue = false ∧ (t.kiln k).awaitingStart = none))) ∧
  ((∀ (s : State) (k : KilnId) (u : Update),
     let t := unitTakes .floorMoisture (.kiln k) u s
     ((s.kiln k).state ≠ .finishing ∨ (s.kiln k).clockRuns = false → t = s) ∧
     (∀ n r l, (s.kiln k).state = .finishing → (s.kiln k).clockRuns = true → (s.kiln k).ring.lower = .loaded n →
       s.charge n = some r → s.lot r.lot = some l →
       let dry := u.report = true ∧ (u.view.cls = .normal ∨ u.view.cls = .zero) ∧ u.view.substituted = false ∧
         ∃ v, u.view.value = some v ∧ v ≤ (l.moistureOverride.getD (s.kiln k).config.moistureTarget : Nat)
       (¬dry → t = s) ∧
       (dry → t.latchedNow (srcCycleDone k) ∧ (t.charge n).map Charge.timedDry = some r.timedDry ∧
         (t.kiln k).excursionStart = none ∧ (t.kiln k).bandLatched = false ∧
         ((t.kiln k).dropOwed = true ∨ (t.kiln k).state = .dropping)))) ∧
   (∀ (s : State) (k : KilnId) (u : Update) (c : StageCopy), (s.kiln k).copy = some c →
     let t := unitTakes .airTemp (.kiln k) u s
     let setpoint := min c.stage.setpoint (s.kiln k).config.maxSetpoint
     let outcome := compareBand (setpoint - c.stage.halfWidth) (setpoint + c.stage.halfWidth) u.view
     let opened := some ((s.kiln k).excursionStart.getD s.now)
     ((s.kiln k).clockRuns = false → t = s) ∧
     ((s.kiln k).clockRuns = true → outcome = .inside →
       t = s.onKiln k fun r => { r with excursionStart := none, bandLatched := false }) ∧
     ((s.kiln k).clockRuns = true → outcome ≠ .inside →
       (c.stage.grace ≠ 0 ∨ (s.kiln k).bandLatched = true → t = s.onKiln k fun r => { r with excursionStart := opened }) ∧
       (c.stage.grace = 0 → (s.kiln k).bandLatched = false → t.latchedNow (srcBand k) ∧
         ((s.kiln k).config.bandAction = .notice ∨ (s.kiln k).holdOff = false →
           t.kiln k = { s.kiln k with excursionStart := opened, bandLatched := true }) ∧
         ((s.kiln k).config.bandAction = .hold → (s.kiln k).holdOff = true →
           (t.kiln k).holdOff = false ∧ (t.kiln k).state = .hold ∧ (t.kiln k).stageElapsed = (s.kiln k).stageElapsed ∧
           (t.kiln k).excursionStart = none ∧ (t.kiln k).bandLatched = false)))))

/-- R94: Kiln Release sets HoldOff in every state; a kiln in Hold passes to the state its stage copy gives, to Finishing with a
loaded lower slot.

R95, R86: Kiln Mode in every state: the return from Manual to Hold, Cycling or Finishing, and the cycle a Ready kiln starts. -/
def Obligations.KilnModeAndRelease : Prop :=
  (∀ (s : State) (f : Frame) (i : Nat), s.serves f (.kilnRelease i) →
     (kilnOf i = none → exec .kilnRelease s = .next (s.reply f (.refuse .badArgument))) ∧
     (∀ k, kilnOf i = some k →
       ((s.kiln k).state ≠ .hold →
         exec .kilnRelease s = .next ((s.onKiln k fun r => { r with holdOff := true }).reply f (.done []))) ∧
       (∀ c, (s.kiln k).state = .hold → (s.kiln k).copy = some c →
         stageState true c.last c.stage = .cycling ∨ (s.kiln k).ring.lower ≠ .empty →
         ∃ t, exec .kilnRelease s = .next t ∧ s.answeredAs t f (.done []) ∧ (t.kiln k).holdOff = true ∧
           (t.kiln k).state = stageState true c.last c.stage ∧ (t.kiln k).stageElapsed = (s.kiln k).stageElapsed ∧
           (t.kiln k).copy = some c))) ∧
  (∀ (s : State) (f : Frame) (i : Nat) (manual : Bool) (k : KilnId), s.serves f (.kilnMode i manual) → kilnOf i = some k →
     (manual = true →
       ((s.kiln k).stageRuns = false ∨ (s.kiln k).state = .manual → exec .kilnMode s =
         .next ((s.onKiln k fun r => { r with scheduleFlag := false }).reply f (.done []))) ∧
       ((s.kiln k).stageRuns = true → (s.kiln k).state ≠ .manual → exec .kilnMode s =
         .next ((s.onKiln k fun r => { r with
           scheduleFlag := false, state := .manual, excursionStart := none, bandLatched := false }).reply f (.done [])))) ∧
     (manual = false →
       ∃ t, exec .kilnMode s = .next t ∧ s.answeredAs t f (.done []) ∧ (t.kiln k).scheduleFlag = true ∧
         ((s.kiln k).state = .manual → (s.kiln k).holdOff = false → (t.kiln k).state = .hold ∧
           (t.kiln k).stageElapsed = (s.kiln k).stageElapsed) ∧
         (∀ c, (s.kiln k).state = .manual → (s.kiln k).holdOff = true → (s.kiln k).copy = some c →
           stageState true c.last c.stage = .cycling ∨ (s.kiln k).ring.lower ≠ .empty →
           (t.kiln k).state = stageState true c.last c.stage ∧ (t.kiln k).stageElapsed = (s.kiln k).stageElapsed) ∧
         (∀ x, (s.kiln k).state = .ready ∨ ((s.kiln k).state = .awaiting ∧ (s.kiln k).overdue = true) →
           (s.kiln k).permit.state = .live → (s.kiln k).capture = none →
           s.stageOf (s.kiln k).config.schedule 1 = some x → s.stageStays k (s.kiln k).config.schedule 1 x →
           s.inStage t k (s.kiln k).config.schedule 1 0 x) ∧
         ((s.kiln k).state ≠ .manual → ((s.kiln k).state ≠ .ready ∧ (s.kiln k).overdue = false) ∨
             (s.kiln k).permit.state ≠ .live →
           (t.kiln k).state = (s.kiln k).state ∧ (t.kiln k).stage = (s.kiln k).stage)))

/-- R88, R86: Cycle Now: its refusals, and the start at stage 1, in Cycling, Finishing or Hold, with the loading charge closed and
the capture discarded.

R101, R86, R92: Cycle Resume: its refusals, the captured stage entered at its captured elapsed, in Cycling, Finishing or Hold,
and a captured drop owed: the entry to Cycling is injected, whatever the drop start then asked for does, and an Empty lower slot
takes an empty drop. That this injection comes before the drop start is DEDUCED (log 22), and that its Burner Command joins before
its Fan Command is a DESIGN CHOICE (log 56). -/
def Obligations.CycleNowAndResume : Prop :=
  (∀ (s : State) (f : Frame) (i : Nat) (k : KilnId), s.serves f (.cycleNow i) → kilnOf i = some k →
     (((s.kiln k).state ≠ .awaiting ∧ (s.kiln k).state ≠ .loading ∧ (s.kiln k).state ≠ .ready) ∨
         (s.kiln k).permit.state ≠ .live ∨ (s.kiln k).scheduleFlag = false ∨
         s.schedule (s.kiln k).config.schedule = [] ∨
         (∃ n c, (s.kiln k).ring.upper = .loading n ∧ s.charge n = some c ∧ (s.picker c.picker).state = .clearing) →
       exec .cycleNow s = .next (s.reply f (.refuse .state))) ∧
     (∀ x, (s.kiln k).state = .awaiting ∨ (s.kiln k).state = .loading ∨ (s.kiln k).state = .ready →
       (s.kiln k).permit.state = .live → (s.kiln k).scheduleFlag = true →
       s.stageOf (s.kiln k).config.schedule 1 = some x → s.stageStays k (s.kiln k).config.schedule 1 x →
       (∀ n c, (s.kiln k).ring.upper = .loading n → s.charge n = some c →
         c.kiln = k ∧ (s.picker c.picker).state ≠ .clearing) →
       ∃ t, exec .cycleNow s = .next t ∧ s.answeredAs t f (.done []) ∧
         s.inStage t k (s.kiln k).config.schedule 1 0 x ∧ (t.kiln k).capture = none ∧
         ∀ n c, (s.kiln k).ring.upper = .loading n → s.charge n = some c → s.store.nextSerial ≠ none →
           s.issued t c.lot (s.growerOf c.lot)
             (.charge n c.picker c.kiln c.green .hostClose c.substituted c.timedOut))) ∧
  (∀ (s : State) (f : Frame) (i : Nat) (k : KilnId), s.serves f (.cycleResume i) → kilnOf i = some k →
     (((s.kiln k).state ≠ .ready ∧ (s.kiln k).state ≠ .awaiting) ∨ (s.kiln k).capture = none ∨
         (s.kiln k).permit.state ≠ .live ∨ (s.kiln k).scheduleFlag = false →
       exec .cycleResume s = .next (s.reply f (.refuse .state))) ∧
     (∀ c g n, (s.kiln k).capture = some c → c.schedule = some g → c.stage = some n →
       (s.kiln k).state = .ready ∨ (s.kiln k).state = .awaiting → (s.kiln k).permit.state = .live →
       (s.kiln k).scheduleFlag = true →
       (c.dropOwed = false → (s.schedule g).length < n →
         exec .cycleResume s = .next (s.reply f (.refuse .state))) ∧
       (∀ x, c.dropOwed = false → s.stageOf g n = some x → s.stageStays k g n x → c.elapsed < x.duration →
         ∃ t, exec .cycleResume s = .next t ∧ s.answeredAs t f (.done []) ∧ (t.kiln k).capture = none ∧
           s.inStage t k g n c.elapsed x) ∧
       (c.dropOwed = true → (s.kiln k).ring.lower = .empty → (∀ m, (s.kiln k).ring.upper ≠ .loading m) →
         ∃ t, exec .cycleResume s = .next t ∧ s.answeredAs t f (.done []) ∧ (t.kiln k).capture = none ∧
           (t.kiln k).ring.emptyDrops = (s.kiln k).ring.emptyDrops + 1 ∧ t.notice = s.notice) ∧
       (c.dropOwed = true → ∃ t, exec .cycleResume s = .next t ∧ s.answeredAs t f (.done []) ∧ (t.kiln k).capture = none ∧
         (t.kiln k).lastInjection = some s.now ∧
         (∀ st, s.bound .burner (.kiln k) = some st → s.injectionWaits st = false → s.line.ownDown.length < 6 →
           ∃ e ∈ t.line.ownDown, e.injected = true ∧ e.frame = ownCommand st (s.kiln k).config.holdSetpoint) ∧
         ∀ st, s.bound .fan (.kiln k) = some st → s.bound .burner (.kiln k) ≠ some st → s.injectionWaits st = false →
           s.line.ownDown.length < 5 →
           ∃ e ∈ t.line.ownDown, e.injected = true ∧ e.frame = ownCommand st (s.kiln k).config.purgeFan)))

/-- R69, R71, R91: a drop start asked for again, one second after it found no queue place or when a pile place is freed. That
the pile is not asked where no queue place is free is DESIGN CHOICE (log 48). -/
def Obligations.DropStartIsTaken : Prop :=
  ∀ (s : State) (k : KilnId) (n : Nat) (r : Charge) (c : Instr),
    (c = .dropStartRetry k ∧ (s.kiln k).state ≠ .dropping ∧ (s.kiln k).dropOwed = true ∧
        (∃ m, (s.kiln k).dropRetryFrom = some m ∧ m + 1 ≤ s.now)) ∨
      (c = .pilefullRetry k ∧ (s.kiln k).state = .pileFull ∧ (s.kiln k).pileWoken = true) →
    (s.kiln k).ring.lower = .loaded n → (∀ m, (s.kiln k).ring.upper ≠ .loading m) → s.charge n = some r →
    let pile := (s.kiln k).config.pile
    ((s.bound .dropGate (.kiln k)).isSome = true → 6 ≤ s.line.ownDown.length →
      exec c s = .next (s.onKiln k fun x => { x with dropRetryFrom := some s.now, pileWoken := false })) ∧
    (s.bound .dropGate (.kiln k) = none ∨ s.line.ownDown.length < 6 → 8 ≤ (s.press pile).placesUsed →
      ∃ t, exec c s = .next t ∧ (t.kiln k).state = .pileFull ∧ t.presses = s.presses ∧ t.pool = s.pool ∧
        ((s.kiln k).state ≠ .pileFull → t.latchedNow (srcPileFull k))) ∧
    (s.bound .dropGate (.kiln k) = none ∨ s.line.ownDown.length < 6 → (s.press pile).placesUsed < 8 →
      ∃ t, exec c s = .next t ∧ (t.kiln k).state = .dropping ∧ (t.kiln k).dropOwed = false ∧
        (t.kiln k).stage = none ∧ (t.kiln k).copy = none ∧ (t.kiln k).cycleSchedule = none ∧
        (t.kiln k).ring.drop = some { charge := n, pile := pile, start := s.now,
                                      timeout := (s.kiln k).config.dropTimeout, measured := false } ∧
        (t.kiln k).ring.gateCloseOwed = false ∧
        t.charge n = some { r with state := .dropping, pile := some pile, dried := some 0 } ∧
        (t.press pile).inFlight = (s.press pile).inFlight + 1 ∧
        ∀ st, s.bound .dropGate (.kiln k) = some st → ∃ e ∈ t.line.ownDown, e.frame = ownCommand st 1)

/-- R70, R91, R68, R90: a cycle that completes with the lower slot Empty (by the end of its last Time stage, by the advance to
a Moisture stage, by the duration or an update of FloorMoisture in Finishing, or by a return to a Moisture stage) takes an
empty drop at once: CycleDone is latched, the ring turns, the count rises, every charge has passed the cycle, the kiln is
Awaiting or Idle, and nothing of the piles, the gate, the lots or the store changes. -/
def Obligations.EmptyDropTurnsTheRing : Prop :=
  ∀ (s : State) (k : KilnId) (c : StageCopy), (s.kiln k).copy = some c → (s.kiln k).permit.state = .live →
    (s.kiln k).dropOwed = false → (s.kiln k).ring.lower = .empty → (∀ j, (s.kiln k).ring.upper ≠ .loading j) →
    let turned (t : State) := t.latchedNow (srcCycleDone k) ∧ (t.kiln k).ring.top = (s.kiln k).ring.top + 2 ∧
      (t.kiln k).ring.upper = .empty ∧ (t.kiln k).ring.slot 0 = (s.kiln k).ring.slot 0 ∧
      (t.kiln k).ring.slot 1 = (s.kiln k).ring.slot 1 ∧ (t.kiln k).ring.slot 2 = (s.kiln k).ring.slot 2 ∧
      (t.kiln k).ring.drop = (s.kiln k).ring.drop ∧
      (t.kiln k).ring.dropsCompleted = (s.kiln k).ring.dropsCompleted ∧
      (t.kiln k).ring.emptyDrops = (s.kiln k).ring.emptyDrops + 1 ∧
      (t.kiln k).state = (if (s.kiln k).ring.occupied then .awaiting else .idle) ∧
      (t.kiln k).dropOwed = false ∧ (t.kiln k).stage = none ∧ (t.kiln k).copy = none ∧ (t.kiln k).cycleSchedule = none ∧
      (t.kiln k).excursionStart = none ∧ (t.kiln k).bandLatched = false ∧
      t.presses = s.presses ∧ t.lots = s.lots ∧ t.store = s.store ∧ t.pool.next = s.pool.next ∧
      ((s.kiln k).ring.charges.Nodup → ∀ n, t.charge n = (s.charge n).map fun r =>
        { r with cycles := if n ∈ (s.kiln k).ring.charges then min (r.cycles + 1) 3 else r.cycles }) ∧
      ∀ e ∈ t.line.ownDown, e ∈ s.line.ownDown ∨ e.injected = true
    (∀ g n, (s.kiln k).state = .cycling → c.stage.duration ≤ (s.kiln k).stageElapsed → (s.kiln k).cycleSchedule = some g →
      (s.kiln k).stage = some n → c.last = true ∨ s.stageOf g (n + 1) = none →
      ∃ t, exec (.stageEnd k) s = .next t ∧ turned t) ∧
    (∀ g n x, (s.kiln k).state = .cycling → c.stage.duration ≤ (s.kiln k).stageElapsed →
      (s.kiln k).cycleSchedule = some g → (s.kiln k).stage = some n → c.last = false → s.stageOf g (n + 1) = some x →
      ¬s.stageStays k g (n + 1) x → ∃ t, exec (.stageEnd k) s = .next t ∧ turned t) ∧
    ((s.kiln k).state = .finishing → c.stage.duration ≤ (s.kiln k).stageElapsed →
      ∃ t, exec (.timedDryEnd k) s = .next t ∧ turned t) ∧
    ((s.kiln k).state = .finishing → ∀ u, turned (unitTakes .floorMoisture (.kiln k) u s)) ∧
    (c.last = true → c.stage.endTest = .moisture → ∀ f i, kilnOf i = some k →
      ((s.kiln k).state = .hold → s.serves f (.kilnRelease i) →
        ∃ t, exec .kilnRelease s = .next t ∧ s.answeredAs t f (.done []) ∧ turned t) ∧
      ((s.kiln k).state = .manual → (s.kiln k).holdOff = true → s.serves f (.kilnMode i false) →
        ∃ t, exec .kilnMode s = .next t ∧ s.answeredAs t f (.done []) ∧ turned t))

/-- R72, R74, R75, R76: a drop ends at a Report of its DropGate that is Normal, fresh and Clear, or by its timeout, which is
flagged and latched; it completes with the mass booked so far, or with the estimate where no good update came, appends the charge
at the tail of its pile, and queues the gate's Close, or owes it where no place is free.

R73: a Report of the DropScale while the drop is in progress books a Normal view's value to the dropping charge and marks the
drop measured on a Normal or Zero view; any other update books nothing. -/
def Obligations.DropTimeoutCompletes : Prop :=
  ∀ (s : State) (k : KilnId) (d : Drop) (r : Charge) (l : Lot), (s.kiln k).ring.drop = some d → s.charge d.charge = some r →
    s.lot r.lot = some l →
    let mass : Word := if d.measured then r.dried.getD 0
      else BitVec.ofNat 32 (r.green.toNat * (s.kiln k).config.nominalYield / 1000)
    let completed (t : State) (interrupted : Bool) := (t.kiln k).ring.drop = none ∧
      (t.kiln k).ring.top = (s.kiln k).ring.top + 2 ∧ (t.kiln k).ring.upper = .empty ∧
      (t.kiln k).ring.dropsCompleted = (s.kiln k).ring.dropsCompleted + 1 ∧
      (t.lot r.lot).map Lot.dried = some (l.dried + mass) ∧
      (t.press d.pile).inFlight = (s.press d.pile).inFlight - 1 ∧
      ((s.kiln k).permit.state = .tripped → (t.kiln k).state = .tripped) ∧
      ((s.kiln k).permit.state ≠ .tripped → (t.kiln k).state = .awaiting ∨ (t.kiln k).state = .idle) ∧
      ((s.press d.pile).state ≠ .starved →
        (∀ h ∈ (s.press d.pile).entries.head?, h ≠ d.charge ∧ (s.charge h).bind Charge.dried ≠ some 0) →
        ((s.press d.pile).entries = [] → mass ≠ 0) →
        (t.press d.pile).entries = (s.press d.pile).entries ++ [d.charge] ∧ t.charge d.charge = some { r with
          state := .piled, dried := some mass, drawn := some 0, interrupted := interrupted,
          source := some (if d.measured then .measured else .estimated) }) ∧
      ((s.press d.pile).entries = [] → mass = 0 → (t.press d.pile).entries = [] ∧ t.charge d.charge = none) ∧
      (∀ st, s.bound .dropGate (.kiln k) = some st →
        (∃ e ∈ t.line.ownDown, e.frame = ownCommand st 0) ∨ (t.kiln k).ring.gateCloseOwed = true) ∧
      ((∀ b, (s.press b).state ≠ .starved) →
        (∀ st, s.bound .dropGate (.kiln k) = some st →
          (s.line.ownDown.length < 6 → (t.kiln k).ring.gateCloseOwed = (s.kiln k).ring.gateCloseOwed ∧
            ∃ rest, t.line.ownDown = s.line.ownDown ++
              { frame := ownCommand st 0, safety := false, injected := false } :: rest ∧ ∀ e ∈ rest, e.injected = true) ∧
          (6 ≤ s.line.ownDown.length → (t.kiln k).ring.gateCloseOwed = true ∧ t.line.ownDown = s.line.ownDown)) ∧
        (s.bound .dropGate (.kiln k) = none →
          ∃ rest, t.line.ownDown = s.line.ownDown ++ rest ∧ ∀ e ∈ rest, e.injected = true))
    (s.now < d.start + d.timeout → exec (.dropTimeout k) s = .next s) ∧
    (d.start + d.timeout ≤ s.now →
      ∃ t, exec (.dropTimeout k) s = .next t ∧ t.latchedNow (srcDropTimeout k) ∧ completed t true) ∧
    (∀ u : Update,
      let clear := u.report = true ∧ u.view.cls = .normal ∧ u.view.substituted = false ∧ u.view.value = some 2
      let gate := unitTakes .dropGate (.kiln k) u s
      let scale := unitTakes .dropScale (.kiln k) u s
      let measured (c : Charge) : State := (s.onCharge d.charge fun _ => c).onRing k fun x =>
        { x with drop := some { d with measured := true } }
      (clear → completed gate r.interrupted) ∧ (¬clear → gate = s) ∧
      (∀ v, u.report = true → u.view.cls = .normal → u.view.value = some v →
        scale = measured { r with dried := some (r.dried.getD 0 + BitVec.ofInt 32 v) }) ∧
      (u.report = true → u.view.cls = .zero → scale = s.onRing k fun x => { x with drop := some { d with measured := true } }) ∧
      (u.report = false ∨ (u.view.cls ≠ .normal ∧ u.view.cls ≠ .zero) → scale = s))

/-- R96, R97: Permit Stage and a correct renewal.

R97: before its period has passed the timer does nothing; R99: Permit Withdraw in each state.

R98, R86, R87: Permit Confirm: a permit Staged and proved at least twice becomes Live, its timer and parity kept, and a Ready or
overdue kiln starts its cycle; anything else is refused. -/
def Obligations.PermitRequests : Prop :=
  (∀ (s : State) (f : Frame) (i : Nat) (k : KilnId), kilnOf i = some k →
     (s.serves f (.permitStage i) →
       ((s.kiln k).permit.state ≠ .off → exec .permitStage s = .next (s.reply f (.refuse .state))) ∧
       ((s.kiln k).permit.state = .off → exec .permitStage s = .next ((s.onKiln k fun r => { r with
         permit := { state := .staged, timer := some s.now, parity := .odd, proving := 0 } }).reply f (.done [])))) ∧
     (∀ (c : Instr) (parity : Parity),
       (c = .permitRenewOdd ∧ parity = .odd ∧ s.serves f (.permitRenewOdd i)) ∨
         (c = .permitRenewEven ∧ parity = .even ∧ s.serves f (.permitRenewEven i)) →
       ((s.kiln k).permit.state = .off ∨ (s.kiln k).permit.state = .tripped →
         exec c s = .next (s.reply f (.refuse .state))) ∧
       ((s.kiln k).permit.state = .staged → (s.kiln k).permit.parity = parity →
         exec c s = .next ((s.onKiln k fun r => { r with
           permit := { state := .staged, timer := some s.now, parity := if parity = .odd then .even else .odd,
                       proving := min (r.permit.proving + 1) 255 } }).reply f (.done [2]))) ∧
       ((s.kiln k).permit.state = .live → (s.kiln k).permit.parity = parity →
         exec c s = .next ((s.onKiln k fun r => { r with
           permit := { state := .live, timer := some s.now, parity := if parity = .odd then .even else .odd,
                       proving := r.permit.proving } }).reply f (.done [3]))))) ∧
  (∀ (s : State) (k : KilnId),
     (∀ n, (s.kiln k).permit.timer = some n → s.now < n + (s.kiln k).config.renewalPeriod →
       exec (.permitTimerExpiry k) s = .next s) ∧
     (∀ f i, kilnOf i = some k → s.serves f (.permitWithdraw i) →
       ((s.kiln k).permit.state = .off → exec .permitWithdraw s = .next (s.reply f (.done []))) ∧
       ((s.kiln k).permit.state = .tripped → exec .permitWithdraw s = .next (s.reply f (.refuse .state))) ∧
       ((s.kiln k).permit.state = .staged ∨ (s.kiln k).permit.state = .live →
         (s.kiln k).state = .cycling ∨ (s.kiln k).state = .finishing →
         exec .permitWithdraw s = .next ((s.onKiln k fun r => { r with
           permit := { r.permit with state := .off, timer := none }, excursionStart := none,
           bandLatched := false }).reply f (.done []))) ∧
       ((s.kiln k).permit.state = .staged ∨ (s.kiln k).permit.state = .live →
         (s.kiln k).state ≠ .cycling → (s.kiln k).state ≠ .finishing →
         exec .permitWithdraw s = .next ((s.onKiln k fun r => { r with
           permit := { r.permit with state := .off, timer := none } }).reply f (.done []))))) ∧
  (∀ (s : State) (f : Frame) (i : Nat) (k : KilnId), s.serves f (.permitConfirm i) → kilnOf i = some k →
     ((s.kiln k).permit.state ≠ .staged ∨ (s.kiln k).permit.proving < 2 →
       exec .permitConfirm s = .next (s.reply f (.refuse .state))) ∧
     ((s.kiln k).permit.state = .staged → 2 ≤ (s.kiln k).permit.proving →
       ((s.kiln k).state ≠ .ready → (s.kiln k).overdue = false → exec .permitConfirm s =
         .next ((s.onKiln k fun r => { r with permit := { r.permit with state := .live } }).reply f (.done []))) ∧
       ∃ t, exec .permitConfirm s = .next t ∧ s.answeredAs t f (.done []) ∧
         (t.kiln k).permit = { (s.kiln k).permit with state := .live } ∧
         ∀ x, (s.kiln k).state = .ready ∨ ((s.kiln k).state = .awaiting ∧ (s.kiln k).overdue = true) →
           (s.kiln k).scheduleFlag = true → (s.kiln k).capture = none →
           s.stageOf (s.kiln k).config.schedule 1 = some x → s.stageStays k (s.kiln k).config.schedule 1 x →
           s.inStage t k (s.kiln k).config.schedule 1 0 x))

/-- R97, R100, R93: a renewal of the wrong parity, and the passing of the renewal period: Staged lapses to Off with PermitLapse and
nothing else changed but the excursion of a stage whose clock stops, and Live trips; the Reply of the renewal carries the permit
state after the failure. Orders to two stations do not fall on one address in a Station Table in canonical form
(StepKeepsTables). -/
def Obligations.PermitLapsesOrTrips : Prop :=
  ∀ (s : State) (k : KilnId) (c : Instr), s.tablesOk → (s.kiln k).config.purgeFan ≤ 100 →
    (c = .permitTimerExpiry k ∧ ∃ n, (s.kiln k).permit.timer = some n ∧ n + (s.kiln k).config.renewalPeriod ≤ s.now) ∨
      (∃ f i, kilnOf i = some k ∧
        ((c = .permitRenewOdd ∧ (s.kiln k).permit.parity = .even ∧ s.serves f (.permitRenewOdd i)) ∨
         (c = .permitRenewEven ∧ (s.kiln k).permit.parity = .odd ∧ s.serves f (.permitRenewEven i)))) →
    let stops := (s.kiln k).state = .cycling ∨ (s.kiln k).state = .finishing
    let lapsed := s.onKiln k fun r => { r with
      permit := { r.permit with state := .off, timer := none }
      excursionStart := if stops then none else r.excursionStart
      bandLatched := if stops then false else r.bandLatched }
    ((s.kiln k).permit.state = .staged → ∃ t, exec c s = .next t ∧ s.notice.claimed t.notice (srcPermitLapse k) ∧
      (c = .permitTimerExpiry k → t = { lapsed with notice := t.notice }) ∧
      (c ≠ .permitTimerExpiry k → ∀ f, s.agent.requests.head? = some f →
        t = { lapsed.reply f (.done [1]) with notice := t.notice })) ∧
    ((s.kiln k).permit.state = .live → ∃ t, exec c s = .next t ∧ t.latchedNow (srcTrip k) ∧
      (c = .permitTimerExpiry k → t.line.ownUp = s.line.ownUp ∧ t.agent = s.agent) ∧
      (c ≠ .permitTimerExpiry k → ∀ f, s.agent.requests.head? = some f → s.answeredAs t f (.done [4])) ∧
      (t.kiln k).permit = { (s.kiln k).permit with state := .tripped, timer := none } ∧
      (∀ st, s.bound .burner (.kiln k) = some st → t.safetyWaits st 0) ∧
      (∀ st, s.bound .fan (.kiln k) = some st → t.safetyWaits st (s.kiln k).config.purgeFan) ∧
      ((s.kiln k).state.captured = true → (t.kiln k).capture = some
        { state := (s.kiln k).state, schedule := (s.kiln k).cycleSchedule, stage := (s.kiln k).stage,
          elapsed := (s.kiln k).stageElapsed, dropOwed := (s.kiln k).dropOwed }) ∧
      ((s.kiln k).state.captured = false → (t.kiln k).capture = (s.kiln k).capture) ∧
      ((s.kiln k).state = .dropping → (∀ n, (s.kiln k).ring.upper ≠ .loading n) →
        (t.kiln k).state = .dropping ∧ (t.kiln k).ring = (s.kiln k).ring) ∧
      ((s.kiln k).state ≠ .dropping → (t.kiln k).state = .tripped ∧ (t.kiln k).stage = none ∧ (t.kiln k).copy = none ∧
        (t.kiln k).cycleSchedule = none ∧ (t.kiln k).dropOwed = false ∧ (t.kiln k).excursionStart = none ∧
        (t.kiln k).awaitingStart = none) ∧
      (∀ n r, (s.kiln k).ring.upper = .loading n → s.charge n = some r → s.store.nextSerial ≠ none →
        s.issued t r.lot (s.growerOf r.lot) (.charge n r.picker r.kiln r.green .trip r.substituted r.timedOut)))

/-! ## Piles and presses -/

/-- R111, R112, R133, R12: the fill start that is due: the bale made from the head of the pile, the reservation, the lot's
count and the Run order; a refused press waits for the store. The mark that makes the test due is the model's (log 28). -/
def Obligations.FillStartTakesHead : Prop :=
  ∀ (s : State) (b : PressId) (c : Nat) (rest : List Nat) (r : Charge), (s.press b).fillDue = true →
    (s.press b).entries = c :: rest → s.charge c = some r →
    ((s.press b).state ≠ .idle ∨ (s.press b).auto = false ∨ (s.press b).slot ≠ none → exec (.fillStart b) s = .next s) ∧
    ((s.press b).state = .idle → (s.press b).auto = true → (s.press b).slot = none →
      (s.store.grants = false → ∃ t, exec (.fillStart b) s = .next t ∧
        (s.store.nextSerial ≠ none → s.notice.claimed t.notice 4) ∧ (s.store.nextSerial = none → t.notice = s.notice) ∧
        t = { s.onPress b fun x => { x with fillDue := false, reservationWait := true } with notice := t.notice }) ∧
      (s.store.grants = true → ∃ t, exec (.fillStart b) s = .next t ∧ (t.press b).state = .filling ∧
        (t.press b).bale = some
          { number := (s.press b).nextBale, lot := r.lot, contents := [{ charge := c, drawn := 0 }], fill := 0,
            endReason := none, short := false, overdraw := false, estimated := r.source == some .estimated,
            faulted := false, gross := none, net := none, moisture := none } ∧
        (t.press b).nextBale = (if (s.press b).nextBale < 65535 then (s.press b).nextBale + 1 else 1) ∧
        (t.press b).feedRun = true ∧ (t.press b).reservationWait = false ∧ (t.press b).fillDue = false ∧
        (t.press b).entries = c :: rest ∧ t.store = { s.store with baleRes := s.store.baleRes + 1 } ∧
        t.lot r.lot = (s.lot r.lot).map (fun l => { l with bales := l.bales + 1 }) ∧
        (s.bound .pileFeed (.press b) = none → (t.press b).runOwed = false ∧ t.line = s.line) ∧
        (∀ st, s.bound .pileFeed (.press b) = some st →
          (s.line.ownDown.length < 6 → (t.press b).runOwed = false ∧ t.line.ownDown = s.line.ownDown ++
            [{ frame := ownCommand st 1, safety := false, injected := false }]) ∧
          (6 ≤ s.line.ownDown.length → (t.press b).runOwed = true ∧ t.line = s.line))))

/-- R75, R81: an owed gate Close is queued at the first free place, to the station bound then (DESIGN CHOICE, log 38).

R112, R118: an owed Run order or phase order is queued at the first free place outside the safety places, to the station bound
then (DESIGN CHOICE, log 58).

R172, R61, R81: an order that found no free place at a Line Reset is queued at the first free place (log 24), to the station
bound then (DESIGN CHOICE, log 58). -/
def Obligations.OwedOrdersAreQueued : Prop :=
  (∀ (s : State) (k : KilnId),
     ((s.kiln k).ring.gateCloseOwed = false ∨ 6 ≤ s.line.ownDown.length →
       exec (.gateCloseOwedQueued k) s = .next s) ∧
     (∀ st, (s.kiln k).ring.gateCloseOwed = true → s.line.ownDown.length < 6 → s.bound .dropGate (.kiln k) = some st →
       exec (.gateCloseOwedQueued k) s = .next { s.onRing k fun r => { r with gateCloseOwed := false } with
         line := { s.line with ownDown := s.line.ownDown ++
           [{ frame := ownCommand st 0, safety := false, injected := false }] } })) ∧
  (∀ (s : State) (b : PressId),
     ((s.press b).runOwed = false ∨ 6 ≤ s.line.ownDown.length → exec (.pileFeedRunOwedQueued b) s = .next s) ∧
     (∀ st, (s.press b).runOwed = true → s.line.ownDown.length < 6 → s.bound .pileFeed (.press b) = some st →
       exec (.pileFeedRunOwedQueued b) s = .next { s.onPress b fun r => { r with feedRun := true, runOwed := false } with
         line := { s.line with ownDown := s.line.ownDown ++
           [{ frame := ownCommand st 1, safety := false, injected := false }] } }) ∧
     ((s.press b).phaseOwed = false ∨ 6 ≤ s.line.ownDown.length → exec (.phaseOrderOwedQueued b) s = .next s) ∧
     (∀ ph st, phaseOf (s.press b).state = some ph → (s.press b).phaseOwed = true → s.line.ownDown.length < 6 →
       s.bound .pressHydraulics (.press b) = some st →
       exec (.phaseOrderOwedQueued b) s = .next { s.onPress b fun r => { r with phaseOwed := false } with
         line := { s.line with ownDown := s.line.ownDown ++
           [{ frame := ownCommand st (match ph with
               | .compress => 1
               | .tie => 2
               | .eject => 3), safety := false, injected := false }] } })) ∧
  (∀ s : State,
     (∀ k st, (s.kiln k).ring.gateRestore = true → s.line.ownDown.length < 6 → s.bound .dropGate (.kiln k) = some st →
       exec (.lineResetRestoreQueued (.kiln k)) s = .next { s.onRing k fun r => { r with gateRestore := false } with
         line := { s.line with ownDown := s.line.ownDown ++ [{
           frame := ownCommand st (if (s.kiln k).ring.drop.isSome then 1 else 0), safety := false, injected := false }] } }) ∧
     (∀ p n c st, (s.picker p).distributorOwed = true → s.line.ownDown.length < 6 → s.loadingCharge p = some (n, c) →
       s.bound .distributor (.picker p) = some st →
       exec (.lineResetRestoreQueued (.picker p)) s = .next { s.onPicker p fun r => { r with distributorOwed := false } with
         line := { s.line with ownDown := s.line.ownDown ++ [{
           frame := ownCommand st (kilnIndex c.kiln + 1), safety := false, injected := false }] } }) ∧
     (∀ u, 6 ≤ s.line.ownDown.length → exec (.lineResetRestoreQueued u) s = .next s))

/-- R113, R114, R115, R78: a Report of the fill scale while the feed runs: what it books, the end at the target, and, after the
retirement of the head, the first of the five cases that holds. Masses of a bale, of its content entries and of a charge's
drawing are kept modulo 2^32 (DEDUCED, log 14).

R116: a Starved press and the append of a dropped charge (here at the drop's timeout), which resumes the fill, ends it LotBreak,
or leaves it waiting where the dried mass is 0; and the Lot Close of its lot with no charge left on a floor, which ends it
LotEnd, where the Lot Close of another lot leaves it waiting. Two stations do not share an address in a Station Table in canonical form (StepKeepsTables). -/
def Obligations.FillReportIsBooked : Prop :=
  (∀ (s : State) (b : PressId) (x : Bale) (pre : List Content) (e : Content) (c : Charge) (u : Update) (v : Int),
     u.report = true → u.view.cls = .normal → u.view.value = some v → (s.press b).state = .filling →
     (s.press b).feedRun = true → (s.press b).bale = some x → x.endReason = none → x.contents = pre ++ [e] →
     s.charge e.charge = some c →
     let t := unitTakes .fillScale (.press b) u s
     let booked : Bale := { x with fill := x.fill + BitVec.ofInt 32 v,
                                   contents := pre ++ [{ e with drawn := e.drawn + BitVec.ofInt 32 v }] }
     let drawn : Word := c.drawn.getD 0 + BitVec.ofInt 32 v
     let ended (reason : FillEnd) := booked.fill ≠ 0 →
       (t.press b).bale = some { booked with endReason := some reason } ∧ (t.press b).feedRun = false ∧
       (t.press b).state = .filling ∧ (t.press b).coastStart = some s.now ∧
       (t.press b).coastQuiet = (s.press b).config.quiet ∧
       ∀ st, s.bound .pileFeed (.press b) = some st → t.safetyWaits st 0
     (drawn.toNat < (c.dried.getD 0).toNat → booked.fill.toNat < (s.press b).config.target →
       (t.press b).bale = some booked ∧ t.charge e.charge = some { c with drawn := some drawn } ∧
       (t.press b).state = .filling ∧ (t.press b).feedRun = true ∧ (t.press b).entries = (s.press b).entries ∧
       t.line = s.line) ∧
     (drawn.toNat < (c.dried.getD 0).toNat → (s.press b).config.target ≤ booked.fill.toNat →
       ended .full ∧ (t.press b).entries = (s.press b).entries) ∧
     (∀ rest, (c.dried.getD 0).toNat ≤ drawn.toNat → (s.press b).entries = e.charge :: rest →
       (∀ n ∈ rest.head?, n ≠ e.charge ∧ (s.charge n).bind Charge.dried ≠ some 0) →
       (t.press b).entries = rest ∧ t.charge e.charge = none ∧
       ((s.press b).config.target ≤ booked.fill.toNat → ended .full) ∧
       (booked.fill.toNat < (s.press b).config.target →
         (3 ≤ pre.length → ended .contentLimit) ∧
         (∀ n r more, pre.length < 3 → rest = n :: more → s.charge n = some r →
           (r.lot = x.lot → (t.press b).state = .filling ∧ (t.press b).feedRun = true ∧ t.line = s.line ∧
             (t.press b).bale = some { booked with
               contents := booked.contents ++ [{ charge := n, drawn := 0 }],
               estimated := x.estimated || r.source == some .estimated }) ∧
           (r.lot ≠ x.lot → ended .lotBreak)) ∧
         (∀ l, pre.length < 3 → rest = [] → s.lot x.lot = some l → l.state = .closing → l.bales ≠ 0 →
           (∀ q ∈ s.pool.records, q.1 ≠ e.charge → q.2.lot = x.lot → q.2.state = .piled) → ended .lotEnd) ∧
         (pre.length < 3 → rest = [] → (s.lot x.lot).map Lot.state ≠ some .closing ∨
             (∃ q ∈ s.pool.records, q.1 ≠ e.charge ∧ q.2.lot = x.lot ∧ q.2.state ≠ .piled ∧ s.charge q.1 = some q.2) →
           (t.press b).state = .starved ∧ (t.press b).bale = some booked ∧ (t.press b).feedRun = false ∧
           t.latchedNow (srcStarved b) ∧ ∀ st, s.bound .pileFeed (.press b) = some st → t.safetyWaits st 0)))) ∧
  (∀ (s : State) (b : PressId) (x : Bale), (s.press b).state = .starved → (s.press b).bale = some x → x.fill ≠ 0 →
     s.tablesOk →
     (∀ (k : KilnId) (d : Drop) (r : Charge), (s.kiln k).ring.drop = some d → d.pile = b → s.charge d.charge = some r →
       d.start + d.timeout ≤ s.now → (s.press b).entries = [] →
       let mass : Word := if d.measured then r.dried.getD 0
         else BitVec.ofNat 32 (r.green.toNat * (s.kiln k).config.nominalYield / 1000)
       ∃ t, exec (.dropTimeout k) s = .next t ∧
         (mass = 0 → (t.press b).state = .starved ∧ (t.press b).bale = some x ∧ (t.press b).entries = [] ∧
           t.charge d.charge = none) ∧
         (mass ≠ 0 → r.lot = x.lot → (t.press b).state = .filling ∧ (t.press b).feedRun = true ∧
           (t.press b).entries = [d.charge] ∧
           (t.press b).bale = some { x with
             contents := x.contents ++ [{ charge := d.charge, drawn := 0 }], estimated := x.estimated || !d.measured } ∧
           ∀ st, s.bound .pileFeed (.press b) = some st →
             (t.press b).runOwed = true ∨ ∃ e ∈ t.line.ownDown, e.frame = ownCommand st 1) ∧
         (mass ≠ 0 → r.lot ≠ x.lot → (t.press b).bale = some { x with endReason := some .lotBreak } ∧
           (t.press b).state = .filling ∧ (t.press b).coastStart = some s.now ∧ (t.press b).entries = [d.charge])) ∧
     (∀ f l, s.serves f (.lotClose x.lot) → s.lot x.lot = some l → l.state = .declared ∨ l.state = .active →
       s.store.grants = true → l.bales ≠ 0 →
       (∀ a y, a ≠ b → (s.press a).state = .starved → (s.press a).bale = some y → y.lot ≠ x.lot) →
       ∃ t, exec .lotClose s = .next t ∧ s.answeredAs t f (.done [3]) ∧
         ((∀ q ∈ s.pool.records, q.2.lot = x.lot → q.2.state = .piled) →
           (t.press b).bale = some { x with endReason := some .lotEnd } ∧ (t.press b).state = .filling ∧
           (t.press b).coastStart = some s.now) ∧
         ((∃ q ∈ s.pool.records, q.2.lot = x.lot ∧ q.2.state ≠ .piled) → t.press b = s.press b)) ∧
     (∀ f n, s.serves f (.lotClose n) → n ≠ x.lot → ∃ t, exec .lotClose s = .next t ∧ (t.press b).state = .starved ∧
       (t.press b).bale = some x ∧ (t.press b).entries = (s.press b).entries ∧
       (t.press b).feedRun = (s.press b).feedRun ∧ (t.press b).coastStart = (s.press b).coastStart))

/-- R117: a Report of the fill scale after a feed stop, in Starved, in Filling with the feed stopped or in Paused with resume point
Fill, is booked to the bale and, while it stands in the pile, to the charge of the last content entry; a charge drawn to its
dried mass is retired, and one drawn above it, or retired before, flags the bale Overdraw. With no bale, or past the coast,
it is booked to the unbooked fill mass. Masses of a bale, of its content entry and of a charge's drawing are kept modulo 2^32
(DEDUCED, log 14).

R117: the end of the coast orders Compress, or pauses the press where Auto is clear.

R119, R118: a phase that passes its timeout, or meets a fault of its station, faults the press; its completion goes on
to the next phase, to a pause where Auto is clear, or to the weighing. That an order of a completed phase still owed is
dropped is the model's (DESIGN CHOICE, log 39). -/
def Obligations.CoastAndPhases : Prop :=
  (∀ (s : State) (b : PressId) (u : Update) (v : Int), u.report = true → u.view.cls = .normal → u.view.value = some v →
     let t := unitTakes .fillScale (.press b) u s
     (∀ x pre e, (s.press b).state = .starved ∨ ((s.press b).state = .filling ∧ (s.press b).feedRun = false) ∨
         ((s.press b).state = .paused ∧ (s.press b).resume = some .fill) →
       (s.press b).bale = some x → x.contents = pre ++ [e] →
       let booked : Bale := { x with fill := x.fill + BitVec.ofInt 32 v,
                                     contents := pre ++ [{ e with drawn := e.drawn + BitVec.ofInt 32 v }] }
       (t.press b).state = (s.press b).state ∧ (t.press b).coastStart = (s.press b).coastStart ∧
       (e.charge ∉ (s.press b).entries → t = s.onPress b fun r => { r with bale := some { booked with overdraw := true } }) ∧
       (∀ c rest, (s.press b).entries = e.charge :: rest → s.charge e.charge = some c →
         let drawn : Word := c.drawn.getD 0 + BitVec.ofInt 32 v
         (drawn.toNat < (c.dried.getD 0).toNat → (t.press b).bale = some booked ∧ t.press b = { s.press b with
           bale := some booked } ∧ t.charge e.charge = some { c with drawn := some drawn }) ∧
         ((∀ n ∈ rest.head?, n ≠ e.charge ∧ (s.charge n).bind Charge.dried ≠ some 0) →
           (drawn.toNat = (c.dried.getD 0).toNat → (t.press b).bale = some booked ∧ (t.press b).entries = rest ∧
             t.charge e.charge = none) ∧
           ((c.dried.getD 0).toNat < drawn.toNat → (t.press b).bale = some { booked with overdraw := true } ∧
             (t.press b).entries = rest ∧ t.charge e.charge = none)))) ∧
     ((s.press b).bale = none ∨ phaseOf (s.press b).state ≠ none ∨ (s.press b).state = .weighing ∨
         (s.press b).state = .faulted ∨
         ((s.press b).state = .paused ∧ (s.press b).resume ≠ some .fill) →
       t = s.onPress b fun r => { r with unbooked := r.unbooked + BitVec.ofInt 32 v })) ∧
  (∀ (s : State) (b : PressId) (n : Nat), (s.press b).coastStart = some n →
     (s.now < n + (s.press b).coastQuiet → exec (.coastEnd b) s = .next s) ∧
     (n + (s.press b).coastQuiet ≤ s.now →
       ((s.press b).auto = false → exec (.coastEnd b) s = .next (s.onPress b fun r =>
         { r with coastStart := none, state := .paused, resume := some .compress })) ∧
       ((s.press b).auto = true → ∃ t, exec (.coastEnd b) s = .next t ∧ (t.press b).coastStart = none ∧
         (t.press b).state = .compressing ∧ (t.press b).phaseStart = some s.now ∧
         (t.press b).phaseTimeout = (s.press b).config.compressTimeout ∧
         (s.bound .pressHydraulics (.press b) = none → (t.press b).phaseOwed = false ∧ t.line = s.line) ∧
         ∀ st, s.bound .pressHydraulics (.press b) = some st →
           (6 ≤ s.line.ownDown.length → (t.press b).phaseOwed = true ∧ t.line = s.line) ∧
           (s.line.ownDown.length < 6 → (t.press b).phaseOwed = false ∧ t.line.ownDown = s.line.ownDown ++
             [{ frame := ownCommand st 1, safety := false, injected := false }])))) ∧
  (∀ (s : State) (b : PressId) (ph : Phase), phaseOf (s.press b).state = some ph →
     let faulted (t : State) (cause : FaultCause) := (t.press b).state = .faulted ∧ (t.press b).cause = some cause ∧
       (t.press b).phaseStart = none ∧ (t.press b).phaseOwed = false ∧ (t.press b).bale = (s.press b).bale ∧
       t.latchedNow (srcFaulted b) ∧ ∀ st, s.bound .pressHydraulics (.press b) = some st → t.safetyWaits st 0
     (∀ n, (s.press b).phaseStart = some n →
       (s.now < n + (s.press b).phaseTimeout → exec (.phaseTimeout b) s = .next s) ∧
       (n + (s.press b).phaseTimeout ≤ s.now → ∃ t, exec (.phaseTimeout b) s = .next t ∧
         faulted t (match ph with
           | .compress => .compressTimeout
           | .tie => .tieTimeout
           | .eject => .ejectTimeout))) ∧
     (∀ u : Update, u.report = true → u.view.substituted = false →
       let t := unitTakes .pressHydraulics (.press b) u s
       (u.view.cls = .fault → faulted t .hydraulicsFault) ∧
       (u.view.cls = .normal → u.view.value = some (phaseCode ph) →
         (ph = .compress → (s.press b).auto = true →
           (t.press b).state = .tying ∧ (t.press b).phaseStart = some s.now) ∧
         (ph = .tie → (s.press b).auto = true →
           (t.press b).state = .ejecting ∧ (t.press b).phaseStart = some s.now) ∧
         (ph ≠ .eject → (s.press b).auto = false → t = s.onPress b fun r =>
           { r with state := .paused, resume := some (if ph = .compress then .tie else .eject), phaseStart := none,
                    phaseOwed := false }) ∧
         (ph = .eject → (t.press b).state = .weighing ∧ (t.press b).phaseStart = none ∧
           (t.press b).slot = some { purpose := .bale, bale := ((s.press b).bale.map Bale.number).getD 0, start := s.now,
                                     best := none, window := (s.press b).config.weighWindow })) ∧
       (∀ v, u.view.cls = .normal → u.view.value = some v → v ≠ phaseCode ph → t = s)))

/-- R120, R121, R13: a weighing for a bale ends with a good weight, or with its window and the best gross; the bale completes with
its ticket, its recent-bale entry and its claim on the lot.

R27: the net weight, its class and its substituted mark, from the view of the gross and the tare. -/
def Obligations.WeighingCompletesBale : Prop :=
  (∀ (s : State) (b : PressId) (w : WeighSlot) (x : Bale) (l : Lot) (serial : Nat), (s.press b).slot = some w →
     w.purpose = .bale → (s.press b).bale = some x → s.lot x.lot = some l → s.store.nextSerial = some serial →
     let completed (t : State) (gross net : Option Int) :=
       (t.press b).state = .idle ∧ (t.press b).bale = none ∧ (t.press b).slot = none ∧
       s.issued t x.lot l.grower (.bale b { x with
         gross := gross, net := net, moisture := s.baleMoistureNow b,
         short := decide (x.fill.toNat < (s.press b).config.minimum) } (s.press b).config.tare) ∧
       (t.press b).recent.getLast? = some
         { number := x.number, lot := x.lot, grower := l.grower, serial := serial, gross := gross, net := net,
           tare := (s.press b).config.tare } ∧
       (t.lot x.lot).map Lot.baleCount = some (l.baleCount + 1) ∧ (t.lot x.lot).map Lot.bales = some (l.bales - 1) ∧
       (∀ v, net = some v → (t.lot x.lot).map Lot.netBaled = some (l.netBaled + BitVec.ofInt 32 v)) ∧
       (net = none → (t.lot x.lot).map Lot.unweighed = some (l.unweighed + 1) ∧ t.latchedNow (srcUnweighed b))
     (s.now < w.start + w.window → exec (.weighWindowEnd b) s = .next s) ∧
     (w.start + w.window ≤ s.now → ∃ t, exec (.weighWindowEnd b) s = .next t ∧ completed t w.best none) ∧
     (∀ (u : Update) (gross : Int), u.report = true → u.settled = true → u.view.cls = .normal →
       u.view.substituted = false → u.view.value = some gross →
       let t := unitTakes .baleScale (.press b) u s
       (0 < gross - (s.press b).config.tare → completed t (some gross) (some (gross - (s.press b).config.tare))) ∧
       (gross - (s.press b).config.tare ≤ 0 → t = s.onPress b fun r => { r with slot := some { w with best := some gross } }))) ∧
  (∀ (v : View) (tare : Nat), (netWeight v tare).substituted = v.substituted ∧
     (v.cls ≠ .normal → v.cls ≠ .zero → (netWeight v tare).cls = v.cls ∧ (netWeight v tare).value = none) ∧
     (∀ gross, v.cls = .normal ∨ v.cls = .zero → v.value = some gross →
       (0 < gross - tare → (netWeight v tare).cls = .normal ∧ (netWeight v tare).value = some (gross - tare)) ∧
       (gross - tare = 0 → (netWeight v tare).cls = .zero ∧ (netWeight v tare).value = some 0) ∧
       (gross - tare < 0 → (netWeight v tare).cls = .low ∧ (netWeight v tare).value = none)))

/-- R115: Press Now: its refusal, the Forced end, and the withdrawal of a bale that has drawn nothing.

R122, R121: Press Clear completes a Faulted press's bale as an Unweighed one, flagged Faulted.

R123, R114: Press Auto by the press's state: a Paused press orders its phase, or resumes its fill, or meets the cases of R114;
the Reply carries the state after the request. That the fill start is tested
within the request is read from that (DEDUCED, log 28). -/
def Obligations.PressRequests : Prop :=
  (∀ (s : State) (f : Frame) (i : Nat) (b : PressId), s.serves f (.pressNow i) → pressOf i = some b →
     ((s.press b).state ≠ .starved → (s.press b).state ≠ .filling ∨ ((s.press b).bale.bind Bale.endReason).isSome = true →
       exec .pressNow s = .next (s.reply f (.refuse .state))) ∧
     (∀ x, (s.press b).bale = some x → (s.press b).state = .starved ∨ ((s.press b).state = .filling ∧ x.endReason = none) →
       (x.fill ≠ 0 → ∃ t, exec .pressNow s = .next t ∧ s.answeredAs t f (.done [1]) ∧
         (t.press b).bale = some { x with endReason := some .forced } ∧ (t.press b).state = .filling ∧
         (t.press b).coastStart = some s.now ∧ (t.press b).feedRun = false ∧
         ((s.press b).feedRun = true → ∀ st, s.bound .pileFeed (.press b) = some st → t.safetyWaits st 0)) ∧
       (x.fill = 0 → ∃ t, exec .pressNow s = .next t ∧ s.answeredAs t f (.done [2]) ∧ (t.press b).bale = none ∧
         (t.press b).state = .idle ∧ (t.press b).nextBale = (s.press b).nextBale ∧
         (t.press b).entries = (s.press b).entries ∧ t.pool = s.pool ∧
         t.store.baleRes = s.store.baleRes - 1 ∧
         (t.lot x.lot).map Lot.bales = (s.lot x.lot).map (fun l => l.bales - 1)))) ∧
  (∀ (s : State) (f : Frame) (i : Nat) (b : PressId), s.serves f (.pressClear i) → pressOf i = some b →
     ((s.press b).state ≠ .faulted → exec .pressClear s = .next (s.reply f (.refuse .state))) ∧
     (∀ x l serial, (s.press b).state = .faulted → (s.press b).bale = some x → s.lot x.lot = some l →
       s.store.nextSerial = some serial →
       ∃ t, exec .pressClear s = .next t ∧ s.answeredAs t f (.done (fieldNat 4 serial)) ∧ (t.press b).state = .idle ∧
         (t.press b).cause = none ∧ (t.press b).bale = none ∧ t.latchedNow (srcUnweighed b) ∧
         s.issued t x.lot l.grower (.bale b { x with
           faulted := true, gross := none, net := none, moisture := none,
           short := decide (x.fill.toNat < (s.press b).config.minimum) } (s.press b).config.tare) ∧
         (t.lot x.lot).map Lot.unweighed = some (l.unweighed + 1))) ∧
  (∀ (s : State) (f : Frame) (i : Nat) (value : Bool) (b : PressId), s.serves f (.pressAuto i value) → pressOf i = some b →
     (value = false → ∃ t, exec .pressAuto s = .next t ∧
       s.answeredAs t f (.done (fieldNat 1 (pressStateCode (s.press b).state))) ∧
       (t.press b).auto = false ∧ (t.press b).state = (s.press b).state ∧
       ((s.press b).auto = true → (t.press b).reservationWait = false) ∧
       ∀ a, a ≠ b → t.press a = s.press a) ∧
     (value = true → (s.press b).auto = true ∨ ((s.press b).state ≠ .idle ∧ (s.press b).state ≠ .paused) ∨
         ((s.press b).state = .paused ∧ (s.press b).slot ≠ none) ∨
         ((s.press b).state = .idle ∧ ((s.press b).entries = [] ∨ (s.press b).slot ≠ none)) →
       exec .pressAuto s = .next ((s.onPress b fun r => { r with auto := true }).reply f
         (.done (fieldNat 1 (pressStateCode (s.press b).state))))) ∧
     (∀ c rest, value = true → (s.press b).auto = false → (s.press b).state = .idle → (s.press b).slot = none →
       (s.press b).entries = c :: rest → s.store.grants = true →
       ∃ t, exec .pressAuto s = .next t ∧ s.answeredAs t f (.done [2]) ∧ (t.press b).auto = true ∧
         (t.press b).state = .filling ∧ (t.press b).feedRun = true) ∧
     (∀ point, value = true → (s.press b).auto = false → (s.press b).state = .paused → (s.press b).slot = none →
       (s.press b).resume = some point →
       ∃ t, exec .pressAuto s = .next t ∧ (t.press b).auto = true ∧ s.resumed t b point ∧
         s.answeredAs t f (.done (fieldNat 1 (pressStateCode (t.press b).state)))))

/-- R124, R120, R175: Press Reweigh: its refusals in order, its acceptance without a Reply, the end of its window without a
weight, its end with a good weight (the Reweigh ticket with the original serial, the list entry's gross and net replaced, the
net formed with the entry's tare), what the press then does in Idle and in Paused, and the owed Reply. The bytes of that Reply
(outcome 1 with the serial, or 2; DEDUCED, log 30), the mark that has an Idle press test its fill start again (`fillDue`;
DEDUCED, log 28), that of two list entries with one number the older gives the tare and both take the gross and net
(DESIGN CHOICE, log 52), and that of two Replies the press owes the older is queued first (DESIGN CHOICE, log 60) are the
model's. -/
def Obligations.PressReweighAndReply : Prop :=
  ∀ (s : State) (b : PressId),
    (∀ f i n, s.serves f (.pressReweigh i n) → pressOf i = some b →
      ((∀ e ∈ (s.press b).recent, e.number ≠ n) → exec .pressReweigh s = .next (s.reply f (.refuse .notFound))) ∧
      (∀ e ∈ (s.press b).recent, e.number = n →
        (((s.press b).state ≠ .idle ∧ (s.press b).state ≠ .paused) ∨ (s.press b).slot ≠ none →
          exec .pressReweigh s = .next (s.reply f (.refuse .state))) ∧
        ((s.press b).state = .idle ∨ (s.press b).state = .paused → (s.press b).slot = none →
          (s.store.nextSerial = none → exec .pressReweigh s = .next (s.reply f (.refuse .unseeded))) ∧
          (s.store.nextSerial ≠ none → s.store.grants = false →
            ∃ t, exec .pressReweigh s = .next t ∧ t = { s.reply f (.refuse .full) with notice := t.notice } ∧
              s.notice.claimed t.notice 4) ∧
          (s.store.grants = true → ∃ t, exec .pressReweigh s = .next t ∧ t.line = s.line ∧
            t.agent.requests = s.agent.requests.drop 1 ∧
            t.store = { s.store with reweighRes := s.store.reweighRes + 1 } ∧
            t.press b = { s.press b with
              reweighTag := some f.tag
              slot := some { purpose := .reweigh, bale := n, start := s.now, best := none,
                             window := (s.press b).config.weighWindow } })))) ∧
    (∀ w, (s.press b).slot = some w → w.purpose = .reweigh → (s.press b).state = .idle ∨ (s.press b).state = .paused →
      (s.now < w.start + w.window → exec (.weighWindowEnd b) s = .next s) ∧
      (w.start + w.window ≤ s.now → ∃ t, exec (.weighWindowEnd b) s = .next t ∧
        s.reweighReplied t b none [67, 0, 2] ∧ s.reweighOver t b ∧ (t.press b).recent = (s.press b).recent ∧
        ((s.press b).state = .idle ∨ (s.press b).auto = false ∨ (s.press b).resume ≠ some .fill →
          t.store = { s.store with reweighRes := s.store.reweighRes - 1 })) ∧
      (∀ (u : Update) (gross : Int) (e : RecentBale) (serial : Nat), u.report = true → u.settled = true →
        u.view.cls = .normal → u.view.substituted = false → u.view.value = some gross →
        (s.press b).recent.find? (fun r => r.number == w.bale) = some e → s.store.nextSerial = some serial →
        let t := unitTakes .baleScale (.press b) u s
        let net := gross - e.tare
        (0 < net → s.issued t e.lot e.grower (.reweigh b e.number e.serial gross net) ∧
          (t.press b).recent = (s.press b).recent.map (fun r =>
            if r.number = e.number then { r with gross := some gross, net := some net } else r) ∧
          s.reweighReplied t b (some serial) ([67, 0, 1] ++ fieldNat 4 serial) ∧ s.reweighOver t b) ∧
        (net ≤ 0 → t = s.onPress b fun r => { r with slot := some { w with best := some gross } }))) ∧
    (∀ r rest, (s.press b).owedReplies = r :: rest →
      (8 ≤ s.line.ownUp.length → exec (.reweighReplyQueued b) s = .next s) ∧
      (s.line.ownUp.length < 8 → exec (.reweighReplyQueued b) s = .next { s.onPress b fun p =>
        { p with owedReplies := rest } with
        line := { s.line with ownUp := s.line.ownUp ++ [{
          frame := ownUpFrame .reply r.tag ((r.serial.map fun n => [67, 0, 1] ++ fieldNat 4 n).getD [67, 0, 2])
          origin := .reply }] } }))

/-! ## The Ticket Store -/

/-- R131, R136: Ticket Base: its refusals in order; a seeded store wakes those that wait for it. That the wake only sets the marks
`woken` and `fillDue`, and that each attempt is a command of its own, is the model's (DEDUCED, log 4, log 28). -/
def Obligations.TicketBaseSeeds : Prop :=
  ∀ (s : State) (f : Frame) (b : Nat), s.serves f (.ticketBase b) →
    (b = 0 ∨ 4294967040 < b → exec .ticketBase s = .next (s.reply f (.refuse .badArgument))) ∧
    (1 ≤ b → b ≤ 4294967040 → s.store.nextSerial ≠ none → exec .ticketBase s = .next (s.reply f (.refuse .state))) ∧
    (1 ≤ b → b ≤ 4294967040 → s.store.nextSerial = none →
      ∃ t, exec .ticketBase s = .next t ∧
        t = ({ s with store := { s.store with nextSerial := some b }, pickers := t.pickers, presses := t.presses } : State).reply
          f (.done []) ∧
        (∀ p, t.picker p = { s.picker p with
          woken := (s.picker p).woken || (s.picker p).reasons.noTicketSlot }) ∧
        ∀ a, t.press a = { s.press a with fillDue := (s.press a).fillDue || (s.press a).reservationWait })

/-- R141, R136: Ticket Take: its refusals in order, and the tickets at or below the serial removed; a removal wakes those that wait
for the store. That the wake only sets the marks `woken` and `fillDue`, and that each attempt is a command of its own, is the
model's (DEDUCED, log 4, log 28). -/
def Obligations.TicketTakeRemoves : Prop :=
  ∀ (s : State) (f : Frame) (n : Nat), s.serves f (.ticketTake n) →
    (s.store.nextSerial = none → exec .ticketTake s = .next (s.reply f (.refuse .unseeded))) ∧
    (s.store.nextSerial ≠ none → s.store.fetchHigh < n →
      exec .ticketTake s = .next (s.reply f (.refuse .badArgument))) ∧
    (s.store.nextSerial ≠ none → n ≤ s.store.fetchHigh →
      ∃ t, exec .ticketTake s = .next t ∧
        s.answeredAs t f (.done (fieldNat 1 (s.store.tickets.length - t.store.tickets.length) ++
          fieldNat 1 t.store.tickets.length)) ∧
        (∀ k, k ∈ t.store.tickets ↔ k ∈ s.store.tickets ∧ n < k.serial) ∧
        t.store = { s.store with tickets := t.store.tickets } ∧ t.lots = s.lots ∧ t.pool = s.pool ∧ t.kilns = s.kilns ∧
        (t.store.tickets.length < s.store.tickets.length →
          (∀ p, t.picker p = { s.picker p with
            woken := (s.picker p).woken || (s.picker p).reasons.noTicketSlot }) ∧
          ∀ a, t.press a = { s.press a with fillDue := (s.press a).fillDue || (s.press a).reservationWait }) ∧
        (t.store.tickets.length = s.store.tickets.length → t.pickers = s.pickers ∧ t.presses = s.presses))

/-- R137, R139: Ticket Fetch: its refusals in order, the transfer it makes, and the end at once of one with no ticket due, whose
end frame follows the Reply or is owed.

R138, R188, R139: the frames of the due ticket are queued where there is room for all of them, and an owed end frame at
the first free place. That each queuing is a command of its own is the model's (DEDUCED, log 5). -/
def Obligations.FetchTransfer : Prop :=
  (∀ (s : State) (f : Frame) (n : Nat), s.serves f (.ticketFetch n) →
     (n = 0 ∨ 192 < n → exec .ticketFetch s = .next (s.reply f (.refuse .badArgument))) ∧
     (1 ≤ n → n ≤ 192 → s.store.nextSerial = none → exec .ticketFetch s = .next (s.reply f (.refuse .unseeded))) ∧
     (1 ≤ n → n ≤ 192 → s.store.nextSerial ≠ none → s.store.transfer ≠ none →
       exec .ticketFetch s = .next (s.reply f (.refuse .state))) ∧
     (1 ≤ n → n ≤ 192 → s.store.nextSerial ≠ none → s.store.transfer = none →
       let x : Transfer := { tag := f.tag, count := n, sent := 0, lastQueued := none, lastSent := none, waiting := false,
                             endReason := none, endOwed := false }
       let answer : Answer := .done ([0] ++ fieldNat 1 s.store.tickets.length ++
         (match s.store.tickets with
          | [] => [0, 0, 0, 0, 0]
          | k :: _ => 1 :: fieldNat 4 k.serial))
       (s.store.tickets ≠ [] → exec .ticketFetch s =
         .next (({ s with store := { s.store with transfer := some x } } : State).reply f answer)) ∧
       (s.store.tickets = [] → s.line.ownUp.length < 7 → ∃ t, exec .ticketFetch s = .next t ∧ t.store = s.store ∧
         t.line.ownUp = s.line.ownUp ++ [{ frame := replyFrame f answer, origin := .reply },
           { frame := ownUpFrame .reply f.tag [73, 0, 2, 0, 0, 0, 0, 0, 0], origin := .fetchEnd }]) ∧
       (s.store.tickets = [] → s.line.ownUp.length = 7 → ∃ t, exec .ticketFetch s = .next t ∧
         t.store = { s.store with transfer := some { x with endReason := some .short, endOwed := true } } ∧
         s.answeredAs t f answer))) ∧
  (∀ (s : State) (x : Transfer), s.store.transfer = some x →
     (∀ k, s.store.due x = some k →
       (x.waiting = true ∨ x.endReason ≠ none ∨ 8 < s.line.ownUp.length + (ticketFrames k).length →
         exec .ticketFrameQueue s = .next s) ∧
       (x.waiting = false → x.endReason = none → s.line.ownUp.length + (ticketFrames k).length ≤ 8 →
         exec .ticketFrameQueue s = .next { s with
           store := { s.store with transfer := some { x with lastQueued := some k.serial, waiting := true } }
           line := { s.line with ownUp := s.line.ownUp ++
             (ticketFrames k).map fun e => { frame := e.1, origin := e.2 } } })) ∧
     (s.store.due x = none → exec .ticketFrameQueue s = .next s) ∧
     (∀ r, x.endReason = some r →
       (x.endOwed = false → exec .fetchEndFrameQueued s = .next s) ∧
       (x.endOwed = true → s.line.ownUp.length < 8 →
         exec .fetchEndFrameQueued s = .next { s with
           store := { s.store with transfer := none }
           line := { s.line with ownUp := s.line.ownUp ++ [{ frame := fetchEndFrame x r, origin := .fetchEnd }] } })))

/-! ## Resets -/

/-- R104, R81, R60, R126, R151: after the Yard Reset input every permit is Off and stopped, every picker is Stopped, every Auto flag
is clear, no kiln is left in a cycle and no press in a fill or a phase, whatever the order the units take it in; no kiln is
left in Dropping, since one that is Dropping holds a drop (StepKeepsDropping). The clock, the schedules, the Station Table, the request queue and
the other mode flags are kept. That the command carries an order of the units, and the order where it names not each once, is
DESIGN CHOICE (log 6); that a floor freed is offered within the reset is DEDUCED (log 31). -/
def Obligations.YardResetStopsEveryUnit : Prop :=
  ∀ (order : List UnitId) (s : State), ∃ t, exec (.yardReset order) s = .next t ∧
    (∀ k, (t.kiln k).permit = { state := .off, timer := none, parity := .odd, proving := 0 } ∧
      (t.kiln k).config = (s.kiln k).config ∧ (t.kiln k).scheduleFlag = (s.kiln k).scheduleFlag ∧
      (t.kiln k).holdOff = (s.kiln k).holdOff ∧
      ((t.kiln k).state = .idle ∨ (t.kiln k).state = .awaiting ∨ (t.kiln k).state = .loading ∨
        (t.kiln k).state = .ready ∨
        ((t.kiln k).state = .dropping ∧ (s.kiln k).state = .dropping ∧ (s.kiln k).ring.drop = none)) ∧
      (s.droppingMatchesRing → (t.kiln k).state ≠ .dropping)) ∧
    (∀ p, (t.picker p).state = .stopped ∧ (t.picker p).config = (s.picker p).config ∧
      (t.picker p).feedEnable = (s.picker p).feedEnable) ∧
    (∀ b, (t.press b).auto = false ∧ (t.press b).config = (s.press b).config ∧
      ((t.press b).state = .idle ∨ (t.press b).state = .paused ∨ (t.press b).state = .faulted)) ∧
    t.clock = s.clock ∧ t.schedules = s.schedules ∧ t.agent = s.agent ∧ t.watches = s.watches ∧
    t.chan.stations = s.chan.stations ∧ t.line.settings = s.line.settings ∧ t.line.counters = s.line.counters

/-- R183, R172, R158, R140: what a Line Reset empties and what it keeps; its Reply, with the frames removed and the Requests
discarded, is the first frame of the Own queue up, and only end frames of transfers follow it, with reason Reset. What stands in
the Own queue down and in the safety overflow list are orders that a unit queues again. It waits for no place. That the command
carries an order of the units (DESIGN CHOICE, log 6), that an end frame already queued is queued anew (DEDUCED, log 31) and that
the eighth is lost (DESIGN CHOICE, log 46) are the model's.

R61, R81, R105, R127: after a Line Reset each order that a unit queues again waits: a stop or purge as a safety frame, an
ordinary order or an injection in the Own queue down, or it is owed where no place outside the safety places is free. The marks
of an order that found no place are the model's (DESIGN CHOICE, log 24). Orders to two stations do not fall on one address in a
Station Table in canonical form (StepKeepsTables). -/
def Obligations.LineResetEmptiesTheLine : Prop :=
  (∀ (order : List UnitId) (s : State) (f : Frame), s.agent.requests.head? = some f → s.requestOf f = some .lineReset →
     ∃ t, exec (.lineReset order) s = .next t ∧ t.agent.requests = [] ∧ t.agent.staging = none ∧
       t.agent.writeCounts = s.agent.writeCounts ∧ t.line.forwardUp = [] ∧ t.line.forwardDown = [] ∧
       t.line.poll = none ∧ t.line.runUp = 0 ∧ t.line.runDown = 0 ∧ t.line.fSending = s.line.fSending ∧
       t.line.settings = s.line.settings ∧
       t.line.counters = { receivedU := 0, receivedF := 0, checkFailures := 0, forwardDrops := 0, misdirected := 0,
                           overridden := 0, rewritten := 0, noReplyPolls := 0, requestOverruns := 0 } ∧
       (let reply : OwnUp := { frame := replyFrame f (.done (fieldNat 1 s.line.forwardUp.length ++
         fieldNat 1 s.line.forwardDown.length ++ fieldNat 1 s.line.ownUp.length ++ fieldNat 1 s.line.ownDown.length ++
         fieldNat 1 (s.agent.requests.length - 1))), origin := .reply }
       let ends := (s.line.ownUp.filter fun e => e.origin == .fetchEnd).map fun e =>
         { e with frame := { e.frame with payload := e.frame.payload.take 2 ++ [3] ++ e.frame.payload.drop 3 } }
       (s.store.transfer = none → t.line.ownUp = reply :: ends.take 7 ∧ t.store = s.store) ∧
       (∀ x, s.store.transfer = some x →
         let lastSent : List Byte := match x.lastSent with
           | some n => [1] ++ fieldNat 4 n
           | none => [0, 0, 0, 0, 0]
         let last : OwnUp :=
           { frame := ownUpFrame .reply x.tag ([73, 0, 3] ++ fieldNat 1 x.sent ++ lastSent), origin := .fetchEnd }
         t.line.ownUp = reply :: (ends ++ [last]).take 7 ∧
         (ends.length < 7 → t.store = { s.store with transfer := none }) ∧
         (7 ≤ ends.length → t.store =
           { s.store with transfer := some { x with endReason := some .reset, endOwed := true } }))) ∧
       (∀ e ∈ t.line.ownDown ++ t.line.overflow, s.pickerRestores e ∨ s.kilnRestores e ∨ s.pressRestores e) ∧
       t.notice = { latched := 0, enabled := s.notice.enabled, sent := 0, waiting := false } ∧
       t.chan.exceptions = [] ∧ t.chan.overflowed = false ∧ t.chan.stations = s.chan.stations ∧ t.clock = s.clock ∧
       t.lots = s.lots ∧ t.pool = s.pool ∧ t.schedules = s.schedules ∧ t.watches = s.watches ∧
       (∀ k, (t.kiln k).state = (s.kiln k).state ∧ (t.kiln k).ring.gateCloseOwed = false ∧ (t.kiln k).permit = (s.kiln k).permit ∧
         (t.kiln k).stageElapsed = (s.kiln k).stageElapsed ∧ (t.kiln k).ring.drop = (s.kiln k).ring.drop) ∧
       (∀ p, (t.picker p).state = (s.picker p).state ∧ (t.picker p).loading = (s.picker p).loading) ∧
       (∀ b, (t.press b).state = (s.press b).state ∧ (t.press b).bale = (s.press b).bale ∧
         (t.press b).owedReplies = (s.press b).owedReplies)) ∧
  (∀ (order : List UnitId) (s : State) (f : Frame), s.tablesOk → s.agent.requests.head? = some f →
     s.requestOf f = some .lineReset →
     ∃ t, exec (.lineReset order) s = .next t ∧
       (∀ p, (∀ n c st, s.loadingCharge p = some (n, c) → s.bound .distributor (.picker p) = some st →
           t.waitsOrOwed (orderTo st (kilnIndex c.kiln + 1)) (t.picker p).distributorOwed) ∧
         ((s.picker p).state ≠ .running → s.feedStopWaits t p)) ∧
       (∀ k, (∀ st, s.bound .dropGate (.kiln k) = some st →
           t.waitsOrOwed (orderTo st (if (s.kiln k).ring.drop = none then 0 else 1)) (t.kiln k).ring.gateRestore) ∧
         ((s.kiln k).queuesPurge → (t.kiln k).burnerOwed = false ∧ (t.kiln k).fanOwed = false ∧
           (∀ st, s.bound .burner (.kiln k) = some st → t.safetyWaits st 0) ∧
           ((s.kiln k).config.purgeFan ≤ 100 → ∀ st, s.bound .fan (.kiln k) = some st →
             t.safetyWaits st (s.kiln k).config.purgeFan)) ∧
         (¬(s.kiln k).queuesPurge →
           ((s.kiln k).injection = none → (t.kiln k).burnerOwed = false ∧ (t.kiln k).fanOwed = false) ∧
           ∀ v, (s.kiln k).injection = some v → (t.kiln k).lastInjection = some s.now ∧
             (s.bound .burner (.kiln k) = none → (t.kiln k).burnerOwed = false) ∧
             (s.bound .fan (.kiln k) = none → (t.kiln k).fanOwed = false) ∧
             (∀ st, s.bound .burner (.kiln k) = some st → t.waitsOrOwed (injectionTo st v.1) (t.kiln k).burnerOwed) ∧
             (∀ st, s.bound .fan (.kiln k) = some st → t.waitsOrOwed (injectionTo st v.2) (t.kiln k).fanOwed))) ∧
       ∀ b, (∀ st, s.bound .pileFeed (.press b) = some st →
           ((s.press b).feedRun = true → t.waitsOrOwed (orderTo st 1) (t.press b).runOwed) ∧
           ((s.press b).feedRun = false → (s.press b).bale ≠ none → t.safetyWaits st 0)) ∧
         ∀ st, s.bound .pressHydraulics (.press b) = some st →
           (∀ v, phaseOrderOf (s.press b).state = some v → t.waitsOrOwed (orderTo st v) (t.press b).phaseOwed) ∧
           ((s.press b).state = .faulted → t.safetyWaits st 0))

end
end

