-- ==== Sys2Proof/Laws/Bytes.lean ====
section
/-! SUPPORT. The fields of spec/11: their lengths, and what reading a field back gives. -/

namespace Sys2Proof.Machine

@[simp] theorem bytesOfNat_length (n v : Nat) : (bytesOfNat n v).length = n := by
  induction n generalizing v with
  | zero => rfl
  | succ n ih => simp [bytesOfNat, ih]

@[simp] theorem fieldNat_length (n v : Nat) : (fieldNat n v).length = n := by
  unfold fieldNat; split <;> simp

@[simp] theorem fieldInt_length (n : Nat) (v : Int) : (fieldInt n v).length = n := by
  unfold fieldInt; split <;> [skip; split] <;> simp

theorem natOfBytes_append (bs : List Byte) (b : Byte) : natOfBytes (bs ++ [b]) = natOfBytes bs * 256 + b.toNat := by
  simp [natOfBytes]

theorem natOfBytes_bytesOfNat (n v : Nat) : natOfBytes (bytesOfNat n v) = v % 256 ^ n := by
  induction n generalizing v with
  | zero => simp [bytesOfNat, natOfBytes, Nat.mod_one]
  | succ n ih =>
    rw [bytesOfNat, natOfBytes_append, ih, Nat.pow_succ, Nat.mul_comm (256 ^ n), Nat.mod_mul]
    simp; omega

/-- A value that fits its unsigned field is read back from it. -/
theorem natOfBytes_fieldNat {n v : Nat} (h : v < 256 ^ n) : natOfBytes (fieldNat n v) = v := by
  rw [fieldNat, if_pos h, natOfBytes_bytesOfNat, Nat.mod_eq_of_lt h]

/-- A value that fits its signed field is read back from it. -/
theorem intOfBytes_fieldInt {n : Nat} {v : Int} (hn : 0 < n) (low : -((2 ^ (8 * n - 1) : Nat) : Int) ≤ v)
    (high : v < (2 ^ (8 * n - 1) : Nat)) : intOfBytes (fieldInt n v) = v := by
  have two : 2 ^ (8 * n) = 2 * 2 ^ (8 * n - 1) := by rw [← Nat.pow_succ']; congr 1; omega
  have top : 256 ^ n = 2 * 2 ^ (8 * n - 1) := by rw [← two, Nat.pow_mul]
  have field : natOfBytes (fieldInt n v) = (if 0 ≤ v then v else v + (2 ^ (8 * n) : Nat)).toNat := by
    unfold fieldInt
    by_cases pos : 0 ≤ v
    · rw [if_pos ⟨pos, high⟩, if_pos pos, natOfBytes_bytesOfNat, Nat.mod_eq_of_lt (by omega)]
    · rw [if_neg (fun h => pos h.1), if_pos ⟨by omega, low⟩, if_neg pos, natOfBytes_bytesOfNat, Nat.mod_eq_of_lt (by omega)]
  rw [intOfBytes, fieldInt_length, field]
  by_cases pos : 0 ≤ v
  · rw [if_pos pos, if_pos (by omega)]; omega
  · rw [if_neg pos, if_neg (by omega)]; omega

/-- A field at the head of some bytes, and what follows it. -/
theorem natAt_zero {n v : Nat} (rest : List Byte) (h : v < 256 ^ n) : natAt (fieldNat n v ++ rest) 0 n = v := by
  rw [natAt, List.drop_zero, List.take_left' (fieldNat_length n v), natOfBytes_fieldNat h]

theorem natAt_skip (front rest : List Byte) (offset width : Nat) :
    natAt (front ++ rest) (front.length + offset) width = natAt rest offset width := by
  simp [natAt, ← List.drop_drop]

theorem intAt_zero {n : Nat} {v : Int} (rest : List Byte) (hn : 0 < n) (low : -((2 ^ (8 * n - 1) : Nat) : Int) ≤ v)
    (high : v < (2 ^ (8 * n - 1) : Nat)) : intAt (fieldInt n v ++ rest) 0 n = v := by
  rw [intAt, List.drop_zero, List.take_left' (fieldInt_length n v), intOfBytes_fieldInt hn low high]

theorem intAt_skip (front rest : List Byte) (offset width : Nat) :
    intAt (front ++ rest) (front.length + offset) width = intAt rest offset width := by
  simp [intAt, ← List.drop_drop]

end Sys2Proof.Machine
end

