-- ==== Sys2Proof/Laws/Closed.lean ====
section
/-! SUPPORT. One lemma per shared operation of the units: whatever property the primitive updates of the units keep, the
operation keeps. A frame or an invariant of a unit operation is then one instance of it (`Closed` for the property), and no
proof unfolds the operation. -/

namespace Sys2Proof.Machine

/-- A kiln changed in nothing but what its sequencer owns: its permit and its configuration stay. -/
def KeepsKiln (f : Kiln → Kiln) : Prop := ∀ r, (f r).permit = r.permit ∧ (f r).config = r.config

/-- A picker changed with its configuration kept. -/
def KeepsPicker (f : Picker → Picker) : Prop := ∀ r, (f r).config = r.config

/-- A press changed with its configuration kept. -/
def KeepsPress (f : Press → Press) : Prop := ∀ r, (f r).config = r.config

/-- A property that the updates the units make keep. What is not among them (the clock, the agent, the Station Table, the
Forward queues, the counters, the schedules, the configurations, the permits) no unit operation changes. The operations that queue a frame for the host,
and those that change a permit, ask for that besides (`hu`, `hp`). -/
structure Closed (P : State → Prop) : Prop where
  kiln : ∀ {s : State} (k : KilnId) (f : Kiln → Kiln), KeepsKiln f → P s → P (s.onKiln k f)
  picker : ∀ {s : State} (p : PickerId) (f : Picker → Picker), KeepsPicker f → P s → P (s.onPicker p f)
  press : ∀ {s : State} (b : PressId) (f : Press → Press), KeepsPress f → P s → P (s.onPress b f)
  reserve : ∀ {s : State} (kind : TicketKind) (f : Nat → Nat), P s → P (s.onStore fun t => t.onKind kind f)
  issued : ∀ {s : State} (kind : TicketKind) (lot grower : Nat) (body : TicketBody), P s → P (issueTicket kind lot grower body s)
  transfer : ∀ {s : State} (f : Transfer → Transfer), P s → P (s.onTransfer f)
  ended : ∀ {s : State}, P s → P (s.onStore fun t => { t with transfer := none })
  lot : ∀ {s : State} (n : Nat) (f : Lot → Lot), P s → P (s.onLot n f)
  charge : ∀ {s : State} (n : Nat) (f : Charge → Charge), P s → P (s.onCharge n f)
  opened : ∀ {s : State} (n m : Nat) (c : Charge), P s → P (s.onPool fun t => { records := tablePut t.records n c, next := m })
  freed : ∀ {s : State} (n : Nat), P s → P (s.onPool fun t => { t with records := tableErase t.records n })
  watch : ∀ {s : State} (n : Nat) (w : Watch), P s → P (s.putWatch n w)
  latched : ∀ {s : State} (n : Nat), P s → P (latch n s)
  timer : ∀ {s : State} (st ch i : Nat), P s → P (startPollTimer st ch i s)
  down : ∀ {s : State} (f : Frame) (b : Bool), P s → P (queueDown f b s)
  safety : ∀ {s : State} (f : Frame), P s → P (queueSafety f s)

variable {P : State → Prop}

/-- A fold of operations that keep a property keeps it. -/
theorem foldl_closed {α : Type} (g : State → α → State) (hg : ∀ s a, P s → P (g s a)) (l : List α) {s : State} (hs : P s) :
    P (l.foldl g s) := by
  induction l generalizing s with
  | nil => exact hs
  | cons a l ih => exact ih (hg s a hs)

theorem onRing_closed (h : Closed P) (k : KilnId) (f : Ring → Ring) {s : State} (hs : P s) : P (State.onRing s k f) := by
  unfold State.onRing
  try dsimp only
  all_goals repeat' first | exact hs | with_reducible apply h.kiln | exact fun _ => ⟨rfl, rfl⟩

theorem onBale_closed (h : Closed P) (b : PressId) (f : Bale → Bale) {s : State} (hs : P s) : P (State.onBale s b f) := by
  unfold State.onBale
  try dsimp only
  all_goals repeat' first | exact hs | with_reducible apply h.press | exact fun _ => rfl

theorem safetyCommand_closed (h : Closed P) (role : Role) (unit : UnitId) (v : Int) {s : State} (hs : P s) : P (safetyCommand role unit v s) := by
  unfold safetyCommand
  try dsimp only
  repeat' split
  all_goals repeat' first | exact hs | with_reducible apply h.safety

theorem restartPollTimer_closed (h : Closed P) (station channel : Nat) {s : State} (hs : P s) : P (restartPollTimer station channel s) := by
  unfold restartPollTimer
  try dsimp only
  all_goals repeat' first | exact hs | with_reducible apply h.timer

theorem grantReservation_closed (h : Closed P) (kind : TicketKind) {s : State} (hs : P s) : P (grantReservation kind s) := by
  unfold grantReservation
  try dsimp only
  repeat' split
  all_goals repeat' first | exact hs | with_reducible apply h.reserve | with_reducible apply h.latched

theorem refuseReservation_closed (h : Closed P) {s : State} (hs : P s) : P (refuseReservation s) := by
  unfold refuseReservation
  try dsimp only
  repeat' split
  all_goals repeat' first | exact hs | with_reducible apply h.latched

theorem askReservation_closed (h : Closed P) (kind : TicketKind) {s : State} (hs : P s) : P (askReservation kind s).2 := by
  unfold askReservation
  split
  · exact grantReservation_closed h kind hs
  · exact refuseReservation_closed h hs
theorem askReservation_closed_of_eq (h : Closed P) {kind : TicketKind} {s t : State} {b : Bool} (hs : P s)
    (e : askReservation kind s = (b, t)) : P t := by
  have := askReservation_closed h kind hs
  rw [e] at this
  exact this

theorem wakeStore_closed (h : Closed P) {s : State} (hs : P s) : P (wakeStore s) := by
  have hp : KeepsPicker fun r => if r.reasons.noTicketSlot then { r with woken := true } else r := fun r => by
    dsimp only; split <;> rfl
  have hb : KeepsPress fun r => if r.reservationWait then { r with fillDue := true } else r := fun r => by
    dsimp only; split <;> rfl
  exact h.press .b2 _ hb (h.press .b1 _ hb (h.picker .p2 _ hp (h.picker .p1 _ hp hs)))

theorem returnReservation_closed (h : Closed P) (kind : TicketKind) {s : State} (hs : P s) : P (returnReservation kind s) := by
  unfold returnReservation
  try dsimp only
  all_goals repeat' first | exact hs | with_reducible apply h.reserve | with_reducible apply h.ended | with_reducible apply wakeStore_closed h

theorem queueFetchEnd_closed (h : Closed P) (hu : ∀ {s : State} (f : Frame) (o : UpOrigin), P s → P (queueUp f o s)) (x : Transfer) (reason : FetchEnd) {s : State} (hs : P s) : P (queueFetchEnd x reason s) := by
  unfold queueFetchEnd
  try dsimp only
  repeat' split
  all_goals repeat' first | exact hs | with_reducible apply h.reserve | with_reducible apply h.transfer | with_reducible apply hu | with_reducible apply h.ended

theorem fetchEndTest_closed (h : Closed P) (hu : ∀ {s : State} (f : Frame) (o : UpOrigin), P s → P (queueUp f o s)) {s : State} (hs : P s) : P (fetchEndTest s) := by
  unfold fetchEndTest
  try dsimp only
  repeat' split
  all_goals repeat' first | exact hs | with_reducible apply queueFetchEnd_closed h hu

theorem settleTest_closed (h : Closed P) (n : Nat) {s : State} (hs : P s) : P (settleTest n s) := by
  unfold settleTest
  try dsimp only
  repeat' split
  all_goals repeat' first | exact hs | with_reducible apply h.issued | with_reducible apply h.lot

theorem claimOpening_closed (h : Closed P) (n : Nat) {s : State} (hs : P s) : P (claimOpening n s) := by
  unfold claimOpening
  try dsimp only
  all_goals repeat' first | exact hs | with_reducible apply h.lot

theorem addGreen_closed (h : Closed P) (n : Nat) (v : Int) {s : State} (hs : P s) : P (addGreen n v s) := by
  unfold addGreen
  try dsimp only
  all_goals repeat' first | exact hs | with_reducible apply h.lot

theorem addDried_closed (h : Closed P) (n : Nat) (m : Word) {s : State} (hs : P s) : P (addDried n m s) := by
  unfold addDried
  try dsimp only
  all_goals repeat' first | exact hs | with_reducible apply h.lot

theorem retireFromLot_closed (h : Closed P) (n : Nat) {s : State} (hs : P s) : P (retireFromLot n s) := by
  unfold retireFromLot
  try dsimp only
  all_goals repeat' first | exact hs | with_reducible apply h.lot | with_reducible apply settleTest_closed h

theorem startBaleOfLot_closed (h : Closed P) (n : Nat) {s : State} (hs : P s) : P (startBaleOfLot n s) := by
  unfold startBaleOfLot
  try dsimp only
  all_goals repeat' first | exact hs | with_reducible apply h.lot

theorem completeBaleOfLot_closed (h : Closed P) (n : Nat) (net : Option Int) {s : State} (hs : P s) : P (completeBaleOfLot n net s) := by
  unfold completeBaleOfLot
  try dsimp only
  repeat' split
  all_goals repeat' first | exact hs | with_reducible apply h.lot | with_reducible apply settleTest_closed h

theorem withdrawBaleOfLot_closed (h : Closed P) (n : Nat) {s : State} (hs : P s) : P (withdrawBaleOfLot n s) := by
  unfold withdrawBaleOfLot
  try dsimp only
  all_goals repeat' first | exact hs | with_reducible apply h.lot | with_reducible apply settleTest_closed h

theorem settleOffer_closed (h : Closed P) (k : KilnId) {s : State} (hs : P s) : P (settleOffer k s) := by
  unfold settleOffer
  split
  · exact onRing_closed h k _ hs
  · exact hs

theorem openOffer_closed (h : Closed P) (k : KilnId) (l : List PickerId) {s : State} (hs : P s) : P (openOffer k l s) :=
  settleOffer_closed h k (onRing_closed h k _ hs)

theorem offerKiln_closed (h : Closed P) (k : KilnId) {s : State} (hs : P s) : P (offerKiln k s) := by
  unfold offerKiln
  split
  · exact openOffer_closed h k _ hs
  · exact hs

theorem offerToOthers_closed (h : Closed P) (k : KilnId) (p : PickerId) {s : State} (hs : P s) : P (offerToOthers k p s) :=
  openOffer_closed h k _ hs

theorem leaveOffers_closed (h : Closed P) (p : PickerId) {s : State} (hs : P s) : P (leaveOffers p s) :=
  foldl_closed _ (fun _ k hs => settleOffer_closed h k (onRing_closed h k _ hs)) _ hs

theorem wakeNoFloor_closed (h : Closed P) {s : State} (hs : P s) : P (wakeNoFloor s) := by
  have hp : KeepsPicker fun r => if r.reasons.noFloor then { r with woken := true } else r := fun r => by
    dsimp only; split <;> rfl
  exact h.picker .p2 _ hp (h.picker .p1 _ hp hs)

theorem passCycle_closed (h : Closed P) (k : KilnId) {s : State} (hs : P s) : P (passCycle k s) := 
  foldl_closed _ (fun _ _ hs => h.charge _ _ hs) _ hs

/-- An update made to every kiln is the update made to each. -/
theorem onKilns_every (g : Kiln → Kiln) (s : State) :
    (s.onKilns fun t => { k1 := g t.k1, k2 := g t.k2, k3 := g t.k3, k4 := g t.k4, k5 := g t.k5, k6 := g t.k6 }) =
      (((((s.onKiln .k1 g).onKiln .k2 g).onKiln .k3 g).onKiln .k4 g).onKiln .k5 g).onKiln .k6 g := by
  simp only [State.onKiln, State.onKilns]

/-- An update made to every kiln keeps what an update of one kiln keeps. -/
theorem Closed.everyKiln (h : Closed P) (g : Kiln → Kiln) (hg : KeepsKiln g) {s : State} (hs : P s) :
    P (s.onKilns fun t => { k1 := g t.k1, k2 := g t.k2, k3 := g t.k3, k4 := g t.k4, k5 := g t.k5, k6 := g t.k6 }) := by
  rw [onKilns_every]
  exact h.kiln .k6 g hg (h.kiln .k5 g hg (h.kiln .k4 g hg (h.kiln .k3 g hg (h.kiln .k2 g hg (h.kiln .k1 g hg hs)))))

theorem wakePileFull_closed (h : Closed P) (b : PressId) {s : State} (hs : P s) : P (wakePileFull b s) := by
  unfold wakePileFull
  refine h.everyKiln (fun r => if r.state = .pileFull ∧ r.config.pile = b then { r with pileWoken := true } else r) ?_ hs
  intro r
  dsimp only
  split <;> exact ⟨rfl, rfl⟩

theorem retireHead_closed (h : Closed P) (b : PressId) {s : State} (hs : P s) : P (retireHead b s) := by
  unfold retireHead
  try dsimp only
  repeat' split
  all_goals repeat' first | exact hs | with_reducible apply h.press | with_reducible apply retireFromLot_closed h | with_reducible apply wakeNoFloor_closed h | with_reducible apply wakePileFull_closed h | with_reducible apply h.freed | exact fun _ => rfl

theorem retireZeros_closed (h : Closed P) (b : PressId) (n : Nat) {s : State} (hs : P s) : P (retireZeros b n s) := by
  induction n generalizing s with
  | zero => exact hs
  | succ n ih =>
    unfold retireZeros
    split
    · exact ih (retireHead_closed h b hs)
    · exact hs

theorem retireEntry_closed (h : Closed P) (b : PressId) {s : State} (hs : P s) : P (retireEntry b s) := by
  unfold retireEntry
  try dsimp only
  all_goals repeat' first | exact hs | with_reducible apply retireHead_closed h | with_reducible apply retireZeros_closed h

theorem giveRun_closed (h : Closed P) (b : PressId) {s : State} (hs : P s) : P (giveRun b s) := by
  unfold giveRun
  try dsimp only
  repeat' split
  all_goals repeat' first | exact hs | with_reducible apply h.press | with_reducible apply h.down | exact fun _ => rfl

theorem giveStop_closed (h : Closed P) (b : PressId) {s : State} (hs : P s) : P (giveStop b s) := by
  unfold giveStop
  try dsimp only
  all_goals repeat' first | exact hs | with_reducible apply h.press | with_reducible apply safetyCommand_closed h | exact fun _ => rfl

theorem appendContent_closed (h : Closed P) (b : PressId) (c : Nat) {s : State} (hs : P s) : P (appendContent b c s) := by
  unfold appendContent
  try dsimp only
  all_goals repeat' first | exact hs | with_reducible apply onBale_closed h

theorem beginFill_closed (h : Closed P) (b : PressId) {s : State} (hs : P s) : P (beginFill b s) := by
  unfold beginFill
  try dsimp only
  repeat' split
  all_goals repeat' first | exact hs | with_reducible apply h.press | with_reducible apply startBaleOfLot_closed h | with_reducible apply giveRun_closed h | with_reducible apply appendContent_closed h | exact fun _ => rfl

theorem askFill_closed (h : Closed P) (b : PressId) {s : State} (hs : P s) : P (askFill b s) := by
  unfold askFill
  dsimp only
  split
  · exact beginFill_closed h b (askReservation_closed_of_eq h (h.press b (fun r => { r with fillDue := false }) (fun _ => rfl) hs) ‹_›)
  · exact h.press b (fun r => { r with reservationWait := true }) (fun _ => rfl) (askReservation_closed_of_eq h (h.press b (fun r => { r with fillDue := false }) (fun _ => rfl) hs) ‹_›)

theorem tryFill_closed (h : Closed P) (b : PressId) {s : State} (hs : P s) : P (tryFill b s) := by
  unfold tryFill
  try dsimp only
  repeat' split
  all_goals repeat' first | exact hs | with_reducible apply askFill_closed h

theorem withdrawBale_closed (h : Closed P) (b : PressId) (lot : Nat) {s : State} (hs : P s) : P (withdrawBale b lot s) := by
  unfold withdrawBale
  try dsimp only
  all_goals repeat' first | exact hs | with_reducible apply h.press | with_reducible apply returnReservation_closed h | with_reducible apply withdrawBaleOfLot_closed h | exact fun _ => rfl

theorem endFill_closed (h : Closed P) (b : PressId) (reason : FillEnd) {s : State} (hs : P s) : P (endFill b reason s) := by
  unfold endFill
  try dsimp only
  repeat' split
  all_goals repeat' first | exact hs | with_reducible apply h.press | with_reducible apply onBale_closed h | with_reducible apply giveStop_closed h | with_reducible apply withdrawBale_closed h | exact fun _ => rfl

theorem enterStarved_closed (h : Closed P) (b : PressId) {s : State} (hs : P s) : P (enterStarved b s) := by
  unfold enterStarved
  try dsimp only
  all_goals repeat' first | exact hs | with_reducible apply h.press | with_reducible apply h.latched | with_reducible apply giveStop_closed h | exact fun _ => rfl

theorem actOnHead_closed (h : Closed P) (b : PressId) {s : State} (hs : P s) : P (actOnHead b s) := by
  unfold actOnHead
  try dsimp only
  repeat' split
  all_goals repeat' first | exact hs | with_reducible apply appendContent_closed h | with_reducible apply endFill_closed h | with_reducible apply enterStarved_closed h

theorem bookRunning_closed (h : Closed P) (b : PressId) (c : Nat) (v : Int) {s : State} (hs : P s) : P (bookRunning b c v s) := by
  unfold bookRunning
  try dsimp only
  repeat' split
  all_goals repeat' first | exact hs | with_reducible apply h.charge | with_reducible apply onBale_closed h | with_reducible apply retireEntry_closed h | with_reducible apply endFill_closed h | with_reducible apply actOnHead_closed h

theorem bookCoast_closed (h : Closed P) (b : PressId) (c : Nat) (v : Int) {s : State} (hs : P s) : P (bookCoast b c v s) := by
  unfold bookCoast
  try dsimp only
  repeat' split
  all_goals repeat' first | exact hs | with_reducible apply h.charge | with_reducible apply onBale_closed h | with_reducible apply retireEntry_closed h

theorem fillScaleUpdate_closed (h : Closed P) (b : PressId) (u : Update) {s : State} (hs : P s) : P (fillScaleUpdate b u s) := by
  unfold fillScaleUpdate
  try dsimp only
  repeat' split
  all_goals repeat' first | exact hs | with_reducible apply h.press | with_reducible apply bookRunning_closed h | with_reducible apply bookCoast_closed h | exact fun _ => rfl

theorem lotEndTest_closed (h : Closed P) (b : PressId) {s : State} (hs : P s) : P (lotEndTest b s) := by
  unfold lotEndTest
  try dsimp only
  repeat' split
  all_goals repeat' first | exact hs | with_reducible apply endFill_closed h

theorem takeAppend_closed (h : Closed P) (b : PressId) {s : State} (hs : P s) : P (takeAppend b s) := by
  unfold takeAppend
  try dsimp only
  repeat' split
  all_goals repeat' first | exact hs | with_reducible apply h.press | with_reducible apply giveRun_closed h | with_reducible apply appendContent_closed h | with_reducible apply endFill_closed h | exact fun _ => rfl

theorem appendToPile_closed (h : Closed P) (b : PressId) (c : Nat) {s : State} (hs : P s) : P (appendToPile b c s) := by
  unfold appendToPile
  try dsimp only
  all_goals repeat' first | exact hs | with_reducible apply h.press | with_reducible apply retireZeros_closed h | with_reducible apply takeAppend_closed h | exact fun _ => rfl

theorem sendPhase_closed (h : Closed P) (b : PressId) (ph : Phase) {s : State} (hs : P s) : P (sendPhase b ph s) := by
  unfold sendPhase
  try dsimp only
  repeat' split
  all_goals repeat' first | exact hs | with_reducible apply h.press | with_reducible apply h.down | exact fun _ => rfl

theorem orderPhase_closed (h : Closed P) (b : PressId) (ph : Phase) {s : State} (hs : P s) : P (orderPhase b ph s) := by
  unfold orderPhase
  try dsimp only
  all_goals repeat' first | exact hs | with_reducible apply h.press | with_reducible apply sendPhase_closed h | exact fun _ => rfl

theorem pausePress_closed (h : Closed P) (b : PressId) (at_ : ResumePoint) {s : State} (hs : P s) : P (pausePress b at_ s) := by
  unfold pausePress
  try dsimp only
  all_goals repeat' first | exact hs | with_reducible apply h.press | exact fun _ => rfl

theorem enterWeighing_closed (h : Closed P) (b : PressId) {s : State} (hs : P s) : P (enterWeighing b s) := by
  unfold enterWeighing
  try dsimp only
  all_goals repeat' first | exact hs | with_reducible apply h.press | exact fun _ => rfl

theorem completePhase_closed (h : Closed P) (b : PressId) (ph : Phase) {s : State} (hs : P s) : P (completePhase b ph s) := by
  unfold completePhase
  try dsimp only
  repeat' split
  all_goals repeat' first | exact hs | with_reducible apply h.press | with_reducible apply orderPhase_closed h | with_reducible apply pausePress_closed h | with_reducible apply enterWeighing_closed h | exact fun _ => rfl

theorem faultPress_closed (h : Closed P) (b : PressId) (cause : FaultCause) {s : State} (hs : P s) : P (faultPress b cause s) := by
  unfold faultPress
  try dsimp only
  all_goals repeat' first | exact hs | with_reducible apply h.press | with_reducible apply h.latched | with_reducible apply safetyCommand_closed h | exact fun _ => rfl

theorem hydraulicsUpdate_closed (h : Closed P) (b : PressId) (u : Update) {s : State} (hs : P s) : P (hydraulicsUpdate b u s) := by
  unfold hydraulicsUpdate
  try dsimp only
  repeat' split
  all_goals repeat' first | exact hs | with_reducible apply completePhase_closed h | with_reducible apply faultPress_closed h

theorem completeBale_closed (h : Closed P) (b : PressId) {s : State} (hs : P s) : P (completeBale b s) := by
  unfold completeBale
  try dsimp only
  repeat' split
  all_goals repeat' first | exact hs | with_reducible apply h.press | with_reducible apply h.issued | with_reducible apply h.latched | with_reducible apply completeBaleOfLot_closed h | exact fun _ => rfl

theorem endBaleWeighing_closed (h : Closed P) (b : PressId) (gross net : Option Int) {s : State} (hs : P s) : P (endBaleWeighing b gross net s) := by
  unfold endBaleWeighing
  try dsimp only
  all_goals repeat' first | exact hs | with_reducible apply h.press | with_reducible apply onBale_closed h | with_reducible apply completeBale_closed h | exact fun _ => rfl

theorem oweReweighReply_closed (h : Closed P) (hu : ∀ {s : State} (f : Frame) (o : UpOrigin), P s → P (queueUp f o s)) (b : PressId) (r : ReweighReply) {s : State} (hs : P s) : P (oweReweighReply b r s) := by
  unfold oweReweighReply
  try dsimp only
  repeat' split
  all_goals repeat' first | exact hs | with_reducible apply h.press | with_reducible apply hu | exact fun _ => rfl

theorem resumeFill_closed (h : Closed P) (b : PressId) {s : State} (hs : P s) : P (resumeFill b s) := by
  unfold resumeFill
  try dsimp only
  repeat' split
  all_goals repeat' first | exact hs | with_reducible apply h.press | with_reducible apply giveRun_closed h | with_reducible apply appendContent_closed h | with_reducible apply endFill_closed h | with_reducible apply enterStarved_closed h | exact fun _ => rfl

theorem resumePress_closed (h : Closed P) (b : PressId) {s : State} (hs : P s) : P (resumePress b s) := by
  unfold resumePress
  try dsimp only
  repeat' split
  all_goals repeat' first | exact hs | with_reducible apply h.press | with_reducible apply orderPhase_closed h | with_reducible apply resumeFill_closed h | exact fun _ => rfl

theorem afterReweigh_closed (h : Closed P) (b : PressId) {s : State} (hs : P s) : P (afterReweigh b s) := by
  unfold afterReweigh
  try dsimp only
  repeat' split
  all_goals repeat' first | exact hs | with_reducible apply h.press | with_reducible apply resumePress_closed h | exact fun _ => rfl

theorem endReweighWeighed_closed (h : Closed P) (hu : ∀ {s : State} (f : Frame) (o : UpOrigin), P s → P (queueUp f o s)) (b : PressId) (w : WeighSlot) (gross net : Int) {s : State} (hs : P s) : P (endReweighWeighed b w gross net s) := by
  unfold endReweighWeighed
  try dsimp only
  repeat' split
  all_goals repeat' first | exact hs | with_reducible apply h.press | with_reducible apply h.issued | with_reducible apply oweReweighReply_closed h hu | exact fun _ => rfl

theorem endReweighUnweighed_closed (h : Closed P) (hu : ∀ {s : State} (f : Frame) (o : UpOrigin), P s → P (queueUp f o s)) (b : PressId) {s : State} (hs : P s) : P (endReweighUnweighed b s) := by
  unfold endReweighUnweighed
  try dsimp only
  all_goals repeat' first | exact hs | with_reducible apply returnReservation_closed h | with_reducible apply oweReweighReply_closed h hu

theorem baleScaleUpdate_closed (h : Closed P) (hu : ∀ {s : State} (f : Frame) (o : UpOrigin), P s → P (queueUp f o s)) (b : PressId) (u : Update) {s : State} (hs : P s) : P (baleScaleUpdate b u s) := by
  unfold baleScaleUpdate
  try dsimp only
  repeat' split
  all_goals repeat' first | exact hs | with_reducible apply h.press | with_reducible apply endBaleWeighing_closed h | with_reducible apply afterReweigh_closed h | with_reducible apply endReweighWeighed_closed h hu | exact fun _ => rfl

theorem clearAuto_closed (h : Closed P) (b : PressId) {s : State} (hs : P s) : P (clearAuto b s) := by
  unfold clearAuto
  try dsimp only
  repeat' split
  all_goals repeat' first | exact hs | with_reducible apply h.press | exact fun _ => rfl

theorem setAuto_closed (h : Closed P) (b : PressId) {s : State} (hs : P s) : P (setAuto b s) := by
  unfold setAuto
  try dsimp only
  repeat' split
  all_goals repeat' first | exact hs | with_reducible apply h.press | with_reducible apply tryFill_closed h | with_reducible apply resumePress_closed h | exact fun _ => rfl

theorem clearExcursion_closed (h : Closed P) (k : KilnId) {s : State} (hs : P s) : P (clearExcursion k s) := by
  unfold clearExcursion
  try dsimp only
  all_goals repeat' first | exact hs | with_reducible apply h.kiln | exact fun _ => ⟨rfl, rfl⟩

theorem setOwed_closed (h : Closed P) (k : KilnId) (t : HeatTarget) (b : Bool) {s : State} (hs : P s) : P (setOwed k t b s) := by
  unfold setOwed
  try dsimp only
  repeat' split
  all_goals repeat' first | exact hs | with_reducible apply h.kiln | exact fun _ => ⟨rfl, rfl⟩

theorem injectTo_closed (h : Closed P) (k : KilnId) (t : HeatTarget) (v : Int × Nat) {s : State} (hs : P s) : P (injectTo k t v s) := by
  unfold injectTo
  try dsimp only
  repeat' split
  all_goals repeat' first | exact hs | with_reducible apply h.down | with_reducible apply setOwed_closed h

theorem inject_closed (h : Closed P) (k : KilnId) {s : State} (hs : P s) : P (inject k s) := by
  unfold inject
  try dsimp only
  repeat' split
  all_goals repeat' first | exact hs | with_reducible apply h.kiln | with_reducible apply injectTo_closed h | exact fun _ => ⟨rfl, rfl⟩

theorem enterKiln_closed (h : Closed P) (k : KilnId) (st : KilnState) {s : State} (hs : P s) : P (enterKiln k st s) := by
  unfold enterKiln
  try dsimp only
  all_goals repeat' first | exact hs | with_reducible apply h.kiln | with_reducible apply inject_closed h | exact fun _ => ⟨rfl, rfl⟩

theorem enterAwaitingOrIdle_closed (h : Closed P) (k : KilnId) {s : State} (hs : P s) : P (enterAwaitingOrIdle k s) := by
  unfold enterAwaitingOrIdle
  try dsimp only
  repeat' split
  all_goals repeat' first | exact hs | with_reducible apply h.kiln | with_reducible apply offerKiln_closed h | with_reducible apply enterKiln_closed h | exact fun _ => ⟨rfl, rfl⟩

theorem enterLoading_closed (h : Closed P) (k : KilnId) {s : State} (hs : P s) : P (enterLoading k s) := by
  unfold enterLoading
  try dsimp only
  all_goals repeat' first | exact hs | with_reducible apply h.kiln | with_reducible apply enterKiln_closed h | exact fun _ => ⟨rfl, rfl⟩

theorem clearCycle_closed (h : Closed P) (k : KilnId) {s : State} (hs : P s) : P (clearCycle k s) := by
  unfold clearCycle
  try dsimp only
  all_goals repeat' first | exact hs | with_reducible apply h.kiln | exact fun _ => ⟨rfl, rfl⟩

theorem emptyDrop_closed (h : Closed P) (k : KilnId) {s : State} (hs : P s) : P (emptyDrop k s) := by
  unfold emptyDrop
  try dsimp only
  all_goals repeat' first | exact hs | with_reducible apply onRing_closed h | with_reducible apply enterAwaitingOrIdle_closed h | with_reducible apply clearCycle_closed h

theorem queueGate_closed (h : Closed P) (k : KilnId) (v : Int) {s : State} (hs : P s) : P (queueGate k v s) := by
  unfold queueGate
  try dsimp only
  repeat' split
  all_goals repeat' first | exact hs | with_reducible apply h.down

theorem takeDrop_closed (h : Closed P) (k : KilnId) (c : Nat) {s : State} (hs : P s) : P (takeDrop k c s) := by
  unfold takeDrop
  try dsimp only
  all_goals repeat' first | exact hs | with_reducible apply h.press | with_reducible apply h.charge | with_reducible apply onRing_closed h | with_reducible apply enterKiln_closed h | with_reducible apply clearCycle_closed h | with_reducible apply queueGate_closed h | exact fun _ => ⟨rfl, rfl⟩ | exact fun _ => rfl

theorem enterPileFull_closed (h : Closed P) (k : KilnId) {s : State} (hs : P s) : P (enterPileFull k s) := by
  unfold enterPileFull
  try dsimp only
  repeat' split
  all_goals repeat' first | exact hs | with_reducible apply h.latched | with_reducible apply enterKiln_closed h

theorem askDrop_closed (h : Closed P) (k : KilnId) {s : State} (hs : P s) : P (askDrop k s) := by
  unfold askDrop
  try dsimp only
  repeat' split
  all_goals repeat' first | exact hs | with_reducible apply h.kiln | with_reducible apply emptyDrop_closed h | with_reducible apply takeDrop_closed h | with_reducible apply enterPileFull_closed h | exact fun _ => ⟨rfl, rfl⟩

theorem oweDrop_closed (h : Closed P) (k : KilnId) {s : State} (hs : P s) : P (oweDrop k s) := by
  unfold oweDrop
  try dsimp only
  repeat' split
  all_goals repeat' first | exact hs | with_reducible apply inject_closed h | with_reducible apply askDrop_closed h

theorem completeCycle_closed (h : Closed P) (k : KilnId) {s : State} (hs : P s) : P (completeCycle k s) := by
  unfold completeCycle
  try dsimp only
  all_goals repeat' first | exact hs | with_reducible apply h.kiln | with_reducible apply h.latched | with_reducible apply passCycle_closed h | with_reducible apply clearExcursion_closed h | with_reducible apply oweDrop_closed h | exact fun _ => ⟨rfl, rfl⟩

theorem moistureAtEntry_closed (h : Closed P) (k : KilnId) {s : State} (hs : P s) : P (moistureAtEntry k s) := by
  unfold moistureAtEntry
  try dsimp only
  repeat' split
  all_goals repeat' first | exact hs | with_reducible apply completeCycle_closed h

theorem loadStage_closed (h : Closed P) (k : KilnId) (n elapsed : Nat) {s : State} (hs : P s) : P (loadStage k n elapsed s) := by
  unfold loadStage
  try dsimp only
  repeat' split
  all_goals repeat' first | exact hs | with_reducible apply h.kiln | with_reducible apply enterKiln_closed h | exact fun _ => ⟨rfl, rfl⟩

theorem enterStage_closed (h : Closed P) (k : KilnId) (n : Nat) {s : State} (hs : P s) : P (enterStage k n s) := by
  unfold enterStage
  try dsimp only
  all_goals repeat' first | exact hs | with_reducible apply moistureAtEntry_closed h | with_reducible apply loadStage_closed h

theorem endStage_closed (h : Closed P) (k : KilnId) {s : State} (hs : P s) : P (endStage k s) := by
  unfold endStage
  try dsimp only
  repeat' split
  all_goals repeat' first | exact hs | with_reducible apply completeCycle_closed h | with_reducible apply enterStage_closed h

theorem timedDry_closed (h : Closed P) (k : KilnId) {s : State} (hs : P s) : P (timedDry k s) := by
  unfold timedDry
  try dsimp only
  repeat' split
  all_goals repeat' first | exact hs | with_reducible apply h.charge | with_reducible apply completeCycle_closed h

theorem resumeStage_closed (h : Closed P) (k : KilnId) (n elapsed : Nat) {s : State} (hs : P s) : P (resumeStage k n elapsed s) := by
  unfold resumeStage
  try dsimp only
  repeat' split
  all_goals repeat' first | exact hs | with_reducible apply moistureAtEntry_closed h | with_reducible apply loadStage_closed h | with_reducible apply endStage_closed h | with_reducible apply timedDry_closed h

theorem startCycle_closed (h : Closed P) (k : KilnId) {s : State} (hs : P s) : P (startCycle k s) := by
  unfold startCycle
  try dsimp only
  all_goals repeat' first | exact hs | with_reducible apply h.kiln | with_reducible apply enterStage_closed h | exact fun _ => ⟨rfl, rfl⟩

theorem tryStart_closed (h : Closed P) (k : KilnId) {s : State} (hs : P s) : P (tryStart k s) := by
  unfold tryStart
  try dsimp only
  repeat' split
  all_goals repeat' first | exact hs | with_reducible apply startCycle_closed h

theorem enterReady_closed (h : Closed P) (k : KilnId) {s : State} (hs : P s) : P (enterReady k s) := by
  unfold enterReady
  try dsimp only
  all_goals repeat' first | exact hs | with_reducible apply enterKiln_closed h | with_reducible apply tryStart_closed h

theorem closeGate_closed (h : Closed P) (k : KilnId) {s : State} (hs : P s) : P (closeGate k s) := by
  unfold closeGate
  try dsimp only
  repeat' split
  all_goals repeat' first | exact hs | with_reducible apply h.down | with_reducible apply onRing_closed h

theorem afterDrop_closed (h : Closed P) (k : KilnId) {s : State} (hs : P s) : P (afterDrop k s) := by
  unfold afterDrop
  try dsimp only
  repeat' split
  all_goals repeat' first | exact hs | with_reducible apply enterKiln_closed h | with_reducible apply enterAwaitingOrIdle_closed h

theorem creditDrop_closed (h : Closed P) (k : KilnId) (d : Drop) {s : State} (hs : P s) : P (creditDrop k d s) := by
  unfold creditDrop
  try dsimp only
  split
  all_goals repeat' first | exact hs | with_reducible apply h.charge | with_reducible apply addDried_closed h

theorem completeDrop_closed (h : Closed P) (k : KilnId) {s : State} (hs : P s) : P (completeDrop k s) := by
  unfold completeDrop
  try dsimp only
  repeat' split
  all_goals repeat' first | exact hs | with_reducible apply onRing_closed h | with_reducible apply creditDrop_closed h | with_reducible apply appendToPile_closed h | with_reducible apply closeGate_closed h | with_reducible apply afterDrop_closed h | with_reducible apply lotEndTest_closed h

theorem interruptDrop_closed (h : Closed P) (k : KilnId) {s : State} (hs : P s) : P (interruptDrop k s) := by
  unfold interruptDrop
  try dsimp only
  repeat' split
  all_goals repeat' first | exact hs | with_reducible apply h.charge

theorem dropGateUpdate_closed (h : Closed P) (k : KilnId) (u : Update) {s : State} (hs : P s) : P (dropGateUpdate k u s) := by
  unfold dropGateUpdate
  try dsimp only
  repeat' split
  all_goals repeat' first | exact hs | with_reducible apply completeDrop_closed h

theorem dropScaleUpdate_closed (h : Closed P) (k : KilnId) (u : Update) {s : State} (hs : P s) : P (dropScaleUpdate k u s) := by
  unfold dropScaleUpdate
  try dsimp only
  repeat' split
  all_goals repeat' first | exact hs | with_reducible apply h.charge | with_reducible apply onRing_closed h

theorem moistureUpdate_closed (h : Closed P) (k : KilnId) (u : Update) {s : State} (hs : P s) : P (moistureUpdate k u s) := by
  unfold moistureUpdate
  try dsimp only
  repeat' split
  all_goals repeat' first | exact hs | with_reducible apply completeCycle_closed h

theorem clearHoldOff_closed (h : Closed P) (k : KilnId) {s : State} (hs : P s) : P (clearHoldOff k s) := by
  unfold clearHoldOff
  try dsimp only
  repeat' split
  all_goals repeat' first | exact hs | with_reducible apply h.kiln | with_reducible apply clearExcursion_closed h | with_reducible apply enterKiln_closed h | exact fun _ => ⟨rfl, rfl⟩

theorem decideBand_closed (h : Closed P) (k : KilnId) {s : State} (hs : P s) : P (decideBand k s) := by
  unfold decideBand
  try dsimp only
  repeat' split
  all_goals repeat' first | exact hs | with_reducible apply h.kiln | with_reducible apply h.latched | with_reducible apply clearHoldOff_closed h | exact fun _ => ⟨rfl, rfl⟩

theorem airTempUpdate_closed (h : Closed P) (k : KilnId) (u : Update) {s : State} (hs : P s) : P (airTempUpdate k u s) := by
  unfold airTempUpdate
  try dsimp only
  repeat' split
  all_goals repeat' first | exact hs | with_reducible apply h.kiln | with_reducible apply clearExcursion_closed h | with_reducible apply decideBand_closed h | exact fun _ => ⟨rfl, rfl⟩

theorem returnToStage_closed (h : Closed P) (k : KilnId) {s : State} (hs : P s) : P (returnToStage k s) := by
  unfold returnToStage
  try dsimp only
  repeat' split
  all_goals repeat' first | exact hs | with_reducible apply enterKiln_closed h | with_reducible apply moistureAtEntry_closed h

theorem releaseHold_closed (h : Closed P) (k : KilnId) {s : State} (hs : P s) : P (releaseHold k s) := by
  unfold releaseHold
  try dsimp only
  repeat' split
  all_goals repeat' first | exact hs | with_reducible apply h.kiln | with_reducible apply returnToStage_closed h | exact fun _ => ⟨rfl, rfl⟩

theorem clearSchedule_closed (h : Closed P) (k : KilnId) {s : State} (hs : P s) : P (clearSchedule k s) := by
  unfold clearSchedule
  try dsimp only
  repeat' split
  all_goals repeat' first | exact hs | with_reducible apply h.kiln | with_reducible apply clearExcursion_closed h | with_reducible apply enterKiln_closed h | exact fun _ => ⟨rfl, rfl⟩

theorem setSchedule_closed (h : Closed P) (k : KilnId) {s : State} (hs : P s) : P (setSchedule k s) := by
  unfold setSchedule
  try dsimp only
  repeat' split
  all_goals repeat' first | exact hs | with_reducible apply h.kiln | with_reducible apply inject_closed h | with_reducible apply enterKiln_closed h | with_reducible apply tryStart_closed h | with_reducible apply returnToStage_closed h | exact fun _ => ⟨rfl, rfl⟩

theorem feedStop_closed (h : Closed P) (p : PickerId) {s : State} (hs : P s) : P (feedStop p s) := by
  unfold feedStop
  try dsimp only
  all_goals repeat' first | exact hs | with_reducible apply safetyCommand_closed h

theorem enterHeld_closed (h : Closed P) (p : PickerId) {s : State} (hs : P s) : P (enterHeld p s) := by
  unfold enterHeld
  try dsimp only
  all_goals repeat' first | exact hs | with_reducible apply h.picker | with_reducible apply h.latched | with_reducible apply feedStop_closed h | exact fun _ => rfl

theorem enterStopped_closed (h : Closed P) (p : PickerId) {s : State} (hs : P s) : P (enterStopped p s) := by
  unfold enterStopped
  try dsimp only
  all_goals repeat' first | exact hs | with_reducible apply h.picker | with_reducible apply feedStop_closed h | exact fun _ => rfl

theorem enterRunning_closed (h : Closed P) (p : PickerId) {s : State} (hs : P s) : P (enterRunning p s) := by
  unfold enterRunning
  try dsimp only
  all_goals repeat' first | exact hs | with_reducible apply h.picker | exact fun _ => rfl

theorem holdIfRunning_closed (h : Closed P) (p : PickerId) {s : State} (hs : P s) : P (holdIfRunning p s) := by
  unfold holdIfRunning
  try dsimp only
  repeat' split
  all_goals repeat' first | exact hs | with_reducible apply enterHeld_closed h

theorem onReasons_closed (h : Closed P) (p : PickerId) (f : HoldReasons → HoldReasons) {s : State} (hs : P s) : P (onReasons p f s) := by
  unfold onReasons
  try dsimp only
  all_goals repeat' first | exact hs | with_reducible apply h.picker | exact fun _ => rfl

theorem dropOpeningReasons_closed (h : Closed P) (p : PickerId) {s : State} (hs : P s) : P (dropOpeningReasons p s) :=
  leaveOffers_closed h p (h.picker p _ (fun _ => rfl) hs)

theorem failOpening_closed (h : Closed P) (p : PickerId) (floor : Bool) {s : State} (hs : P s) : P (failOpening p floor s) := by
  unfold failOpening
  try dsimp only
  repeat' split
  all_goals repeat' first | exact hs | with_reducible apply h.picker | with_reducible apply enterHeld_closed h | exact fun _ => rfl

theorem refuseLot_closed (h : Closed P) (p : PickerId) (k : KilnId) (lot : Nat) {s : State} (hs : P s) : P (refuseLot p k lot s) := by
  unfold refuseLot
  try dsimp only
  repeat' split
  all_goals repeat' first | exact hs | with_reducible apply h.picker | with_reducible apply h.latched | with_reducible apply returnReservation_closed h | with_reducible apply offerToOthers_closed h | with_reducible apply enterHeld_closed h | exact fun _ => rfl

theorem queueDistributor_closed (h : Closed P) (p : PickerId) (k : KilnId) {s : State} (hs : P s) : P (queueDistributor p k s) := by
  unfold queueDistributor
  try dsimp only
  repeat' split
  all_goals repeat' first | exact hs | with_reducible apply h.down

theorem completeOpening_closed (h : Closed P) (p : PickerId) (k : KilnId) (lot : Nat) {s : State} (hs : P s) : P (completeOpening p k lot s) := by
  unfold completeOpening
  try dsimp only
  all_goals repeat' first | exact hs | with_reducible apply h.picker | with_reducible apply onRing_closed h | with_reducible apply claimOpening_closed h | with_reducible apply enterLoading_closed h | with_reducible apply enterRunning_closed h | with_reducible apply queueDistributor_closed h | with_reducible apply h.opened | exact fun _ => ⟨rfl, rfl⟩ | exact fun _ => rfl

theorem tryOpen_closed (h : Closed P) (p : PickerId) (target : OpeningTarget) {s : State} (hs : P s) :
    P (tryOpen p target s).2 := by
  unfold tryOpen
  split
  · exact hs
  · dsimp only
    split
    · split
      · exact failOpening_closed h _ _ (askReservation_closed_of_eq h (h.picker p (fun r => { r with woken := false, retryFrom := none }) (fun _ => rfl) hs) ‹_›)
      · have ht := askReservation_closed_of_eq h (h.picker p (fun r => { r with woken := false, retryFrom := none }) (fun _ => rfl) hs) ‹_›
        split
        · split
          · exact returnReservation_closed h _ (failOpening_closed h _ _ ht)
          · split
            · exact completeOpening_closed h _ _ _ ht
            · exact refuseLot_closed h _ _ _ ht
        · exact returnReservation_closed h _ (failOpening_closed h _ _ ht)
    · exact failOpening_closed h _ _ (h.picker p (fun r => { r with retryFrom := some _ }) (fun _ => rfl) (h.picker p (fun r => { r with woken := false, retryFrom := none }) (fun _ => rfl) hs))

theorem openOwn_closed (h : Closed P) (p : PickerId) {s : State} (hs : P s) : P (openOwn p s) := by
  unfold openOwn
  try dsimp only
  all_goals repeat' first | exact hs | with_reducible apply tryOpen_closed h

theorem afterRemoval_closed (h : Closed P) (p : PickerId) {s : State} (hs : P s) : P (afterRemoval p s) := by
  unfold afterRemoval
  try dsimp only
  repeat' split
  all_goals repeat' first | exact hs | with_reducible apply enterRunning_closed h | with_reducible apply openOwn_closed h

theorem closeCore_closed (h : Closed P) (p : PickerId) (n : Nat) (c : Charge) (reason : CloseReason) {s : State} (hs : P s) : P (closeCore p n c reason s) := by
  unfold closeCore
  try dsimp only
  all_goals repeat' first | exact hs | with_reducible apply h.picker | with_reducible apply h.issued | with_reducible apply h.charge | with_reducible apply onRing_closed h | exact fun _ => ⟨rfl, rfl⟩ | exact fun _ => rfl

theorem pickerAfterClose_closed (h : Closed P) (p : PickerId) {s : State} (hs : P s) : P (pickerAfterClose p s) := by
  unfold pickerAfterClose
  try dsimp only
  repeat' split
  all_goals repeat' first | exact hs | with_reducible apply h.picker | with_reducible apply openOwn_closed h | exact fun _ => rfl

theorem leaveLoading_closed (h : Closed P) (k : KilnId) {s : State} (hs : P s) : P (leaveLoading k s) := by
  unfold leaveLoading
  split
  all_goals repeat' first | exact hs | with_reducible apply enterReady_closed h

theorem closeToReady_closed (h : Closed P) (p : PickerId) (reason : CloseReason) {s : State} (hs : P s) : P (closeToReady p reason s) := by
  unfold closeToReady
  try dsimp only
  repeat' split
  all_goals repeat' first | exact hs | with_reducible apply leaveLoading_closed h | with_reducible apply closeCore_closed h

theorem closeCharge_closed (h : Closed P) (p : PickerId) (reason : CloseReason) {s : State} (hs : P s) : P (closeCharge p reason s) := by
  unfold closeCharge
  try dsimp only
  all_goals repeat' first | exact hs | with_reducible apply pickerAfterClose_closed h | with_reducible apply closeToReady_closed h

theorem beltPollTimer_closed (h : Closed P) (p : PickerId) (fast : Bool) {s : State} (hs : P s) : P (beltPollTimer p fast s) := by
  unfold beltPollTimer
  try dsimp only
  repeat' split
  all_goals repeat' first | exact hs | with_reducible apply h.timer

theorem startClearance_closed (h : Closed P) (p : PickerId) {s : State} (hs : P s) : P (startClearance p s) := by
  unfold startClearance
  try dsimp only
  all_goals repeat' first | exact hs | with_reducible apply h.picker | with_reducible apply feedStop_closed h | with_reducible apply beltPollTimer_closed h | exact fun _ => rfl

theorem afterClearance_closed (h : Closed P) (p : PickerId) {s : State} (hs : P s) : P (afterClearance p s) := by
  unfold afterClearance
  try dsimp only
  repeat' split
  all_goals repeat' first | exact hs | with_reducible apply h.picker | with_reducible apply enterHeld_closed h | with_reducible apply enterStopped_closed h | with_reducible apply openOwn_closed h | exact fun _ => rfl

theorem finishClearance_closed (h : Closed P) (p : PickerId) {s : State} (hs : P s) : P (finishClearance p s) := by
  unfold finishClearance
  try dsimp only
  all_goals repeat' first | exact hs | with_reducible apply h.picker | with_reducible apply closeToReady_closed h | with_reducible apply beltPollTimer_closed h | exact fun _ => rfl

theorem endClearance_closed (h : Closed P) (p : PickerId) {s : State} (hs : P s) : P (endClearance p s) := by
  unfold endClearance
  try dsimp only
  all_goals repeat' first | exact hs | with_reducible apply afterClearance_closed h | with_reducible apply finishClearance_closed h

theorem takeNewLot_closed (h : Closed P) (p : PickerId) (lot : Nat) {s : State} (hs : P s) : P (takeNewLot p lot s) := by
  unfold takeNewLot
  try dsimp only
  repeat' split
  all_goals repeat' first | exact hs | with_reducible apply h.picker | with_reducible apply openOwn_closed h | with_reducible apply startClearance_closed h | exact fun _ => rfl

theorem takeUsable_closed (h : Closed P) (p : PickerId) (lot : Nat) {s : State} (hs : P s) : P (takeUsable p lot s) := by
  unfold takeUsable
  try dsimp only
  repeat' split
  all_goals repeat' first | exact hs | with_reducible apply h.picker | with_reducible apply afterRemoval_closed h | with_reducible apply takeNewLot_closed h | exact fun _ => rfl

theorem takeUnusable_closed (h : Closed P) (p : PickerId) (lot : Nat) {s : State} (hs : P s) : P (takeUnusable p lot s) := by
  unfold takeUnusable
  try dsimp only
  repeat' split
  all_goals repeat' first | exact hs | with_reducible apply h.picker | with_reducible apply h.latched | with_reducible apply holdIfRunning_closed h | exact fun _ => rfl

theorem takeCard_closed (h : Closed P) (p : PickerId) (lot : Nat) {s : State} (hs : P s) : P (takeCard p lot s) := by
  unfold takeCard
  try dsimp only
  repeat' split
  all_goals repeat' first | exact hs | with_reducible apply takeUsable_closed h | with_reducible apply takeUnusable_closed h

theorem wagonUpdate_closed (h : Closed P) (p : PickerId) (u : Update) {s : State} (hs : P s) : P (wagonUpdate p u s) := by
  unfold wagonUpdate
  try dsimp only
  repeat' split
  all_goals repeat' first | exact hs | with_reducible apply takeCard_closed h

theorem bookCharge_closed (h : Closed P) (p : PickerId) (n : Nat) (c : Charge) (v : Int) (substituted : Bool) {s : State} (hs : P s) : P (bookCharge p n c v substituted s) := by
  unfold bookCharge
  try dsimp only
  repeat' split
  all_goals repeat' first | exact hs | with_reducible apply h.charge | with_reducible apply addGreen_closed h | with_reducible apply closeCharge_closed h

theorem bookBelt_closed (h : Closed P) (p : PickerId) (v : Int) (substituted : Bool) {s : State} (hs : P s) : P (bookBelt p v substituted s) := by
  unfold bookBelt
  try dsimp only
  repeat' split
  all_goals repeat' first | exact hs | with_reducible apply h.picker | with_reducible apply bookCharge_closed h | exact fun _ => rfl

theorem beltSensor_closed (h : Closed P) (p : PickerId) (u : Update) {s : State} (hs : P s) : P (beltSensor p u s) := by
  unfold beltSensor
  try dsimp only
  repeat' split
  all_goals repeat' first | exact hs | with_reducible apply holdIfRunning_closed h | with_reducible apply onReasons_closed h | with_reducible apply afterRemoval_closed h

theorem beltQuiet_closed (h : Closed P) (p : PickerId) (u : Update) {s : State} (hs : P s) : P (beltQuiet p u s) := by
  unfold beltQuiet
  try dsimp only
  repeat' split
  all_goals repeat' first | exact hs | with_reducible apply h.picker | exact fun _ => rfl

theorem beltUpdate_closed (h : Closed P) (p : PickerId) (u : Update) {s : State} (hs : P s) : P (beltUpdate p u s) := by
  unfold beltUpdate
  try dsimp only
  repeat' split
  all_goals repeat' first | exact hs | with_reducible apply bookBelt_closed h | with_reducible apply beltSensor_closed h | with_reducible apply beltQuiet_closed h

theorem clearFeedEnable_closed (h : Closed P) (p : PickerId) {s : State} (hs : P s) : P (clearFeedEnable p s) := by
  unfold clearFeedEnable
  try dsimp only
  repeat' split
  all_goals repeat' first | exact hs | with_reducible apply h.picker | with_reducible apply holdIfRunning_closed h | exact fun _ => rfl

theorem limitClearance_closed (h : Closed P) (p : PickerId) {s : State} (hs : P s) : P (limitClearance p s) := by
  unfold limitClearance
  try dsimp only
  repeat' split
  all_goals repeat' first | exact hs | with_reducible apply h.charge | with_reducible apply h.latched | with_reducible apply endClearance_closed h

theorem takeOffer_closed (h : Closed P) (p : PickerId) (k : KilnId) {s : State} (hs : P s) : P (takeOffer p k s) := by
  unfold takeOffer
  try dsimp only
  repeat' split
  all_goals repeat' first | exact hs | with_reducible apply settleOffer_closed h | with_reducible apply onRing_closed h | with_reducible apply tryOpen_closed h

theorem clearFlag_closed (h : Closed P) (f : ModeFlag) {s : State} (hs : P s) : P (clearFlag f s) := by
  unfold clearFlag
  try dsimp only
  repeat' split
  all_goals repeat' first | exact hs | with_reducible apply clearAuto_closed h | with_reducible apply clearHoldOff_closed h | with_reducible apply clearSchedule_closed h | with_reducible apply clearFeedEnable_closed h

theorem fireWatch_closed (h : Closed P) (n : Nat) {s : State} (hs : P s) : P (fireWatch n s) := by
  unfold fireWatch
  exact foldl_closed _ (fun _ _ hs => clearFlag_closed h _ hs) _ (h.latched _ (h.watch _ _ hs))

theorem moveWatch_closed (h : Closed P) (n : Nat) (holds : Bool) {s : State} (hs : P s) : P (moveWatch n holds s) := by
  unfold moveWatch
  try dsimp only
  repeat' split
  all_goals repeat' first | exact hs | with_reducible apply h.watch | with_reducible apply fireWatch_closed h

theorem takeReading_closed (h : Closed P) (n : Nat) (v : View) {s : State} (hs : P s) : P (takeReading n v s) := by
  unfold takeReading
  try dsimp only
  repeat' split
  all_goals repeat' first | exact hs | with_reducible apply h.watch | with_reducible apply moveWatch_closed h

theorem watchesTake_closed (h : Closed P) (station channel : Nat) (v : View) {s : State} (hs : P s) : P (watchesTake station channel v s) := 
  foldl_closed _ (fun _ _ hs => by split <;> first | exact takeReading_closed h _ _ hs | exact hs) _ hs

theorem captureCycle_closed (h : Closed P) (k : KilnId) {s : State} (hs : P s) : P (captureCycle k s) := by
  unfold captureCycle
  try dsimp only
  repeat' split
  all_goals repeat' first | exact hs | with_reducible apply h.kiln | exact fun _ => ⟨rfl, rfl⟩

theorem enterTripped_closed (h : Closed P) (k : KilnId) {s : State} (hs : P s) : P (enterTripped k s) := by
  unfold enterTripped
  try dsimp only
  repeat' split
  all_goals repeat' first | exact hs | with_reducible apply h.kiln | with_reducible apply clearExcursion_closed h | with_reducible apply clearCycle_closed h | exact fun _ => ⟨rfl, rfl⟩

theorem purgeFrames_closed (h : Closed P) (k : KilnId) {s : State} (hs : P s) : P (purgeFrames k s) := by
  unfold purgeFrames
  try dsimp only
  all_goals repeat' first | exact hs | with_reducible apply safetyCommand_closed h

theorem trip_closed (h : Closed P) (hp : ∀ {s : State} (k : KilnId) (f : Permit → Permit), P s → P (s.onPermit k f)) (k : KilnId) {s : State} (hs : P s) : P (trip k s) := by
  unfold trip
  try dsimp only
  repeat' split
  all_goals repeat' first | exact hs | with_reducible apply hp | with_reducible apply h.latched | with_reducible apply onPermit_closed h | with_reducible apply closeCore_closed h | with_reducible apply pickerAfterClose_closed h | with_reducible apply captureCycle_closed h | with_reducible apply enterTripped_closed h | with_reducible apply purgeFrames_closed h

theorem permitOff_closed (h : Closed P) (hp : ∀ {s : State} (k : KilnId) (f : Permit → Permit), P s → P (s.onPermit k f)) (k : KilnId) {s : State} (hs : P s) : P (permitOff k s) := by
  unfold permitOff
  try dsimp only
  repeat' split
  all_goals repeat' first | exact hs | with_reducible apply hp | with_reducible apply onPermit_closed h | with_reducible apply clearExcursion_closed h

theorem failRenewal_closed (h : Closed P) (hp : ∀ {s : State} (k : KilnId) (f : Permit → Permit), P s → P (s.onPermit k f)) (k : KilnId) {s : State} (hs : P s) : P (failRenewal k s) := by
  unfold failRenewal
  try dsimp only
  repeat' split
  all_goals repeat' first | exact hs | with_reducible apply hp | with_reducible apply h.latched | with_reducible apply trip_closed h hp | with_reducible apply permitOff_closed h hp

theorem renewPermit_closed (hp : ∀ {s : State} (k : KilnId) (f : Permit → Permit), P s → P (s.onPermit k f)) (k : KilnId) {s : State} (hs : P s) : P (renewPermit k s) := by
  unfold renewPermit
  try dsimp only
  all_goals repeat' first | exact hs | with_reducible apply hp

theorem closeForCycle_closed (h : Closed P) (k : KilnId) {s : State} (hs : P s) : P (closeForCycle k s) := by
  unfold closeForCycle
  try dsimp only
  repeat' split
  all_goals repeat' first | exact hs | with_reducible apply enterKiln_closed h | with_reducible apply closeCore_closed h | with_reducible apply pickerAfterClose_closed h

theorem resumeCapture_closed (h : Closed P) (k : KilnId) (c : Capture) {s : State} (hs : P s) : P (resumeCapture k c s) := by
  unfold resumeCapture
  try dsimp only
  repeat' split
  all_goals repeat' first | exact hs | with_reducible apply h.kiln | with_reducible apply askDrop_closed h | with_reducible apply enterKiln_closed h | with_reducible apply resumeStage_closed h | exact fun _ => ⟨rfl, rfl⟩

theorem releaseUnknown_closed (h : Closed P) (p : PickerId) (n : Nat) {s : State} (hs : P s) : P (releaseUnknown p n s) := by
  unfold releaseUnknown
  try dsimp only
  repeat' split
  all_goals repeat' first | exact hs | with_reducible apply takeCard_closed h

theorem lotEndTestOf_closed (h : Closed P) (n : Nat) (b : PressId) {s : State} (hs : P s) : P (lotEndTestOf n b s) := by
  unfold lotEndTestOf
  split
  · exact lotEndTest_closed h b hs
  · exact hs

theorem closeLot_closed (h : Closed P) (n : Nat) {s : State} (hs : P s) : P (closeLot n s) := by
  unfold closeLot
  try dsimp only
  all_goals repeat' first | exact hs | with_reducible apply h.lot | with_reducible apply settleTest_closed h | with_reducible apply lotEndTestOf_closed h

theorem startPicker_closed (h : Closed P) (p : PickerId) {s : State} (hs : P s) : P (startPicker p s) := by
  unfold startPicker
  try dsimp only
  repeat' split
  all_goals repeat' first | exact hs | with_reducible apply enterHeld_closed h | with_reducible apply enterRunning_closed h | with_reducible apply openOwn_closed h | with_reducible apply startClearance_closed h

theorem stopPicker_closed (h : Closed P) (p : PickerId) {s : State} (hs : P s) : P (stopPicker p s) := by
  unfold stopPicker
  try dsimp only
  repeat' split
  all_goals repeat' first | exact hs | with_reducible apply h.picker | with_reducible apply enterStopped_closed h | with_reducible apply dropOpeningReasons_closed h | exact fun _ => rfl

theorem releasePicker_closed (h : Closed P) (p : PickerId) {s : State} (hs : P s) : P (releasePicker p s) := by
  unfold releasePicker
  try dsimp only
  repeat' split
  all_goals repeat' first | exact hs | with_reducible apply h.picker | with_reducible apply afterRemoval_closed h | exact fun _ => rfl

theorem clearPress_closed (h : Closed P) (b : PressId) {s : State} (hs : P s) : P (clearPress b s) := by
  unfold clearPress
  try dsimp only
  all_goals repeat' first | exact hs | with_reducible apply h.press | with_reducible apply onBale_closed h | with_reducible apply completeBale_closed h | exact fun _ => rfl

theorem startReweigh_closed (h : Closed P) (b : PressId) (n tag : Nat) {s : State} (hs : P s) : P (startReweigh b n tag s) := by
  unfold startReweigh
  try dsimp only
  all_goals repeat' first | exact hs | with_reducible apply h.press | exact fun _ => rfl

theorem queueTicket_closed (h : Closed P) (hu : ∀ {s : State} (f : Frame) (o : UpOrigin), P s → P (queueUp f o s)) (t : Ticket) {s : State} (hs : P s) : P (queueTicket t s) := 
  by
  unfold queueTicket
  exact h.transfer _ (foldl_closed _ (fun _ _ hs => hu _ _ hs) _ hs)

theorem yardPicker_closed (h : Closed P) (p : PickerId) {s : State} (hs : P s) : P (yardPicker p s) := by
  unfold yardPicker
  try dsimp only
  repeat' split
  all_goals repeat' first | exact hs | with_reducible apply h.picker | with_reducible apply enterStopped_closed h | with_reducible apply dropOpeningReasons_closed h | with_reducible apply finishClearance_closed h | exact fun _ => rfl

theorem takeOffers_closed (h : Closed P) (k : KilnId) (n : Nat) {s : State} (hs : P s) : P (takeOffers k n s) := by
  induction n generalizing s with
  | zero => exact hs
  | succ n ih =>
    unfold takeOffers
    split
    · exact ih (takeOffer_closed h _ k hs)
    · exact hs

theorem loseCycle_closed (h : Closed P) (k : KilnId) {s : State} (hs : P s) : P (loseCycle k s) := by
  unfold loseCycle
  try dsimp only
  repeat' split
  all_goals repeat' first | exact hs | with_reducible apply clearExcursion_closed h | with_reducible apply enterAwaitingOrIdle_closed h | with_reducible apply clearCycle_closed h | with_reducible apply enterReady_closed h

theorem yardKiln_closed (h : Closed P) (k : KilnId) {s : State} (hs : P s) : P (yardKiln k s) := by
  unfold yardKiln
  try dsimp only
  repeat' split
  all_goals repeat' first | exact hs | with_reducible apply completeDrop_closed h | with_reducible apply interruptDrop_closed h | with_reducible apply takeOffers_closed h | with_reducible apply loseCycle_closed h

theorem yardReweigh_closed (h : Closed P) (hu : ∀ {s : State} (f : Frame) (o : UpOrigin), P s → P (queueUp f o s)) (b : PressId) {s : State} (hs : P s) : P (yardReweigh b s) := by
  unfold yardReweigh
  try dsimp only
  repeat' split
  all_goals repeat' first | exact hs | with_reducible apply afterReweigh_closed h | with_reducible apply endReweighUnweighed_closed h hu

theorem yardFill_closed (h : Closed P) (b : PressId) {s : State} (hs : P s) : P (yardFill b s) := by
  unfold yardFill
  try dsimp only
  repeat' split
  all_goals repeat' first | exact hs | with_reducible apply h.press | with_reducible apply giveStop_closed h | with_reducible apply pausePress_closed h | exact fun _ => rfl

theorem yardPress_closed (h : Closed P) (hu : ∀ {s : State} (f : Frame) (o : UpOrigin), P s → P (queueUp f o s)) (b : PressId) {s : State} (hs : P s) : P (yardPress b s) := by
  unfold yardPress
  try dsimp only
  repeat' split
  all_goals repeat' first | exact hs | with_reducible apply h.press | with_reducible apply faultPress_closed h | with_reducible apply yardReweigh_closed h hu | with_reducible apply yardFill_closed h | exact fun _ => rfl

theorem yardUnit_closed (h : Closed P) (hu : ∀ {s : State} (f : Frame) (o : UpOrigin), P s → P (queueUp f o s)) (u : UnitId) {s : State} (hs : P s) : P (yardUnit s u) := by
  cases u with
  | picker p => exact yardPicker_closed h p hs
  | kiln k => exact yardKiln_closed h k hs
  | press b => exact yardPress_closed h hu b hs

theorem permitsOff_closed (hp : ∀ {s : State} (k : KilnId) (f : Permit → Permit), P s → P (s.onPermit k f)) {s : State} (hs : P s) : P (permitsOff s) := 
  foldl_closed _ (fun _ _ hs => hp _ _ hs) _ hs

theorem restartAllTimers_closed (h : Closed P) {s : State} (hs : P s) : P (restartAllTimers s) := 
  foldl_closed _ (fun _ _ hs => restartPollTimer_closed h _ _ hs) _ hs

theorem resetTransfer_closed (h : Closed P) (hu : ∀ {s : State} (f : Frame) (o : UpOrigin), P s → P (queueUp f o s)) {s : State} (hs : P s) : P (resetTransfer s) := by
  unfold resetTransfer
  try dsimp only
  repeat' split
  all_goals repeat' first | exact hs | with_reducible apply queueFetchEnd_closed h hu

theorem redistribute_closed (h : Closed P) (p : PickerId) {s : State} (hs : P s) : P (redistribute p s) := by
  unfold redistribute
  try dsimp only
  repeat' split
  all_goals repeat' first | exact hs | with_reducible apply h.picker | with_reducible apply queueDistributor_closed h | exact fun _ => rfl

theorem restorePicker_closed (h : Closed P) (p : PickerId) {s : State} (hs : P s) : P (restorePicker p s) := by
  unfold restorePicker
  try dsimp only
  repeat' split
  all_goals repeat' first | exact hs | with_reducible apply feedStop_closed h | with_reducible apply redistribute_closed h

theorem regate_closed (h : Closed P) (k : KilnId) {s : State} (hs : P s) : P (regate k s) := by
  unfold regate
  try dsimp only
  repeat' split
  all_goals repeat' first | exact hs | with_reducible apply onRing_closed h | with_reducible apply queueGate_closed h

theorem restoreKiln_closed (h : Closed P) (k : KilnId) {s : State} (hs : P s) : P (restoreKiln k s) := by
  unfold restoreKiln
  try dsimp only
  repeat' split
  all_goals repeat' first | exact hs | with_reducible apply inject_closed h | with_reducible apply purgeFrames_closed h | with_reducible apply regate_closed h

theorem restorePress_closed (h : Closed P) (b : PressId) {s : State} (hs : P s) : P (restorePress b s) := by
  unfold restorePress
  try dsimp only
  repeat' split
  all_goals repeat' first | exact hs | with_reducible apply safetyCommand_closed h | with_reducible apply giveRun_closed h | with_reducible apply sendPhase_closed h

theorem restoreUnit_closed (h : Closed P) (u : UnitId) {s : State} (hs : P s) : P (restoreUnit s u) := by
  cases u with
  | picker p => exact restorePicker_closed h p hs
  | kiln k => exact restoreKiln_closed h k hs
  | press b => exact restorePress_closed h b hs

/-- What an update does to the unit that takes it. -/
theorem unitTakes_closed (h : Closed P) (hu : ∀ {s : State} (f : Frame) (o : UpOrigin), P s → P (queueUp f o s))
    (role : Role) (unit : UnitId) (u : Update) {s : State} (hs : P s) :
    P (unitTakes role unit u s) := by
  unfold unitTakes
  split
  · exact beltUpdate_closed h _ u hs
  · exact wagonUpdate_closed h _ u hs
  · exact airTempUpdate_closed h _ u hs
  · exact moistureUpdate_closed h _ u hs
  · exact dropScaleUpdate_closed h _ u hs
  · exact dropGateUpdate_closed h _ u hs
  · exact fillScaleUpdate_closed h _ u hs
  · exact hydraulicsUpdate_closed h _ u hs
  · exact baleScaleUpdate_closed h hu _ u hs
  · exact hs

/-- What an update does to all its consumers. -/
theorem deliver_closed (h : Closed P) (hu : ∀ {s : State} (f : Frame) (o : UpOrigin), P s → P (queueUp f o s))
    (e : StationEntry) (station channel : Nat) (u : Update) {s : State} (hs : P s) :
    P (deliver e station channel u s) := by
  unfold deliver
  dsimp only
  refine watchesTake_closed h _ _ _ ?_
  split
  · split
    · exact unitTakes_closed h hu _ _ u hs
    · exact hs
  · exact hs

end Sys2Proof.Machine
end

