-- ==== Sys2Proof/Laws/State.lean ====
section
/-! SUPPORT. What each update of State leaves of each field: one lemma per field per update, true by rfl, so that no proof
unfolds a record update; and the readings that an update does not reach. -/

namespace Sys2Proof.Machine

/-! ### onClock -/

@[simp] theorem State.onClock_pending (s : State) (f : Clock → Clock) : (s.onClock f).pending = s.pending := rfl
@[simp] theorem State.onClock_clock (s : State) (f : Clock → Clock) : (s.onClock f).clock = f s.clock := rfl
@[simp] theorem State.onClock_line (s : State) (f : Clock → Clock) : (s.onClock f).line = s.line := rfl
@[simp] theorem State.onClock_agent (s : State) (f : Clock → Clock) : (s.onClock f).agent = s.agent := rfl
@[simp] theorem State.onClock_chan (s : State) (f : Clock → Clock) : (s.onClock f).chan = s.chan := rfl
@[simp] theorem State.onClock_watches (s : State) (f : Clock → Clock) : (s.onClock f).watches = s.watches := rfl
@[simp] theorem State.onClock_notice (s : State) (f : Clock → Clock) : (s.onClock f).notice = s.notice := rfl
@[simp] theorem State.onClock_lots (s : State) (f : Clock → Clock) : (s.onClock f).lots = s.lots := rfl
@[simp] theorem State.onClock_pool (s : State) (f : Clock → Clock) : (s.onClock f).pool = s.pool := rfl
@[simp] theorem State.onClock_pickers (s : State) (f : Clock → Clock) : (s.onClock f).pickers = s.pickers := rfl
@[simp] theorem State.onClock_kilns (s : State) (f : Clock → Clock) : (s.onClock f).kilns = s.kilns := rfl
@[simp] theorem State.onClock_schedules (s : State) (f : Clock → Clock) : (s.onClock f).schedules = s.schedules := rfl
@[simp] theorem State.onClock_presses (s : State) (f : Clock → Clock) : (s.onClock f).presses = s.presses := rfl
@[simp] theorem State.onClock_store (s : State) (f : Clock → Clock) : (s.onClock f).store = s.store := rfl

/-! ### onLine -/

@[simp] theorem State.onLine_pending (s : State) (f : Line → Line) : (s.onLine f).pending = s.pending := rfl
@[simp] theorem State.onLine_clock (s : State) (f : Line → Line) : (s.onLine f).clock = s.clock := rfl
@[simp] theorem State.onLine_line (s : State) (f : Line → Line) : (s.onLine f).line = f s.line := rfl
@[simp] theorem State.onLine_agent (s : State) (f : Line → Line) : (s.onLine f).agent = s.agent := rfl
@[simp] theorem State.onLine_chan (s : State) (f : Line → Line) : (s.onLine f).chan = s.chan := rfl
@[simp] theorem State.onLine_watches (s : State) (f : Line → Line) : (s.onLine f).watches = s.watches := rfl
@[simp] theorem State.onLine_notice (s : State) (f : Line → Line) : (s.onLine f).notice = s.notice := rfl
@[simp] theorem State.onLine_lots (s : State) (f : Line → Line) : (s.onLine f).lots = s.lots := rfl
@[simp] theorem State.onLine_pool (s : State) (f : Line → Line) : (s.onLine f).pool = s.pool := rfl
@[simp] theorem State.onLine_pickers (s : State) (f : Line → Line) : (s.onLine f).pickers = s.pickers := rfl
@[simp] theorem State.onLine_kilns (s : State) (f : Line → Line) : (s.onLine f).kilns = s.kilns := rfl
@[simp] theorem State.onLine_schedules (s : State) (f : Line → Line) : (s.onLine f).schedules = s.schedules := rfl
@[simp] theorem State.onLine_presses (s : State) (f : Line → Line) : (s.onLine f).presses = s.presses := rfl
@[simp] theorem State.onLine_store (s : State) (f : Line → Line) : (s.onLine f).store = s.store := rfl

/-! ### onAgent -/

@[simp] theorem State.onAgent_pending (s : State) (f : Agent → Agent) : (s.onAgent f).pending = s.pending := rfl
@[simp] theorem State.onAgent_clock (s : State) (f : Agent → Agent) : (s.onAgent f).clock = s.clock := rfl
@[simp] theorem State.onAgent_line (s : State) (f : Agent → Agent) : (s.onAgent f).line = s.line := rfl
@[simp] theorem State.onAgent_agent (s : State) (f : Agent → Agent) : (s.onAgent f).agent = f s.agent := rfl
@[simp] theorem State.onAgent_chan (s : State) (f : Agent → Agent) : (s.onAgent f).chan = s.chan := rfl
@[simp] theorem State.onAgent_watches (s : State) (f : Agent → Agent) : (s.onAgent f).watches = s.watches := rfl
@[simp] theorem State.onAgent_notice (s : State) (f : Agent → Agent) : (s.onAgent f).notice = s.notice := rfl
@[simp] theorem State.onAgent_lots (s : State) (f : Agent → Agent) : (s.onAgent f).lots = s.lots := rfl
@[simp] theorem State.onAgent_pool (s : State) (f : Agent → Agent) : (s.onAgent f).pool = s.pool := rfl
@[simp] theorem State.onAgent_pickers (s : State) (f : Agent → Agent) : (s.onAgent f).pickers = s.pickers := rfl
@[simp] theorem State.onAgent_kilns (s : State) (f : Agent → Agent) : (s.onAgent f).kilns = s.kilns := rfl
@[simp] theorem State.onAgent_schedules (s : State) (f : Agent → Agent) : (s.onAgent f).schedules = s.schedules := rfl
@[simp] theorem State.onAgent_presses (s : State) (f : Agent → Agent) : (s.onAgent f).presses = s.presses := rfl
@[simp] theorem State.onAgent_store (s : State) (f : Agent → Agent) : (s.onAgent f).store = s.store := rfl

/-! ### onChan -/

@[simp] theorem State.onChan_pending (s : State) (f : Channels → Channels) : (s.onChan f).pending = s.pending := rfl
@[simp] theorem State.onChan_clock (s : State) (f : Channels → Channels) : (s.onChan f).clock = s.clock := rfl
@[simp] theorem State.onChan_line (s : State) (f : Channels → Channels) : (s.onChan f).line = s.line := rfl
@[simp] theorem State.onChan_agent (s : State) (f : Channels → Channels) : (s.onChan f).agent = s.agent := rfl
@[simp] theorem State.onChan_chan (s : State) (f : Channels → Channels) : (s.onChan f).chan = f s.chan := rfl
@[simp] theorem State.onChan_watches (s : State) (f : Channels → Channels) : (s.onChan f).watches = s.watches := rfl
@[simp] theorem State.onChan_notice (s : State) (f : Channels → Channels) : (s.onChan f).notice = s.notice := rfl
@[simp] theorem State.onChan_lots (s : State) (f : Channels → Channels) : (s.onChan f).lots = s.lots := rfl
@[simp] theorem State.onChan_pool (s : State) (f : Channels → Channels) : (s.onChan f).pool = s.pool := rfl
@[simp] theorem State.onChan_pickers (s : State) (f : Channels → Channels) : (s.onChan f).pickers = s.pickers := rfl
@[simp] theorem State.onChan_kilns (s : State) (f : Channels → Channels) : (s.onChan f).kilns = s.kilns := rfl
@[simp] theorem State.onChan_schedules (s : State) (f : Channels → Channels) : (s.onChan f).schedules = s.schedules := rfl
@[simp] theorem State.onChan_presses (s : State) (f : Channels → Channels) : (s.onChan f).presses = s.presses := rfl
@[simp] theorem State.onChan_store (s : State) (f : Channels → Channels) : (s.onChan f).store = s.store := rfl

/-! ### onNotice -/

@[simp] theorem State.onNotice_pending (s : State) (f : NoticeLatch → NoticeLatch) : (s.onNotice f).pending = s.pending := rfl
@[simp] theorem State.onNotice_clock (s : State) (f : NoticeLatch → NoticeLatch) : (s.onNotice f).clock = s.clock := rfl
@[simp] theorem State.onNotice_line (s : State) (f : NoticeLatch → NoticeLatch) : (s.onNotice f).line = s.line := rfl
@[simp] theorem State.onNotice_agent (s : State) (f : NoticeLatch → NoticeLatch) : (s.onNotice f).agent = s.agent := rfl
@[simp] theorem State.onNotice_chan (s : State) (f : NoticeLatch → NoticeLatch) : (s.onNotice f).chan = s.chan := rfl
@[simp] theorem State.onNotice_watches (s : State) (f : NoticeLatch → NoticeLatch) : (s.onNotice f).watches = s.watches := rfl
@[simp] theorem State.onNotice_notice (s : State) (f : NoticeLatch → NoticeLatch) : (s.onNotice f).notice = f s.notice := rfl
@[simp] theorem State.onNotice_lots (s : State) (f : NoticeLatch → NoticeLatch) : (s.onNotice f).lots = s.lots := rfl
@[simp] theorem State.onNotice_pool (s : State) (f : NoticeLatch → NoticeLatch) : (s.onNotice f).pool = s.pool := rfl
@[simp] theorem State.onNotice_pickers (s : State) (f : NoticeLatch → NoticeLatch) : (s.onNotice f).pickers = s.pickers := rfl
@[simp] theorem State.onNotice_kilns (s : State) (f : NoticeLatch → NoticeLatch) : (s.onNotice f).kilns = s.kilns := rfl
@[simp] theorem State.onNotice_schedules (s : State) (f : NoticeLatch → NoticeLatch) : (s.onNotice f).schedules = s.schedules := rfl
@[simp] theorem State.onNotice_presses (s : State) (f : NoticeLatch → NoticeLatch) : (s.onNotice f).presses = s.presses := rfl
@[simp] theorem State.onNotice_store (s : State) (f : NoticeLatch → NoticeLatch) : (s.onNotice f).store = s.store := rfl

/-! ### onPool -/

@[simp] theorem State.onPool_pending (s : State) (f : Pool → Pool) : (s.onPool f).pending = s.pending := rfl
@[simp] theorem State.onPool_clock (s : State) (f : Pool → Pool) : (s.onPool f).clock = s.clock := rfl
@[simp] theorem State.onPool_line (s : State) (f : Pool → Pool) : (s.onPool f).line = s.line := rfl
@[simp] theorem State.onPool_agent (s : State) (f : Pool → Pool) : (s.onPool f).agent = s.agent := rfl
@[simp] theorem State.onPool_chan (s : State) (f : Pool → Pool) : (s.onPool f).chan = s.chan := rfl
@[simp] theorem State.onPool_watches (s : State) (f : Pool → Pool) : (s.onPool f).watches = s.watches := rfl
@[simp] theorem State.onPool_notice (s : State) (f : Pool → Pool) : (s.onPool f).notice = s.notice := rfl
@[simp] theorem State.onPool_lots (s : State) (f : Pool → Pool) : (s.onPool f).lots = s.lots := rfl
@[simp] theorem State.onPool_pool (s : State) (f : Pool → Pool) : (s.onPool f).pool = f s.pool := rfl
@[simp] theorem State.onPool_pickers (s : State) (f : Pool → Pool) : (s.onPool f).pickers = s.pickers := rfl
@[simp] theorem State.onPool_kilns (s : State) (f : Pool → Pool) : (s.onPool f).kilns = s.kilns := rfl
@[simp] theorem State.onPool_schedules (s : State) (f : Pool → Pool) : (s.onPool f).schedules = s.schedules := rfl
@[simp] theorem State.onPool_presses (s : State) (f : Pool → Pool) : (s.onPool f).presses = s.presses := rfl
@[simp] theorem State.onPool_store (s : State) (f : Pool → Pool) : (s.onPool f).store = s.store := rfl

/-! ### onPickers -/

@[simp] theorem State.onPickers_pending (s : State) (f : Pickers → Pickers) : (s.onPickers f).pending = s.pending := rfl
@[simp] theorem State.onPickers_clock (s : State) (f : Pickers → Pickers) : (s.onPickers f).clock = s.clock := rfl
@[simp] theorem State.onPickers_line (s : State) (f : Pickers → Pickers) : (s.onPickers f).line = s.line := rfl
@[simp] theorem State.onPickers_agent (s : State) (f : Pickers → Pickers) : (s.onPickers f).agent = s.agent := rfl
@[simp] theorem State.onPickers_chan (s : State) (f : Pickers → Pickers) : (s.onPickers f).chan = s.chan := rfl
@[simp] theorem State.onPickers_watches (s : State) (f : Pickers → Pickers) : (s.onPickers f).watches = s.watches := rfl
@[simp] theorem State.onPickers_notice (s : State) (f : Pickers → Pickers) : (s.onPickers f).notice = s.notice := rfl
@[simp] theorem State.onPickers_lots (s : State) (f : Pickers → Pickers) : (s.onPickers f).lots = s.lots := rfl
@[simp] theorem State.onPickers_pool (s : State) (f : Pickers → Pickers) : (s.onPickers f).pool = s.pool := rfl
@[simp] theorem State.onPickers_pickers (s : State) (f : Pickers → Pickers) : (s.onPickers f).pickers = f s.pickers := rfl
@[simp] theorem State.onPickers_kilns (s : State) (f : Pickers → Pickers) : (s.onPickers f).kilns = s.kilns := rfl
@[simp] theorem State.onPickers_schedules (s : State) (f : Pickers → Pickers) : (s.onPickers f).schedules = s.schedules := rfl
@[simp] theorem State.onPickers_presses (s : State) (f : Pickers → Pickers) : (s.onPickers f).presses = s.presses := rfl
@[simp] theorem State.onPickers_store (s : State) (f : Pickers → Pickers) : (s.onPickers f).store = s.store := rfl

/-! ### onKilns -/

@[simp] theorem State.onKilns_pending (s : State) (f : Kilns → Kilns) : (s.onKilns f).pending = s.pending := rfl
@[simp] theorem State.onKilns_clock (s : State) (f : Kilns → Kilns) : (s.onKilns f).clock = s.clock := rfl
@[simp] theorem State.onKilns_line (s : State) (f : Kilns → Kilns) : (s.onKilns f).line = s.line := rfl
@[simp] theorem State.onKilns_agent (s : State) (f : Kilns → Kilns) : (s.onKilns f).agent = s.agent := rfl
@[simp] theorem State.onKilns_chan (s : State) (f : Kilns → Kilns) : (s.onKilns f).chan = s.chan := rfl
@[simp] theorem State.onKilns_watches (s : State) (f : Kilns → Kilns) : (s.onKilns f).watches = s.watches := rfl
@[simp] theorem State.onKilns_notice (s : State) (f : Kilns → Kilns) : (s.onKilns f).notice = s.notice := rfl
@[simp] theorem State.onKilns_lots (s : State) (f : Kilns → Kilns) : (s.onKilns f).lots = s.lots := rfl
@[simp] theorem State.onKilns_pool (s : State) (f : Kilns → Kilns) : (s.onKilns f).pool = s.pool := rfl
@[simp] theorem State.onKilns_pickers (s : State) (f : Kilns → Kilns) : (s.onKilns f).pickers = s.pickers := rfl
@[simp] theorem State.onKilns_kilns (s : State) (f : Kilns → Kilns) : (s.onKilns f).kilns = f s.kilns := rfl
@[simp] theorem State.onKilns_schedules (s : State) (f : Kilns → Kilns) : (s.onKilns f).schedules = s.schedules := rfl
@[simp] theorem State.onKilns_presses (s : State) (f : Kilns → Kilns) : (s.onKilns f).presses = s.presses := rfl
@[simp] theorem State.onKilns_store (s : State) (f : Kilns → Kilns) : (s.onKilns f).store = s.store := rfl

/-! ### onPresses -/

@[simp] theorem State.onPresses_pending (s : State) (f : Presses → Presses) : (s.onPresses f).pending = s.pending := rfl
@[simp] theorem State.onPresses_clock (s : State) (f : Presses → Presses) : (s.onPresses f).clock = s.clock := rfl
@[simp] theorem State.onPresses_line (s : State) (f : Presses → Presses) : (s.onPresses f).line = s.line := rfl
@[simp] theorem State.onPresses_agent (s : State) (f : Presses → Presses) : (s.onPresses f).agent = s.agent := rfl
@[simp] theorem State.onPresses_chan (s : State) (f : Presses → Presses) : (s.onPresses f).chan = s.chan := rfl
@[simp] theorem State.onPresses_watches (s : State) (f : Presses → Presses) : (s.onPresses f).watches = s.watches := rfl
@[simp] theorem State.onPresses_notice (s : State) (f : Presses → Presses) : (s.onPresses f).notice = s.notice := rfl
@[simp] theorem State.onPresses_lots (s : State) (f : Presses → Presses) : (s.onPresses f).lots = s.lots := rfl
@[simp] theorem State.onPresses_pool (s : State) (f : Presses → Presses) : (s.onPresses f).pool = s.pool := rfl
@[simp] theorem State.onPresses_pickers (s : State) (f : Presses → Presses) : (s.onPresses f).pickers = s.pickers := rfl
@[simp] theorem State.onPresses_kilns (s : State) (f : Presses → Presses) : (s.onPresses f).kilns = s.kilns := rfl
@[simp] theorem State.onPresses_schedules (s : State) (f : Presses → Presses) : (s.onPresses f).schedules = s.schedules := rfl
@[simp] theorem State.onPresses_presses (s : State) (f : Presses → Presses) : (s.onPresses f).presses = f s.presses := rfl
@[simp] theorem State.onPresses_store (s : State) (f : Presses → Presses) : (s.onPresses f).store = s.store := rfl

/-! ### onStore -/

@[simp] theorem State.onStore_pending (s : State) (f : Store → Store) : (s.onStore f).pending = s.pending := rfl
@[simp] theorem State.onStore_clock (s : State) (f : Store → Store) : (s.onStore f).clock = s.clock := rfl
@[simp] theorem State.onStore_line (s : State) (f : Store → Store) : (s.onStore f).line = s.line := rfl
@[simp] theorem State.onStore_agent (s : State) (f : Store → Store) : (s.onStore f).agent = s.agent := rfl
@[simp] theorem State.onStore_chan (s : State) (f : Store → Store) : (s.onStore f).chan = s.chan := rfl
@[simp] theorem State.onStore_watches (s : State) (f : Store → Store) : (s.onStore f).watches = s.watches := rfl
@[simp] theorem State.onStore_notice (s : State) (f : Store → Store) : (s.onStore f).notice = s.notice := rfl
@[simp] theorem State.onStore_lots (s : State) (f : Store → Store) : (s.onStore f).lots = s.lots := rfl
@[simp] theorem State.onStore_pool (s : State) (f : Store → Store) : (s.onStore f).pool = s.pool := rfl
@[simp] theorem State.onStore_pickers (s : State) (f : Store → Store) : (s.onStore f).pickers = s.pickers := rfl
@[simp] theorem State.onStore_kilns (s : State) (f : Store → Store) : (s.onStore f).kilns = s.kilns := rfl
@[simp] theorem State.onStore_schedules (s : State) (f : Store → Store) : (s.onStore f).schedules = s.schedules := rfl
@[simp] theorem State.onStore_presses (s : State) (f : Store → Store) : (s.onStore f).presses = s.presses := rfl
@[simp] theorem State.onStore_store (s : State) (f : Store → Store) : (s.onStore f).store = f s.store := rfl

/-! ### withWatches -/

@[simp] theorem State.withWatches_pending (s : State) (v : List (Nat × Watch)) : (s.withWatches v).pending = s.pending := rfl
@[simp] theorem State.withWatches_clock (s : State) (v : List (Nat × Watch)) : (s.withWatches v).clock = s.clock := rfl
@[simp] theorem State.withWatches_line (s : State) (v : List (Nat × Watch)) : (s.withWatches v).line = s.line := rfl
@[simp] theorem State.withWatches_agent (s : State) (v : List (Nat × Watch)) : (s.withWatches v).agent = s.agent := rfl
@[simp] theorem State.withWatches_chan (s : State) (v : List (Nat × Watch)) : (s.withWatches v).chan = s.chan := rfl
@[simp] theorem State.withWatches_watches (s : State) (v : List (Nat × Watch)) : (s.withWatches v).watches = v := rfl
@[simp] theorem State.withWatches_notice (s : State) (v : List (Nat × Watch)) : (s.withWatches v).notice = s.notice := rfl
@[simp] theorem State.withWatches_lots (s : State) (v : List (Nat × Watch)) : (s.withWatches v).lots = s.lots := rfl
@[simp] theorem State.withWatches_pool (s : State) (v : List (Nat × Watch)) : (s.withWatches v).pool = s.pool := rfl
@[simp] theorem State.withWatches_pickers (s : State) (v : List (Nat × Watch)) : (s.withWatches v).pickers = s.pickers := rfl
@[simp] theorem State.withWatches_kilns (s : State) (v : List (Nat × Watch)) : (s.withWatches v).kilns = s.kilns := rfl
@[simp] theorem State.withWatches_schedules (s : State) (v : List (Nat × Watch)) : (s.withWatches v).schedules = s.schedules := rfl
@[simp] theorem State.withWatches_presses (s : State) (v : List (Nat × Watch)) : (s.withWatches v).presses = s.presses := rfl
@[simp] theorem State.withWatches_store (s : State) (v : List (Nat × Watch)) : (s.withWatches v).store = s.store := rfl

/-! ### withLots -/

@[simp] theorem State.withLots_pending (s : State) (v : List (Nat × Lot)) : (s.withLots v).pending = s.pending := rfl
@[simp] theorem State.withLots_clock (s : State) (v : List (Nat × Lot)) : (s.withLots v).clock = s.clock := rfl
@[simp] theorem State.withLots_line (s : State) (v : List (Nat × Lot)) : (s.withLots v).line = s.line := rfl
@[simp] theorem State.withLots_agent (s : State) (v : List (Nat × Lot)) : (s.withLots v).agent = s.agent := rfl
@[simp] theorem State.withLots_chan (s : State) (v : List (Nat × Lot)) : (s.withLots v).chan = s.chan := rfl
@[simp] theorem State.withLots_watches (s : State) (v : List (Nat × Lot)) : (s.withLots v).watches = s.watches := rfl
@[simp] theorem State.withLots_notice (s : State) (v : List (Nat × Lot)) : (s.withLots v).notice = s.notice := rfl
@[simp] theorem State.withLots_lots (s : State) (v : List (Nat × Lot)) : (s.withLots v).lots = v := rfl
@[simp] theorem State.withLots_pool (s : State) (v : List (Nat × Lot)) : (s.withLots v).pool = s.pool := rfl
@[simp] theorem State.withLots_pickers (s : State) (v : List (Nat × Lot)) : (s.withLots v).pickers = s.pickers := rfl
@[simp] theorem State.withLots_kilns (s : State) (v : List (Nat × Lot)) : (s.withLots v).kilns = s.kilns := rfl
@[simp] theorem State.withLots_schedules (s : State) (v : List (Nat × Lot)) : (s.withLots v).schedules = s.schedules := rfl
@[simp] theorem State.withLots_presses (s : State) (v : List (Nat × Lot)) : (s.withLots v).presses = s.presses := rfl
@[simp] theorem State.withLots_store (s : State) (v : List (Nat × Lot)) : (s.withLots v).store = s.store := rfl

/-! ### withSchedules -/

@[simp] theorem State.withSchedules_pending (s : State) (v : List (Nat × List Stage)) : (s.withSchedules v).pending = s.pending := rfl
@[simp] theorem State.withSchedules_clock (s : State) (v : List (Nat × List Stage)) : (s.withSchedules v).clock = s.clock := rfl
@[simp] theorem State.withSchedules_line (s : State) (v : List (Nat × List Stage)) : (s.withSchedules v).line = s.line := rfl
@[simp] theorem State.withSchedules_agent (s : State) (v : List (Nat × List Stage)) : (s.withSchedules v).agent = s.agent := rfl
@[simp] theorem State.withSchedules_chan (s : State) (v : List (Nat × List Stage)) : (s.withSchedules v).chan = s.chan := rfl
@[simp] theorem State.withSchedules_watches (s : State) (v : List (Nat × List Stage)) : (s.withSchedules v).watches = s.watches := rfl
@[simp] theorem State.withSchedules_notice (s : State) (v : List (Nat × List Stage)) : (s.withSchedules v).notice = s.notice := rfl
@[simp] theorem State.withSchedules_lots (s : State) (v : List (Nat × List Stage)) : (s.withSchedules v).lots = s.lots := rfl
@[simp] theorem State.withSchedules_pool (s : State) (v : List (Nat × List Stage)) : (s.withSchedules v).pool = s.pool := rfl
@[simp] theorem State.withSchedules_pickers (s : State) (v : List (Nat × List Stage)) : (s.withSchedules v).pickers = s.pickers := rfl
@[simp] theorem State.withSchedules_kilns (s : State) (v : List (Nat × List Stage)) : (s.withSchedules v).kilns = s.kilns := rfl
@[simp] theorem State.withSchedules_schedules (s : State) (v : List (Nat × List Stage)) : (s.withSchedules v).schedules = v := rfl
@[simp] theorem State.withSchedules_presses (s : State) (v : List (Nat × List Stage)) : (s.withSchedules v).presses = s.presses := rfl
@[simp] theorem State.withSchedules_store (s : State) (v : List (Nat × List Stage)) : (s.withSchedules v).store = s.store := rfl

/-! ### withPending -/

@[simp] theorem State.withPending_pending (s : State) (v : List Instr) : (s.withPending v).pending = v := rfl
@[simp] theorem State.withPending_clock (s : State) (v : List Instr) : (s.withPending v).clock = s.clock := rfl
@[simp] theorem State.withPending_line (s : State) (v : List Instr) : (s.withPending v).line = s.line := rfl
@[simp] theorem State.withPending_agent (s : State) (v : List Instr) : (s.withPending v).agent = s.agent := rfl
@[simp] theorem State.withPending_chan (s : State) (v : List Instr) : (s.withPending v).chan = s.chan := rfl
@[simp] theorem State.withPending_watches (s : State) (v : List Instr) : (s.withPending v).watches = s.watches := rfl
@[simp] theorem State.withPending_notice (s : State) (v : List Instr) : (s.withPending v).notice = s.notice := rfl
@[simp] theorem State.withPending_lots (s : State) (v : List Instr) : (s.withPending v).lots = s.lots := rfl
@[simp] theorem State.withPending_pool (s : State) (v : List Instr) : (s.withPending v).pool = s.pool := rfl
@[simp] theorem State.withPending_pickers (s : State) (v : List Instr) : (s.withPending v).pickers = s.pickers := rfl
@[simp] theorem State.withPending_kilns (s : State) (v : List Instr) : (s.withPending v).kilns = s.kilns := rfl
@[simp] theorem State.withPending_schedules (s : State) (v : List Instr) : (s.withPending v).schedules = s.schedules := rfl
@[simp] theorem State.withPending_presses (s : State) (v : List Instr) : (s.withPending v).presses = s.presses := rfl
@[simp] theorem State.withPending_store (s : State) (v : List Instr) : (s.withPending v).store = s.store := rfl

/-! ### onPicker -/

@[simp] theorem State.onPicker_pending (s : State) (u : PickerId) (f : Picker → Picker) : (s.onPicker u f).pending = s.pending := rfl
@[simp] theorem State.onPicker_clock (s : State) (u : PickerId) (f : Picker → Picker) : (s.onPicker u f).clock = s.clock := rfl
@[simp] theorem State.onPicker_line (s : State) (u : PickerId) (f : Picker → Picker) : (s.onPicker u f).line = s.line := rfl
@[simp] theorem State.onPicker_agent (s : State) (u : PickerId) (f : Picker → Picker) : (s.onPicker u f).agent = s.agent := rfl
@[simp] theorem State.onPicker_chan (s : State) (u : PickerId) (f : Picker → Picker) : (s.onPicker u f).chan = s.chan := rfl
@[simp] theorem State.onPicker_watches (s : State) (u : PickerId) (f : Picker → Picker) : (s.onPicker u f).watches = s.watches := rfl
@[simp] theorem State.onPicker_notice (s : State) (u : PickerId) (f : Picker → Picker) : (s.onPicker u f).notice = s.notice := rfl
@[simp] theorem State.onPicker_lots (s : State) (u : PickerId) (f : Picker → Picker) : (s.onPicker u f).lots = s.lots := rfl
@[simp] theorem State.onPicker_pool (s : State) (u : PickerId) (f : Picker → Picker) : (s.onPicker u f).pool = s.pool := rfl
@[simp] theorem State.onPicker_kilns (s : State) (u : PickerId) (f : Picker → Picker) : (s.onPicker u f).kilns = s.kilns := rfl
@[simp] theorem State.onPicker_schedules (s : State) (u : PickerId) (f : Picker → Picker) : (s.onPicker u f).schedules = s.schedules := rfl
@[simp] theorem State.onPicker_presses (s : State) (u : PickerId) (f : Picker → Picker) : (s.onPicker u f).presses = s.presses := rfl
@[simp] theorem State.onPicker_store (s : State) (u : PickerId) (f : Picker → Picker) : (s.onPicker u f).store = s.store := rfl

/-! ### onKiln -/

@[simp] theorem State.onKiln_pending (s : State) (u : KilnId) (f : Kiln → Kiln) : (s.onKiln u f).pending = s.pending := rfl
@[simp] theorem State.onKiln_clock (s : State) (u : KilnId) (f : Kiln → Kiln) : (s.onKiln u f).clock = s.clock := rfl
@[simp] theorem State.onKiln_line (s : State) (u : KilnId) (f : Kiln → Kiln) : (s.onKiln u f).line = s.line := rfl
@[simp] theorem State.onKiln_agent (s : State) (u : KilnId) (f : Kiln → Kiln) : (s.onKiln u f).agent = s.agent := rfl
@[simp] theorem State.onKiln_chan (s : State) (u : KilnId) (f : Kiln → Kiln) : (s.onKiln u f).chan = s.chan := rfl
@[simp] theorem State.onKiln_watches (s : State) (u : KilnId) (f : Kiln → Kiln) : (s.onKiln u f).watches = s.watches := rfl
@[simp] theorem State.onKiln_notice (s : State) (u : KilnId) (f : Kiln → Kiln) : (s.onKiln u f).notice = s.notice := rfl
@[simp] theorem State.onKiln_lots (s : State) (u : KilnId) (f : Kiln → Kiln) : (s.onKiln u f).lots = s.lots := rfl
@[simp] theorem State.onKiln_pool (s : State) (u : KilnId) (f : Kiln → Kiln) : (s.onKiln u f).pool = s.pool := rfl
@[simp] theorem State.onKiln_pickers (s : State) (u : KilnId) (f : Kiln → Kiln) : (s.onKiln u f).pickers = s.pickers := rfl
@[simp] theorem State.onKiln_schedules (s : State) (u : KilnId) (f : Kiln → Kiln) : (s.onKiln u f).schedules = s.schedules := rfl
@[simp] theorem State.onKiln_presses (s : State) (u : KilnId) (f : Kiln → Kiln) : (s.onKiln u f).presses = s.presses := rfl
@[simp] theorem State.onKiln_store (s : State) (u : KilnId) (f : Kiln → Kiln) : (s.onKiln u f).store = s.store := rfl

/-! ### onPress -/

@[simp] theorem State.onPress_pending (s : State) (u : PressId) (f : Press → Press) : (s.onPress u f).pending = s.pending := rfl
@[simp] theorem State.onPress_clock (s : State) (u : PressId) (f : Press → Press) : (s.onPress u f).clock = s.clock := rfl
@[simp] theorem State.onPress_line (s : State) (u : PressId) (f : Press → Press) : (s.onPress u f).line = s.line := rfl
@[simp] theorem State.onPress_agent (s : State) (u : PressId) (f : Press → Press) : (s.onPress u f).agent = s.agent := rfl
@[simp] theorem State.onPress_chan (s : State) (u : PressId) (f : Press → Press) : (s.onPress u f).chan = s.chan := rfl
@[simp] theorem State.onPress_watches (s : State) (u : PressId) (f : Press → Press) : (s.onPress u f).watches = s.watches := rfl
@[simp] theorem State.onPress_notice (s : State) (u : PressId) (f : Press → Press) : (s.onPress u f).notice = s.notice := rfl
@[simp] theorem State.onPress_lots (s : State) (u : PressId) (f : Press → Press) : (s.onPress u f).lots = s.lots := rfl
@[simp] theorem State.onPress_pool (s : State) (u : PressId) (f : Press → Press) : (s.onPress u f).pool = s.pool := rfl
@[simp] theorem State.onPress_pickers (s : State) (u : PressId) (f : Press → Press) : (s.onPress u f).pickers = s.pickers := rfl
@[simp] theorem State.onPress_kilns (s : State) (u : PressId) (f : Press → Press) : (s.onPress u f).kilns = s.kilns := rfl
@[simp] theorem State.onPress_schedules (s : State) (u : PressId) (f : Press → Press) : (s.onPress u f).schedules = s.schedules := rfl
@[simp] theorem State.onPress_store (s : State) (u : PressId) (f : Press → Press) : (s.onPress u f).store = s.store := rfl

/-! ### Readings an update does not reach -/

@[simp] theorem State.onLine_now_keep (s : State) (f : Line → Line) : (s.onLine f).now = s.now := rfl
@[simp] theorem State.onAgent_now_keep (s : State) (f : Agent → Agent) : (s.onAgent f).now = s.now := rfl
@[simp] theorem State.onChan_now_keep (s : State) (f : Channels → Channels) : (s.onChan f).now = s.now := rfl
@[simp] theorem State.onNotice_now_keep (s : State) (f : NoticeLatch → NoticeLatch) : (s.onNotice f).now = s.now := rfl
@[simp] theorem State.onPool_now_keep (s : State) (f : Pool → Pool) : (s.onPool f).now = s.now := rfl
@[simp] theorem State.onPickers_now_keep (s : State) (f : Pickers → Pickers) : (s.onPickers f).now = s.now := rfl
@[simp] theorem State.onKilns_now_keep (s : State) (f : Kilns → Kilns) : (s.onKilns f).now = s.now := rfl
@[simp] theorem State.onPresses_now_keep (s : State) (f : Presses → Presses) : (s.onPresses f).now = s.now := rfl
@[simp] theorem State.onStore_now_keep (s : State) (f : Store → Store) : (s.onStore f).now = s.now := rfl
@[simp] theorem State.withWatches_now_keep (s : State) (w : List (Nat × Watch)) : (s.withWatches w).now = s.now := rfl
@[simp] theorem State.withLots_now_keep (s : State) (w : List (Nat × Lot)) : (s.withLots w).now = s.now := rfl
@[simp] theorem State.withSchedules_now_keep (s : State) (w : List (Nat × List Stage)) : (s.withSchedules w).now = s.now := rfl
@[simp] theorem State.withPending_now_keep (s : State) (w : List Instr) : (s.withPending w).now = s.now := rfl
@[simp] theorem State.onPicker_now_keep (s : State) (u : PickerId) (f : Picker → Picker) : (s.onPicker u f).now = s.now := rfl
@[simp] theorem State.onKiln_now_keep (s : State) (u : KilnId) (f : Kiln → Kiln) : (s.onKiln u f).now = s.now := rfl
@[simp] theorem State.onPress_now_keep (s : State) (u : PressId) (f : Press → Press) : (s.onPress u f).now = s.now := rfl

@[simp] theorem State.onClock_picker_keep (s : State) (f : Clock → Clock) (p : PickerId) : (s.onClock f).picker p = s.picker p := by cases p <;> rfl
@[simp] theorem State.onLine_picker_keep (s : State) (f : Line → Line) (p : PickerId) : (s.onLine f).picker p = s.picker p := by cases p <;> rfl
@[simp] theorem State.onAgent_picker_keep (s : State) (f : Agent → Agent) (p : PickerId) : (s.onAgent f).picker p = s.picker p := by cases p <;> rfl
@[simp] theorem State.onChan_picker_keep (s : State) (f : Channels → Channels) (p : PickerId) : (s.onChan f).picker p = s.picker p := by cases p <;> rfl
@[simp] theorem State.onNotice_picker_keep (s : State) (f : NoticeLatch → NoticeLatch) (p : PickerId) : (s.onNotice f).picker p = s.picker p := by cases p <;> rfl
@[simp] theorem State.onPool_picker_keep (s : State) (f : Pool → Pool) (p : PickerId) : (s.onPool f).picker p = s.picker p := by cases p <;> rfl
@[simp] theorem State.onKilns_picker_keep (s : State) (f : Kilns → Kilns) (p : PickerId) : (s.onKilns f).picker p = s.picker p := by cases p <;> rfl
@[simp] theorem State.onPresses_picker_keep (s : State) (f : Presses → Presses) (p : PickerId) : (s.onPresses f).picker p = s.picker p := by cases p <;> rfl
@[simp] theorem State.onStore_picker_keep (s : State) (f : Store → Store) (p : PickerId) : (s.onStore f).picker p = s.picker p := by cases p <;> rfl
@[simp] theorem State.withWatches_picker_keep (s : State) (w : List (Nat × Watch)) (p : PickerId) : (s.withWatches w).picker p = s.picker p := by cases p <;> rfl
@[simp] theorem State.withLots_picker_keep (s : State) (w : List (Nat × Lot)) (p : PickerId) : (s.withLots w).picker p = s.picker p := by cases p <;> rfl
@[simp] theorem State.withSchedules_picker_keep (s : State) (w : List (Nat × List Stage)) (p : PickerId) : (s.withSchedules w).picker p = s.picker p := by cases p <;> rfl
@[simp] theorem State.withPending_picker_keep (s : State) (w : List Instr) (p : PickerId) : (s.withPending w).picker p = s.picker p := by cases p <;> rfl
@[simp] theorem State.onKiln_picker_keep (s : State) (u : KilnId) (f : Kiln → Kiln) (p : PickerId) : (s.onKiln u f).picker p = s.picker p := by cases p <;> rfl
@[simp] theorem State.onPress_picker_keep (s : State) (u : PressId) (f : Press → Press) (p : PickerId) : (s.onPress u f).picker p = s.picker p := by cases p <;> rfl

@[simp] theorem State.onClock_kiln_keep (s : State) (f : Clock → Clock) (k : KilnId) : (s.onClock f).kiln k = s.kiln k := by cases k <;> rfl
@[simp] theorem State.onLine_kiln_keep (s : State) (f : Line → Line) (k : KilnId) : (s.onLine f).kiln k = s.kiln k := by cases k <;> rfl
@[simp] theorem State.onAgent_kiln_keep (s : State) (f : Agent → Agent) (k : KilnId) : (s.onAgent f).kiln k = s.kiln k := by cases k <;> rfl
@[simp] theorem State.onChan_kiln_keep (s : State) (f : Channels → Channels) (k : KilnId) : (s.onChan f).kiln k = s.kiln k := by cases k <;> rfl
@[simp] theorem State.onNotice_kiln_keep (s : State) (f : NoticeLatch → NoticeLatch) (k : KilnId) : (s.onNotice f).kiln k = s.kiln k := by cases k <;> rfl
@[simp] theorem State.onPool_kiln_keep (s : State) (f : Pool → Pool) (k : KilnId) : (s.onPool f).kiln k = s.kiln k := by cases k <;> rfl
@[simp] theorem State.onPickers_kiln_keep (s : State) (f : Pickers → Pickers) (k : KilnId) : (s.onPickers f).kiln k = s.kiln k := by cases k <;> rfl
@[simp] theorem State.onPresses_kiln_keep (s : State) (f : Presses → Presses) (k : KilnId) : (s.onPresses f).kiln k = s.kiln k := by cases k <;> rfl
@[simp] theorem State.onStore_kiln_keep (s : State) (f : Store → Store) (k : KilnId) : (s.onStore f).kiln k = s.kiln k := by cases k <;> rfl
@[simp] theorem State.withWatches_kiln_keep (s : State) (w : List (Nat × Watch)) (k : KilnId) : (s.withWatches w).kiln k = s.kiln k := by cases k <;> rfl
@[simp] theorem State.withLots_kiln_keep (s : State) (w : List (Nat × Lot)) (k : KilnId) : (s.withLots w).kiln k = s.kiln k := by cases k <;> rfl
@[simp] theorem State.withSchedules_kiln_keep (s : State) (w : List (Nat × List Stage)) (k : KilnId) : (s.withSchedules w).kiln k = s.kiln k := by cases k <;> rfl
@[simp] theorem State.withPending_kiln_keep (s : State) (w : List Instr) (k : KilnId) : (s.withPending w).kiln k = s.kiln k := by cases k <;> rfl
@[simp] theorem State.onPicker_kiln_keep (s : State) (u : PickerId) (f : Picker → Picker) (k : KilnId) : (s.onPicker u f).kiln k = s.kiln k := by cases k <;> rfl
@[simp] theorem State.onPress_kiln_keep (s : State) (u : PressId) (f : Press → Press) (k : KilnId) : (s.onPress u f).kiln k = s.kiln k := by cases k <;> rfl

@[simp] theorem State.onClock_press_keep (s : State) (f : Clock → Clock) (b : PressId) : (s.onClock f).press b = s.press b := by cases b <;> rfl
@[simp] theorem State.onLine_press_keep (s : State) (f : Line → Line) (b : PressId) : (s.onLine f).press b = s.press b := by cases b <;> rfl
@[simp] theorem State.onAgent_press_keep (s : State) (f : Agent → Agent) (b : PressId) : (s.onAgent f).press b = s.press b := by cases b <;> rfl
@[simp] theorem State.onChan_press_keep (s : State) (f : Channels → Channels) (b : PressId) : (s.onChan f).press b = s.press b := by cases b <;> rfl
@[simp] theorem State.onNotice_press_keep (s : State) (f : NoticeLatch → NoticeLatch) (b : PressId) : (s.onNotice f).press b = s.press b := by cases b <;> rfl
@[simp] theorem State.onPool_press_keep (s : State) (f : Pool → Pool) (b : PressId) : (s.onPool f).press b = s.press b := by cases b <;> rfl
@[simp] theorem State.onPickers_press_keep (s : State) (f : Pickers → Pickers) (b : PressId) : (s.onPickers f).press b = s.press b := by cases b <;> rfl
@[simp] theorem State.onKilns_press_keep (s : State) (f : Kilns → Kilns) (b : PressId) : (s.onKilns f).press b = s.press b := by cases b <;> rfl
@[simp] theorem State.onStore_press_keep (s : State) (f : Store → Store) (b : PressId) : (s.onStore f).press b = s.press b := by cases b <;> rfl
@[simp] theorem State.withWatches_press_keep (s : State) (w : List (Nat × Watch)) (b : PressId) : (s.withWatches w).press b = s.press b := by cases b <;> rfl
@[simp] theorem State.withLots_press_keep (s : State) (w : List (Nat × Lot)) (b : PressId) : (s.withLots w).press b = s.press b := by cases b <;> rfl
@[simp] theorem State.withSchedules_press_keep (s : State) (w : List (Nat × List Stage)) (b : PressId) : (s.withSchedules w).press b = s.press b := by cases b <;> rfl
@[simp] theorem State.withPending_press_keep (s : State) (w : List Instr) (b : PressId) : (s.withPending w).press b = s.press b := by cases b <;> rfl
@[simp] theorem State.onPicker_press_keep (s : State) (u : PickerId) (f : Picker → Picker) (b : PressId) : (s.onPicker u f).press b = s.press b := by cases b <;> rfl
@[simp] theorem State.onKiln_press_keep (s : State) (u : KilnId) (f : Kiln → Kiln) (b : PressId) : (s.onKiln u f).press b = s.press b := by cases b <;> rfl

@[simp] theorem State.onClock_lot_keep (s : State) (f : Clock → Clock) (n : Nat) : (s.onClock f).lot n = s.lot n := rfl
@[simp] theorem State.onLine_lot_keep (s : State) (f : Line → Line) (n : Nat) : (s.onLine f).lot n = s.lot n := rfl
@[simp] theorem State.onAgent_lot_keep (s : State) (f : Agent → Agent) (n : Nat) : (s.onAgent f).lot n = s.lot n := rfl
@[simp] theorem State.onChan_lot_keep (s : State) (f : Channels → Channels) (n : Nat) : (s.onChan f).lot n = s.lot n := rfl
@[simp] theorem State.onNotice_lot_keep (s : State) (f : NoticeLatch → NoticeLatch) (n : Nat) : (s.onNotice f).lot n = s.lot n := rfl
@[simp] theorem State.onPool_lot_keep (s : State) (f : Pool → Pool) (n : Nat) : (s.onPool f).lot n = s.lot n := rfl
@[simp] theorem State.onPickers_lot_keep (s : State) (f : Pickers → Pickers) (n : Nat) : (s.onPickers f).lot n = s.lot n := rfl
@[simp] theorem State.onKilns_lot_keep (s : State) (f : Kilns → Kilns) (n : Nat) : (s.onKilns f).lot n = s.lot n := rfl
@[simp] theorem State.onPresses_lot_keep (s : State) (f : Presses → Presses) (n : Nat) : (s.onPresses f).lot n = s.lot n := rfl
@[simp] theorem State.onStore_lot_keep (s : State) (f : Store → Store) (n : Nat) : (s.onStore f).lot n = s.lot n := rfl
@[simp] theorem State.withWatches_lot_keep (s : State) (w : List (Nat × Watch)) (n : Nat) : (s.withWatches w).lot n = s.lot n := rfl
@[simp] theorem State.withSchedules_lot_keep (s : State) (w : List (Nat × List Stage)) (n : Nat) : (s.withSchedules w).lot n = s.lot n := rfl
@[simp] theorem State.withPending_lot_keep (s : State) (w : List Instr) (n : Nat) : (s.withPending w).lot n = s.lot n := rfl
@[simp] theorem State.onPicker_lot_keep (s : State) (u : PickerId) (f : Picker → Picker) (n : Nat) : (s.onPicker u f).lot n = s.lot n := rfl
@[simp] theorem State.onKiln_lot_keep (s : State) (u : KilnId) (f : Kiln → Kiln) (n : Nat) : (s.onKiln u f).lot n = s.lot n := rfl
@[simp] theorem State.onPress_lot_keep (s : State) (u : PressId) (f : Press → Press) (n : Nat) : (s.onPress u f).lot n = s.lot n := rfl

@[simp] theorem State.onClock_charge_keep (s : State) (f : Clock → Clock) (n : Nat) : (s.onClock f).charge n = s.charge n := rfl
@[simp] theorem State.onLine_charge_keep (s : State) (f : Line → Line) (n : Nat) : (s.onLine f).charge n = s.charge n := rfl
@[simp] theorem State.onAgent_charge_keep (s : State) (f : Agent → Agent) (n : Nat) : (s.onAgent f).charge n = s.charge n := rfl
@[simp] theorem State.onChan_charge_keep (s : State) (f : Channels → Channels) (n : Nat) : (s.onChan f).charge n = s.charge n := rfl
@[simp] theorem State.onNotice_charge_keep (s : State) (f : NoticeLatch → NoticeLatch) (n : Nat) : (s.onNotice f).charge n = s.charge n := rfl
@[simp] theorem State.onPickers_charge_keep (s : State) (f : Pickers → Pickers) (n : Nat) : (s.onPickers f).charge n = s.charge n := rfl
@[simp] theorem State.onKilns_charge_keep (s : State) (f : Kilns → Kilns) (n : Nat) : (s.onKilns f).charge n = s.charge n := rfl
@[simp] theorem State.onPresses_charge_keep (s : State) (f : Presses → Presses) (n : Nat) : (s.onPresses f).charge n = s.charge n := rfl
@[simp] theorem State.onStore_charge_keep (s : State) (f : Store → Store) (n : Nat) : (s.onStore f).charge n = s.charge n := rfl
@[simp] theorem State.withWatches_charge_keep (s : State) (w : List (Nat × Watch)) (n : Nat) : (s.withWatches w).charge n = s.charge n := rfl
@[simp] theorem State.withLots_charge_keep (s : State) (w : List (Nat × Lot)) (n : Nat) : (s.withLots w).charge n = s.charge n := rfl
@[simp] theorem State.withSchedules_charge_keep (s : State) (w : List (Nat × List Stage)) (n : Nat) : (s.withSchedules w).charge n = s.charge n := rfl
@[simp] theorem State.withPending_charge_keep (s : State) (w : List Instr) (n : Nat) : (s.withPending w).charge n = s.charge n := rfl
@[simp] theorem State.onPicker_charge_keep (s : State) (u : PickerId) (f : Picker → Picker) (n : Nat) : (s.onPicker u f).charge n = s.charge n := rfl
@[simp] theorem State.onKiln_charge_keep (s : State) (u : KilnId) (f : Kiln → Kiln) (n : Nat) : (s.onKiln u f).charge n = s.charge n := rfl
@[simp] theorem State.onPress_charge_keep (s : State) (u : PressId) (f : Press → Press) (n : Nat) : (s.onPress u f).charge n = s.charge n := rfl

@[simp] theorem State.onClock_station_keep (s : State) (f : Clock → Clock) (n : Nat) : (s.onClock f).station n = s.station n := rfl
@[simp] theorem State.onLine_station_keep (s : State) (f : Line → Line) (n : Nat) : (s.onLine f).station n = s.station n := rfl
@[simp] theorem State.onAgent_station_keep (s : State) (f : Agent → Agent) (n : Nat) : (s.onAgent f).station n = s.station n := rfl
@[simp] theorem State.onNotice_station_keep (s : State) (f : NoticeLatch → NoticeLatch) (n : Nat) : (s.onNotice f).station n = s.station n := rfl
@[simp] theorem State.onPool_station_keep (s : State) (f : Pool → Pool) (n : Nat) : (s.onPool f).station n = s.station n := rfl
@[simp] theorem State.onPickers_station_keep (s : State) (f : Pickers → Pickers) (n : Nat) : (s.onPickers f).station n = s.station n := rfl
@[simp] theorem State.onKilns_station_keep (s : State) (f : Kilns → Kilns) (n : Nat) : (s.onKilns f).station n = s.station n := rfl
@[simp] theorem State.onPresses_station_keep (s : State) (f : Presses → Presses) (n : Nat) : (s.onPresses f).station n = s.station n := rfl
@[simp] theorem State.onStore_station_keep (s : State) (f : Store → Store) (n : Nat) : (s.onStore f).station n = s.station n := rfl
@[simp] theorem State.withWatches_station_keep (s : State) (w : List (Nat × Watch)) (n : Nat) : (s.withWatches w).station n = s.station n := rfl
@[simp] theorem State.withLots_station_keep (s : State) (w : List (Nat × Lot)) (n : Nat) : (s.withLots w).station n = s.station n := rfl
@[simp] theorem State.withSchedules_station_keep (s : State) (w : List (Nat × List Stage)) (n : Nat) : (s.withSchedules w).station n = s.station n := rfl
@[simp] theorem State.withPending_station_keep (s : State) (w : List Instr) (n : Nat) : (s.withPending w).station n = s.station n := rfl
@[simp] theorem State.onPicker_station_keep (s : State) (u : PickerId) (f : Picker → Picker) (n : Nat) : (s.onPicker u f).station n = s.station n := rfl
@[simp] theorem State.onKiln_station_keep (s : State) (u : KilnId) (f : Kiln → Kiln) (n : Nat) : (s.onKiln u f).station n = s.station n := rfl
@[simp] theorem State.onPress_station_keep (s : State) (u : PressId) (f : Press → Press) (n : Nat) : (s.onPress u f).station n = s.station n := rfl

@[simp] theorem State.onClock_sample_keep (s : State) (f : Clock → Clock) (n c : Nat) : (s.onClock f).sample n c = s.sample n c := rfl
@[simp] theorem State.onLine_sample_keep (s : State) (f : Line → Line) (n c : Nat) : (s.onLine f).sample n c = s.sample n c := rfl
@[simp] theorem State.onAgent_sample_keep (s : State) (f : Agent → Agent) (n c : Nat) : (s.onAgent f).sample n c = s.sample n c := rfl
@[simp] theorem State.onNotice_sample_keep (s : State) (f : NoticeLatch → NoticeLatch) (n c : Nat) : (s.onNotice f).sample n c = s.sample n c := rfl
@[simp] theorem State.onPool_sample_keep (s : State) (f : Pool → Pool) (n c : Nat) : (s.onPool f).sample n c = s.sample n c := rfl
@[simp] theorem State.onPickers_sample_keep (s : State) (f : Pickers → Pickers) (n c : Nat) : (s.onPickers f).sample n c = s.sample n c := rfl
@[simp] theorem State.onKilns_sample_keep (s : State) (f : Kilns → Kilns) (n c : Nat) : (s.onKilns f).sample n c = s.sample n c := rfl
@[simp] theorem State.onPresses_sample_keep (s : State) (f : Presses → Presses) (n c : Nat) : (s.onPresses f).sample n c = s.sample n c := rfl
@[simp] theorem State.onStore_sample_keep (s : State) (f : Store → Store) (n c : Nat) : (s.onStore f).sample n c = s.sample n c := rfl
@[simp] theorem State.withWatches_sample_keep (s : State) (w : List (Nat × Watch)) (n c : Nat) : (s.withWatches w).sample n c = s.sample n c := rfl
@[simp] theorem State.withLots_sample_keep (s : State) (w : List (Nat × Lot)) (n c : Nat) : (s.withLots w).sample n c = s.sample n c := rfl
@[simp] theorem State.withSchedules_sample_keep (s : State) (w : List (Nat × List Stage)) (n c : Nat) : (s.withSchedules w).sample n c = s.sample n c := rfl
@[simp] theorem State.withPending_sample_keep (s : State) (w : List Instr) (n c : Nat) : (s.withPending w).sample n c = s.sample n c := rfl
@[simp] theorem State.onPicker_sample_keep (s : State) (u : PickerId) (f : Picker → Picker) (n c : Nat) : (s.onPicker u f).sample n c = s.sample n c := rfl
@[simp] theorem State.onKiln_sample_keep (s : State) (u : KilnId) (f : Kiln → Kiln) (n c : Nat) : (s.onKiln u f).sample n c = s.sample n c := rfl
@[simp] theorem State.onPress_sample_keep (s : State) (u : PressId) (f : Press → Press) (n c : Nat) : (s.onPress u f).sample n c = s.sample n c := rfl

@[simp] theorem State.onClock_bound_keep (s : State) (f : Clock → Clock) (r : Role) (v : UnitId) : (s.onClock f).bound r v = s.bound r v := rfl
@[simp] theorem State.onLine_bound_keep (s : State) (f : Line → Line) (r : Role) (v : UnitId) : (s.onLine f).bound r v = s.bound r v := rfl
@[simp] theorem State.onAgent_bound_keep (s : State) (f : Agent → Agent) (r : Role) (v : UnitId) : (s.onAgent f).bound r v = s.bound r v := rfl
@[simp] theorem State.onNotice_bound_keep (s : State) (f : NoticeLatch → NoticeLatch) (r : Role) (v : UnitId) : (s.onNotice f).bound r v = s.bound r v := rfl
@[simp] theorem State.onPool_bound_keep (s : State) (f : Pool → Pool) (r : Role) (v : UnitId) : (s.onPool f).bound r v = s.bound r v := rfl
@[simp] theorem State.onPickers_bound_keep (s : State) (f : Pickers → Pickers) (r : Role) (v : UnitId) : (s.onPickers f).bound r v = s.bound r v := rfl
@[simp] theorem State.onKilns_bound_keep (s : State) (f : Kilns → Kilns) (r : Role) (v : UnitId) : (s.onKilns f).bound r v = s.bound r v := rfl
@[simp] theorem State.onPresses_bound_keep (s : State) (f : Presses → Presses) (r : Role) (v : UnitId) : (s.onPresses f).bound r v = s.bound r v := rfl
@[simp] theorem State.onStore_bound_keep (s : State) (f : Store → Store) (r : Role) (v : UnitId) : (s.onStore f).bound r v = s.bound r v := rfl
@[simp] theorem State.withWatches_bound_keep (s : State) (w : List (Nat × Watch)) (r : Role) (v : UnitId) : (s.withWatches w).bound r v = s.bound r v := rfl
@[simp] theorem State.withLots_bound_keep (s : State) (w : List (Nat × Lot)) (r : Role) (v : UnitId) : (s.withLots w).bound r v = s.bound r v := rfl
@[simp] theorem State.withSchedules_bound_keep (s : State) (w : List (Nat × List Stage)) (r : Role) (v : UnitId) : (s.withSchedules w).bound r v = s.bound r v := rfl
@[simp] theorem State.withPending_bound_keep (s : State) (w : List Instr) (r : Role) (v : UnitId) : (s.withPending w).bound r v = s.bound r v := rfl
@[simp] theorem State.onPicker_bound_keep (s : State) (u : PickerId) (f : Picker → Picker) (r : Role) (v : UnitId) : (s.onPicker u f).bound r v = s.bound r v := rfl
@[simp] theorem State.onKiln_bound_keep (s : State) (u : KilnId) (f : Kiln → Kiln) (r : Role) (v : UnitId) : (s.onKiln u f).bound r v = s.bound r v := rfl
@[simp] theorem State.onPress_bound_keep (s : State) (u : PressId) (f : Press → Press) (r : Role) (v : UnitId) : (s.onPress u f).bound r v = s.bound r v := rfl

@[simp] theorem State.onClock_watch_keep (s : State) (f : Clock → Clock) (n : Nat) : (s.onClock f).watch n = s.watch n := rfl
@[simp] theorem State.onLine_watch_keep (s : State) (f : Line → Line) (n : Nat) : (s.onLine f).watch n = s.watch n := rfl
@[simp] theorem State.onAgent_watch_keep (s : State) (f : Agent → Agent) (n : Nat) : (s.onAgent f).watch n = s.watch n := rfl
@[simp] theorem State.onChan_watch_keep (s : State) (f : Channels → Channels) (n : Nat) : (s.onChan f).watch n = s.watch n := rfl
@[simp] theorem State.onNotice_watch_keep (s : State) (f : NoticeLatch → NoticeLatch) (n : Nat) : (s.onNotice f).watch n = s.watch n := rfl
@[simp] theorem State.onPool_watch_keep (s : State) (f : Pool → Pool) (n : Nat) : (s.onPool f).watch n = s.watch n := rfl
@[simp] theorem State.onPickers_watch_keep (s : State) (f : Pickers → Pickers) (n : Nat) : (s.onPickers f).watch n = s.watch n := rfl
@[simp] theorem State.onKilns_watch_keep (s : State) (f : Kilns → Kilns) (n : Nat) : (s.onKilns f).watch n = s.watch n := rfl
@[simp] theorem State.onPresses_watch_keep (s : State) (f : Presses → Presses) (n : Nat) : (s.onPresses f).watch n = s.watch n := rfl
@[simp] theorem State.onStore_watch_keep (s : State) (f : Store → Store) (n : Nat) : (s.onStore f).watch n = s.watch n := rfl
@[simp] theorem State.withLots_watch_keep (s : State) (w : List (Nat × Lot)) (n : Nat) : (s.withLots w).watch n = s.watch n := rfl
@[simp] theorem State.withSchedules_watch_keep (s : State) (w : List (Nat × List Stage)) (n : Nat) : (s.withSchedules w).watch n = s.watch n := rfl
@[simp] theorem State.withPending_watch_keep (s : State) (w : List Instr) (n : Nat) : (s.withPending w).watch n = s.watch n := rfl
@[simp] theorem State.onPicker_watch_keep (s : State) (u : PickerId) (f : Picker → Picker) (n : Nat) : (s.onPicker u f).watch n = s.watch n := rfl
@[simp] theorem State.onKiln_watch_keep (s : State) (u : KilnId) (f : Kiln → Kiln) (n : Nat) : (s.onKiln u f).watch n = s.watch n := rfl
@[simp] theorem State.onPress_watch_keep (s : State) (u : PressId) (f : Press → Press) (n : Nat) : (s.onPress u f).watch n = s.watch n := rfl

@[simp] theorem State.onClock_schedule_keep (s : State) (f : Clock → Clock) (n : Nat) : (s.onClock f).schedule n = s.schedule n := rfl
@[simp] theorem State.onLine_schedule_keep (s : State) (f : Line → Line) (n : Nat) : (s.onLine f).schedule n = s.schedule n := rfl
@[simp] theorem State.onAgent_schedule_keep (s : State) (f : Agent → Agent) (n : Nat) : (s.onAgent f).schedule n = s.schedule n := rfl
@[simp] theorem State.onChan_schedule_keep (s : State) (f : Channels → Channels) (n : Nat) : (s.onChan f).schedule n = s.schedule n := rfl
@[simp] theorem State.onNotice_schedule_keep (s : State) (f : NoticeLatch → NoticeLatch) (n : Nat) : (s.onNotice f).schedule n = s.schedule n := rfl
@[simp] theorem State.onPool_schedule_keep (s : State) (f : Pool → Pool) (n : Nat) : (s.onPool f).schedule n = s.schedule n := rfl
@[simp] theorem State.onPickers_schedule_keep (s : State) (f : Pickers → Pickers) (n : Nat) : (s.onPickers f).schedule n = s.schedule n := rfl
@[simp] theorem State.onKilns_schedule_keep (s : State) (f : Kilns → Kilns) (n : Nat) : (s.onKilns f).schedule n = s.schedule n := rfl
@[simp] theorem State.onPresses_schedule_keep (s : State) (f : Presses → Presses) (n : Nat) : (s.onPresses f).schedule n = s.schedule n := rfl
@[simp] theorem State.onStore_schedule_keep (s : State) (f : Store → Store) (n : Nat) : (s.onStore f).schedule n = s.schedule n := rfl
@[simp] theorem State.withWatches_schedule_keep (s : State) (w : List (Nat × Watch)) (n : Nat) : (s.withWatches w).schedule n = s.schedule n := rfl
@[simp] theorem State.withLots_schedule_keep (s : State) (w : List (Nat × Lot)) (n : Nat) : (s.withLots w).schedule n = s.schedule n := rfl
@[simp] theorem State.withPending_schedule_keep (s : State) (w : List Instr) (n : Nat) : (s.withPending w).schedule n = s.schedule n := rfl
@[simp] theorem State.onPicker_schedule_keep (s : State) (u : PickerId) (f : Picker → Picker) (n : Nat) : (s.onPicker u f).schedule n = s.schedule n := rfl
@[simp] theorem State.onKiln_schedule_keep (s : State) (u : KilnId) (f : Kiln → Kiln) (n : Nat) : (s.onKiln u f).schedule n = s.schedule n := rfl
@[simp] theorem State.onPress_schedule_keep (s : State) (u : PressId) (f : Press → Press) (n : Nat) : (s.onPress u f).schedule n = s.schedule n := rfl

@[simp] theorem State.onClock_downFree_keep (s : State) (f : Clock → Clock) : (s.onClock f).downFree = s.downFree := rfl
@[simp] theorem State.onAgent_downFree_keep (s : State) (f : Agent → Agent) : (s.onAgent f).downFree = s.downFree := rfl
@[simp] theorem State.onChan_downFree_keep (s : State) (f : Channels → Channels) : (s.onChan f).downFree = s.downFree := rfl
@[simp] theorem State.onNotice_downFree_keep (s : State) (f : NoticeLatch → NoticeLatch) : (s.onNotice f).downFree = s.downFree := rfl
@[simp] theorem State.onPool_downFree_keep (s : State) (f : Pool → Pool) : (s.onPool f).downFree = s.downFree := rfl
@[simp] theorem State.onPickers_downFree_keep (s : State) (f : Pickers → Pickers) : (s.onPickers f).downFree = s.downFree := rfl
@[simp] theorem State.onKilns_downFree_keep (s : State) (f : Kilns → Kilns) : (s.onKilns f).downFree = s.downFree := rfl
@[simp] theorem State.onPresses_downFree_keep (s : State) (f : Presses → Presses) : (s.onPresses f).downFree = s.downFree := rfl
@[simp] theorem State.onStore_downFree_keep (s : State) (f : Store → Store) : (s.onStore f).downFree = s.downFree := rfl
@[simp] theorem State.withWatches_downFree_keep (s : State) (w : List (Nat × Watch)) : (s.withWatches w).downFree = s.downFree := rfl
@[simp] theorem State.withLots_downFree_keep (s : State) (w : List (Nat × Lot)) : (s.withLots w).downFree = s.downFree := rfl
@[simp] theorem State.withSchedules_downFree_keep (s : State) (w : List (Nat × List Stage)) : (s.withSchedules w).downFree = s.downFree := rfl
@[simp] theorem State.withPending_downFree_keep (s : State) (w : List Instr) : (s.withPending w).downFree = s.downFree := rfl
@[simp] theorem State.onPicker_downFree_keep (s : State) (u : PickerId) (f : Picker → Picker) : (s.onPicker u f).downFree = s.downFree := rfl
@[simp] theorem State.onKiln_downFree_keep (s : State) (u : KilnId) (f : Kiln → Kiln) : (s.onKiln u f).downFree = s.downFree := rfl
@[simp] theorem State.onPress_downFree_keep (s : State) (u : PressId) (f : Press → Press) : (s.onPress u f).downFree = s.downFree := rfl

@[simp] theorem State.onClock_upFree_keep (s : State) (f : Clock → Clock) : (s.onClock f).upFree = s.upFree := rfl
@[simp] theorem State.onAgent_upFree_keep (s : State) (f : Agent → Agent) : (s.onAgent f).upFree = s.upFree := rfl
@[simp] theorem State.onChan_upFree_keep (s : State) (f : Channels → Channels) : (s.onChan f).upFree = s.upFree := rfl
@[simp] theorem State.onNotice_upFree_keep (s : State) (f : NoticeLatch → NoticeLatch) : (s.onNotice f).upFree = s.upFree := rfl
@[simp] theorem State.onPool_upFree_keep (s : State) (f : Pool → Pool) : (s.onPool f).upFree = s.upFree := rfl
@[simp] theorem State.onPickers_upFree_keep (s : State) (f : Pickers → Pickers) : (s.onPickers f).upFree = s.upFree := rfl
@[simp] theorem State.onKilns_upFree_keep (s : State) (f : Kilns → Kilns) : (s.onKilns f).upFree = s.upFree := rfl
@[simp] theorem State.onPresses_upFree_keep (s : State) (f : Presses → Presses) : (s.onPresses f).upFree = s.upFree := rfl
@[simp] theorem State.onStore_upFree_keep (s : State) (f : Store → Store) : (s.onStore f).upFree = s.upFree := rfl
@[simp] theorem State.withWatches_upFree_keep (s : State) (w : List (Nat × Watch)) : (s.withWatches w).upFree = s.upFree := rfl
@[simp] theorem State.withLots_upFree_keep (s : State) (w : List (Nat × Lot)) : (s.withLots w).upFree = s.upFree := rfl
@[simp] theorem State.withSchedules_upFree_keep (s : State) (w : List (Nat × List Stage)) : (s.withSchedules w).upFree = s.upFree := rfl
@[simp] theorem State.withPending_upFree_keep (s : State) (w : List Instr) : (s.withPending w).upFree = s.upFree := rfl
@[simp] theorem State.onPicker_upFree_keep (s : State) (u : PickerId) (f : Picker → Picker) : (s.onPicker u f).upFree = s.upFree := rfl
@[simp] theorem State.onKiln_upFree_keep (s : State) (u : KilnId) (f : Kiln → Kiln) : (s.onKiln u f).upFree = s.upFree := rfl
@[simp] theorem State.onPress_upFree_keep (s : State) (u : PressId) (f : Press → Press) : (s.onPress u f).upFree = s.upFree := rfl

/-! ### A unit read after an update of a unit -/

@[simp] theorem State.picker_onPicker_same (s : State) (u : PickerId) (f : Picker → Picker) : (s.onPicker u f).picker u = f (s.picker u) := by
  cases u <;> rfl
@[simp] theorem State.picker_onPicker_other (s : State) (u v : PickerId) (f : Picker → Picker) (h : v ≠ u) : (s.onPicker u f).picker v = s.picker v := by
  cases u <;> cases v <;> first | rfl | exact absurd rfl h

@[simp] theorem State.kiln_onKiln_same (s : State) (u : KilnId) (f : Kiln → Kiln) : (s.onKiln u f).kiln u = f (s.kiln u) := by
  cases u <;> rfl
@[simp] theorem State.kiln_onKiln_other (s : State) (u v : KilnId) (f : Kiln → Kiln) (h : v ≠ u) : (s.onKiln u f).kiln v = s.kiln v := by
  cases u <;> cases v <;> first | rfl | exact absurd rfl h

@[simp] theorem State.press_onPress_same (s : State) (u : PressId) (f : Press → Press) : (s.onPress u f).press u = f (s.press u) := by
  cases u <;> rfl
@[simp] theorem State.press_onPress_other (s : State) (u v : PressId) (f : Press → Press) (h : v ≠ u) : (s.onPress u f).press v = s.press v := by
  cases u <;> cases v <;> first | rfl | exact absurd rfl h

/-! ### A part of a unit -/

@[simp] theorem State.kiln_onRing_same (s : State) (k : KilnId) (f : Ring → Ring) :
    (s.onRing k f).kiln k = { s.kiln k with ring := f (s.kiln k).ring } := by cases k <;> rfl
@[simp] theorem State.kiln_onPermit_same (s : State) (k : KilnId) (f : Permit → Permit) :
    (s.onPermit k f).kiln k = { s.kiln k with permit := f (s.kiln k).permit } := by cases k <;> rfl
@[simp] theorem State.press_onBale_same (s : State) (b : PressId) (f : Bale → Bale) :
    (s.onBale b f).press b = { s.press b with bale := (s.press b).bale.map f } := by cases b <;> rfl

end Sys2Proof.Machine
end

