-- ==== Sys2Proof/Laws/Serve.lean ====
section
/-! SUPPORT. The serving of the head of the request queue (R174), said once: what it answers, and when it leaves the state
as it is. -/

namespace Sys2Proof.Machine

/-- The head is executed where its Reply finds a place and `run` is the request's own rule. -/
theorem serve_of_run {run : Request → Option (Option Answer × State)} {s t : State} {f : Frame} {r : Request}
    {a : Option Answer} (hf : s.agent.requests.head? = some f) (hp : s.upFree ≠ 0) (hr : s.requestOf f = some r)
    (ht : run r = some (a, t)) : serve run s = answerHead f a t := by
  unfold serve
  match h : s.agent.requests with
  | [] => simp [h] at hf
  | g :: _ =>
    obtain rfl : g = f := by simpa [h] using hf
    simp [hp, hr, ht]

/-- Nothing is executed while the Own queue up is full. -/
theorem serve_of_full {run : Request → Option (Option Answer × State)} {s : State} (h : s.upFree = 0) : serve run s = s := by
  unfold serve
  split
  · rfl
  · rw [if_pos h]

/-- Nothing is executed while no Request waits. -/
theorem serve_of_empty {run : Request → Option (Option Answer × State)} {s : State} (h : s.agent.requests = []) :
    serve run s = s := by
  unfold serve
  rw [h]

/-- An answer takes the head from the request queue. -/
@[simp] theorem answerHead_agent (f : Frame) (a : Option Answer) (s : State) :
    (answerHead f a s).agent = { s.agent with requests := s.agent.requests.drop 1 } := by
  cases a <;> simp [answerHead, queueUp]

/-- A Reply joins the tail of the Own queue up. -/
theorem answerHead_ownUp (f : Frame) (a : Answer) (s : State) (h : s.upFree ≠ 0) :
    (answerHead f (some a) s).line.ownUp = s.line.ownUp ++ [{ frame := replyFrame f a, origin := .reply }] := by
  have : s.line.ownUp.length < Config.ownUpPlaces := by unfold State.upFree at h; omega
  simp [answerHead, queueUp, this]

/-- An answer, where its Reply finds a place, is the reply of the statements. -/
theorem answerHead_eq_reply (f : Frame) (a : Answer) (s : State) (h : s.upFree ≠ 0) :
    answerHead f (some a) s = s.reply f a := by
  have : s.line.ownUp.length < Config.ownUpPlaces := by unfold State.upFree at h; omega
  simp [answerHead, queueUp, this, State.reply, State.onAgent, State.onLine]

/-- The head is served: its request's own rule answers, and its Reply finds the place that the rule's effects have left free. -/
theorem serve_eq_reply {run : Request → Option (Option Answer × State)} {s t : State} {f : Frame} {r : Request} {a : Answer}
    (hs : s.serves f r) (ht : run r = some (some a, t)) (hu : t.line.ownUp = s.line.ownUp) : serve run s = t.reply f a := by
  obtain ⟨hf, hp, hr⟩ := hs
  rw [serve_of_run hf hp hr ht, answerHead_eq_reply]
  unfold State.upFree at *
  rwa [hu]

/-- An answer changes the line in nothing but the Own queue up. -/
theorem answerHead_line (f : Frame) (a : Option Answer) (s : State) :
    { (answerHead f a s).line with ownUp := s.line.ownUp } = s.line := by
  by_cases h : s.line.ownUp.length < Config.ownUpPlaces <;> cases a <;> simp [answerHead, queueUp, h]

@[simp] theorem answerHead_clock (f : Frame) (a : Option Answer) (s : State) : (answerHead f a s).clock = s.clock := by
  cases a <;> rfl
@[simp] theorem answerHead_pending (f : Frame) (a : Option Answer) (s : State) : (answerHead f a s).pending = s.pending := by
  cases a <;> rfl
@[simp] theorem answerHead_chan (f : Frame) (a : Option Answer) (s : State) : (answerHead f a s).chan = s.chan := by
  cases a <;> rfl
@[simp] theorem answerHead_watches (f : Frame) (a : Option Answer) (s : State) : (answerHead f a s).watches = s.watches := by
  cases a <;> rfl
@[simp] theorem answerHead_notice (f : Frame) (a : Option Answer) (s : State) : (answerHead f a s).notice = s.notice := by
  cases a <;> rfl
@[simp] theorem answerHead_lots (f : Frame) (a : Option Answer) (s : State) : (answerHead f a s).lots = s.lots := by
  cases a <;> rfl
@[simp] theorem answerHead_pool (f : Frame) (a : Option Answer) (s : State) : (answerHead f a s).pool = s.pool := by
  cases a <;> rfl
@[simp] theorem answerHead_pickers (f : Frame) (a : Option Answer) (s : State) : (answerHead f a s).pickers = s.pickers := by
  cases a <;> rfl
@[simp] theorem answerHead_kilns (f : Frame) (a : Option Answer) (s : State) : (answerHead f a s).kilns = s.kilns := by
  cases a <;> rfl
@[simp] theorem answerHead_schedules (f : Frame) (a : Option Answer) (s : State) :
    (answerHead f a s).schedules = s.schedules := by
  cases a <;> rfl
@[simp] theorem answerHead_presses (f : Frame) (a : Option Answer) (s : State) : (answerHead f a s).presses = s.presses := by
  cases a <;> rfl
@[simp] theorem answerHead_store (f : Frame) (a : Option Answer) (s : State) : (answerHead f a s).store = s.store := by
  cases a <;> rfl

end Sys2Proof.Machine
end

