-- ==== Sys2Proof/Laws/Tables.lean ====
section
/-! SUPPORT. What the keyed tables do: a write is read back, every other key is left alone, and the keys go on rising. -/

namespace Sys2Proof.Machine

variable {α : Type}

/-- Every key of a table lies above a bound. -/
def keysAbove (b : Nat) (t : List (Nat × α)) : Prop := ∀ e ∈ t, b < e.1

theorem tableWf_cons {k : Nat} {v : α} {t : List (Nat × α)} :
    tableWf ((k, v) :: t) = true ↔ keysAbove k t ∧ tableWf t = true := by
  induction t generalizing k v with
  | nil => simp [tableWf, keysAbove]
  | cons e t ih =>
    obtain ⟨m, w⟩ := e
    simp only [tableWf, Bool.and_eq_true, decide_eq_true_eq]
    constructor
    · rintro ⟨hk, ht⟩
      refine ⟨?_, ht⟩
      have hm := (ih.mp ht).1
      intro e he
      rcases List.mem_cons.mp he with rfl | he
      · exact hk
      · exact lt_trans hk (hm e he)
    · rintro ⟨hk, ht⟩
      exact ⟨hk (m, w) (by simp), ht⟩

@[simp] theorem tableGet_nil (n : Nat) : tableGet ([] : List (Nat × α)) n = none := rfl

theorem tableGet_cons (k : Nat) (v : α) (t : List (Nat × α)) (n : Nat) :
    tableGet ((k, v) :: t) n = if k = n then some v else tableGet t n := rfl

/-- No record stands under a key that every listed key lies above. -/
theorem tableGet_eq_none_of_keysAbove {b n : Nat} {t : List (Nat × α)} (h : keysAbove b t) (hn : n ≤ b) :
    tableGet t n = none := by
  induction t with
  | nil => rfl
  | cons e t ih =>
    obtain ⟨k, v⟩ := e
    have hk := h (k, v) (by simp)
    rw [tableGet_cons, if_neg (by simp at hk; omega)]
    exact ih fun e he => h e (by simp [he])

/-- A record written is read back. -/
@[simp] theorem tableGet_tablePut_self (t : List (Nat × α)) (n : Nat) (a : α) : tableGet (tablePut t n a) n = some a := by
  induction t with
  | nil => simp [tablePut, tableGet]
  | cons e t ih =>
    obtain ⟨k, v⟩ := e
    unfold tablePut
    split
    · simp [tableGet]
    · split
      · simp [tableGet]
      · rw [tableGet_cons, if_neg ‹_›, ih]

/-- A record written leaves every other record alone. -/
theorem tableGet_tablePut_of_ne (t : List (Nat × α)) {n m : Nat} (a : α) (h : n ≠ m) :
    tableGet (tablePut t n a) m = tableGet t m := by
  induction t with
  | nil => simp [tablePut, tableGet, h]
  | cons e t ih =>
    obtain ⟨k, v⟩ := e
    unfold tablePut
    split
    · simp [tableGet, h]
    · split
      · subst_vars
        simp [tableGet, h]
      · rw [tableGet_cons, tableGet_cons, ih]

/-- A record removed is gone. -/
@[simp] theorem tableGet_tableErase_self (t : List (Nat × α)) (n : Nat) : tableGet (tableErase t n) n = none := by
  induction t with
  | nil => rfl
  | cons e t ih =>
    obtain ⟨k, v⟩ := e
    unfold tableErase at *
    rw [List.filter_cons]
    split
    · rename_i hk
      rw [tableGet_cons, if_neg (by simpa using hk), ih]
    · exact ih

/-- A record removed leaves every other record alone. -/
theorem tableGet_tableErase_of_ne (t : List (Nat × α)) {n m : Nat} (h : n ≠ m) :
    tableGet (tableErase t n) m = tableGet t m := by
  induction t with
  | nil => rfl
  | cons e t ih =>
    obtain ⟨k, v⟩ := e
    unfold tableErase at *
    rw [List.filter_cons]
    split
    · rw [tableGet_cons, tableGet_cons, ih]
    · rename_i hk
      have : k = n := by simpa using hk
      rw [tableGet_cons, if_neg (by omega), ih]

theorem keysAbove_tablePut {b : Nat} {t : List (Nat × α)} {n : Nat} {a : α} (h : keysAbove b t) (hn : b < n) :
    keysAbove b (tablePut t n a) := by
  induction t with
  | nil => simpa [tablePut, keysAbove] using hn
  | cons e t ih =>
    obtain ⟨k, v⟩ := e
    have hk : b < k := h (k, v) (by simp)
    have ht : keysAbove b t := fun e he => h e (by simp [he])
    unfold tablePut
    split
    · intro e he
      simp only [List.mem_cons] at he
      rcases he with rfl | rfl | he
      · exact hn
      · exact hk
      · exact ht e he
    · split
      · intro e he
        simp only [List.mem_cons] at he
        rcases he with rfl | he
        · exact hn
        · exact ht e he
      · intro e he
        simp only [List.mem_cons] at he
        rcases he with rfl | he
        · exact hk
        · exact ih ht e he

/-- A write keeps the keys rising. -/
theorem tableWf_tablePut {t : List (Nat × α)} {n : Nat} {a : α} (h : tableWf t = true) : tableWf (tablePut t n a) = true := by
  induction t with
  | nil => rfl
  | cons e t ih =>
    obtain ⟨k, v⟩ := e
    have hk := tableWf_cons.mp h
    unfold tablePut
    split
    · rename_i hn
      refine tableWf_cons.mpr ⟨?_, h⟩
      intro e he
      simp only [List.mem_cons] at he
      rcases he with rfl | he
      · exact hn
      · exact lt_trans hn (hk.1 e he)
    · split
      · subst_vars
        exact tableWf_cons.mpr hk
      · exact tableWf_cons.mpr ⟨keysAbove_tablePut hk.1 (by omega), ih hk.2⟩

/-- A removal keeps the keys rising. -/
theorem tableWf_tableErase {t : List (Nat × α)} {n : Nat} (h : tableWf t = true) : tableWf (tableErase t n) = true := by
  induction t with
  | nil => rfl
  | cons e t ih =>
    obtain ⟨k, v⟩ := e
    have hk := tableWf_cons.mp h
    unfold tableErase at *
    rw [List.filter_cons]
    split
    · exact tableWf_cons.mpr ⟨fun e he => hk.1 e (List.mem_filter.mp he).1, ih hk.2⟩
    · exact ih hk.2

/-- A write to a table with a default keeps the keys rising. -/
theorem tableWf_tableSet [DecidableEq α] {d : α} {t : List (Nat × α)} {n : Nat} {a : α} (h : tableWf t = true) :
    tableWf (tableSet d t n a) = true := by
  unfold tableSet
  split
  · exact tableWf_tableErase h
  · exact tableWf_tablePut h

/-- A value written to a table with a default is read back. -/
@[simp] theorem tableGet_tableSet_self [DecidableEq α] (d : α) (t : List (Nat × α)) (n : Nat) (a : α) :
    (tableGet (tableSet d t n a) n).getD d = a := by
  unfold tableSet
  split <;> simp_all

/-- A value written to a table with a default leaves every other key alone. -/
theorem tableGet_tableSet_of_ne [DecidableEq α] (d : α) (t : List (Nat × α)) {n m : Nat} (a : α) (h : n ≠ m) :
    tableGet (tableSet d t n a) m = tableGet t m := by
  unfold tableSet
  split
  · exact tableGet_tableErase_of_ne t h
  · exact tableGet_tablePut_of_ne t a h

end Sys2Proof.Machine
end

