-- ==== Sys2Proof/Tests/Slice0.lean ====
section
/-! SUPPORT. Tests of single commands, with the worked sequences of spec/ as their source, and for every statement a state and
operands that meet its hypotheses, clause by clause. -/

namespace Sys2Proof.Tests

open Sys2Proof Sys2Proof.Machine

-- The theorems are small and many: elaborate them one after another.
set_option Elab.async false

/-! ## Building states -/

/-- A command answers a next state that has a property. -/
def after (r : Result) (p : State → Bool) : Bool :=
  match r with
  | .next t => p t
  | _ => false

/-- A Request of the host with tag 9. -/
def request (payload : List Byte) : Frame :=
  { dest := 127, src := 1, kind := .request, channel := 0, tag := 9, payload := payload }

/-- A Request at the head of the request queue. -/
def asked (payload : List Byte) (s : State) : State := s.onAgent fun a => { a with requests := [request payload] }

/-- A Report of a station on channel 0 with a status and a value. -/
def report (station : Nat) (status : Byte) (v : Int) : Frame :=
  { dest := 1, src := station, kind := .report, channel := 0, tag := 0, payload := status :: fieldInt 4 v }

/-- A Command of the host. -/
def command (station : Nat) (v : Int) : Frame :=
  { dest := station, src := 1, kind := .command, channel := 0, tag := 0, payload := fieldInt 4 v }

/-- The state at an elapsed second. -/
def at_ (n : Nat) (s : State) : State := s.onClock fun c => { c with elapsed := n }

def noMask : MaskSet := { low := false, high := false, fault := false, stale := false }

/-- Channel 0 as a Level channel 0..`high`, window 10 s. -/
def level (high : Int) : Descriptor :=
  { channel := 0, rangeLow := 0, rangeHigh := high, window := 10, pollInterval := 0, mask := noMask, kind := .level }

/-- Channel 0 as a RunningTotal channel 0..2,000,000,000, window 5 s, mask set {Fault}, self-poll interval 2 s. -/
def total : Descriptor :=
  { channel := 0, rangeLow := 0, rangeHigh := 2000000000, window := 5, pollInterval := 2,
    mask := { noMask with fault := true }, kind := .runningTotal }

/-- A Present station with its channel 0 described, or nothing described. -/
def bind (n : Nat) (role : Role) (u : UnitId) (d : Option Descriptor) (s : State) : State :=
  s.onChan fun c =>
    { c with
      stations := tablePut c.stations n { present := true, role := role, unit := some u, descriptors := d.toList }
      samples := match d with
        | some _ => tablePut c.samples (sampleKey n 0) .fresh
        | none => c.samples }

/-- A sample record with a Report behind it: the total or value 48,210 at second 1, last good 36 (chapter 2's sequence). -/
def measured : Sample :=
  { Sample.fresh with cls := .normal, value := some 36, lastGood := some { value := 36, isZero := false },
                      lastReport := some 1, baseline := some { total := 48210, cls := .good } }

def someLot (state : LotState) : Lot := { Lot.declared 412 6 none with state := state }

def someCharge (lot : Nat) (p : PickerId) (k : KilnId) (green : Nat) (state : ChargeState) : Charge :=
  { lot := lot, picker := p, kiln := k, state := state, green := BitVec.ofNat 32 green, reason := none, cycles := 0,
    pile := none, dried := none, source := none, drawn := none, substituted := false, timedOut := false, timedDry := false,
    interrupted := false }

def putCharge (n : Nat) (c : Charge) (s : State) : State := s.onPool fun p => { p with records := tablePut p.records n c }

def putLot (n : Nat) (l : Lot) (s : State) : State := s.withLots (tablePut s.lots n l)

def stage : Stage := { setpoint := 650, fan := 80, duration := 60, halfWidth := 20, grace := 30, endTest := .time }

def ordinary (f : Frame) : OwnDown := { frame := f, safety := false, injected := false }

/-- An Own queue down with every place outside the safety places taken. -/
def downTaken (s : State) : State :=
  s.onLine fun l => { l with ownDown := List.replicate 6 (ordinary (ownCommand 99 0)) }

/-- An Own queue up with every place taken. -/
def upTaken (s : State) : State :=
  s.onLine fun l => { l with ownUp := List.replicate 8 { frame := ownUpFrame .reply 0 [], origin := .reply } }

/-- The yard of the tests: stations bound to P1, K1 and B1, schedule 1, lots 2210 (Active) and 2215 (Declared), a seeded store. -/
def yard : State :=
  let s := bind 10 .wagonReader (.picker .p1) (some (level 65535)) State.reset
  let s := bind 11 .feedDrive (.picker .p1) none (bind 12 .distributor (.picker .p1) none s)
  let s := bind 14 .beltScale (.picker .p1) (some total) s
  let s := bind 20 .burner (.kiln .k1) none (bind 21 .fan (.kiln .k1) none s)
  let s := bind 22 .dropScale (.kiln .k1) (some total) (bind 23 .dropGate (.kiln .k1) (some (level 2)) s)
  let s := bind 30 .pileFeed (.press .b1) none (bind 31 .pressHydraulics (.press .b1) (some (level 3)) s)
  let s := bind 32 .fillScale (.press .b1) (some total) (bind 33 .baleScale (.press .b1) (some (level 20000)) s)
  let s := putLot 2210 (someLot .active) (putLot 2215 (someLot .declared) s)
  let s := s.onPicker .p1 fun r => { r with currentLot := some 2210, config := { r.config with route := 1 } }
  let s := (s.withSchedules [(1, [stage, stage])]).onPool fun p => { p with next := 880 }
  at_ 100 (s.onStore fun t => { t with nextSerial := some 1001 })

/-! ## Well-formed commands (R18, R145, R162, spec/11 11.1, spec/00 Unit numbering) -/

theorem test_wellFormed_accepts :
    (WellFormed (.yardReset allUnits) && WellFormed (.lineReset allUnits.reverse) && WellFormed (.staleExpiry 126 3) &&
      WellFormed (.selfPollDue 2 0) && WellFormed (.watchPersistenceEnd 24) && WellFormed (.uPortFrameReceived [0]) &&
      WellFormed (.lineResetRestoreQueued (.kiln .k6))) = true := by decide

theorem test_wellFormed_refuses_order_repeated :
    WellFormed (.yardReset (allUnits.map fun _ => .kiln .k1)) = false := by decide

theorem test_wellFormed_refuses_order_short : WellFormed (.lineReset (allUnits.drop 1)) = false := by decide

theorem test_wellFormed_refuses_no_characters :
    (WellFormed (.uPortFrameReceived []) || WellFormed (.fPortFrameReceived [])) = false := by decide

theorem test_wellFormed_refuses_station :
    (WellFormed (.staleExpiry 127 0) || WellFormed (.selfPollDue 1 0)) = false := by decide

theorem test_wellFormed_refuses_channel :
    (WellFormed (.staleExpiry 2 4) || WellFormed (.selfPollDue 2 4)) = false := by decide

theorem test_wellFormed_refuses_watch :
    (WellFormed (.watchPersistenceEnd 0) || WellFormed (.watchPersistenceEnd 25)) = false := by decide

theorem test_wellFormed_refuses_press_restore : WellFormed (.lineResetRestoreQueued (.press .b1)) = false := by decide

/-- The table gives no row an encoding. -/
theorem test_decode_gives_no_command : decodeTableWord 8 1 = none := by decide

/-! ## One command each, against the worked sequences and tables of spec/ -/

/-- spec/11 11.1: the check register after the nine characters "123456789" of its polynomial and start value is 29B1h. -/
theorem test_crc_check_value : crc [0x31, 0x32, 0x33, 0x34, 0x35, 0x36, 0x37, 0x38, 0x39] = 0x29B1 := by decide +kernel

/-- Chapter 2's sequence: the Report of 48,250 is increment 40, class Normal, and P1 books it. -/
theorem test_report_books_increment :
    after (exec (.fPortFrameReceived (frameChars (report 14 0 48250))) (yard.putSample 14 0 measured)) (fun t =>
      ((t.sample 14 0).map fun r => (r.cls, r.value, r.baseline)) ==
        some (.normal, some 40, some { total := 48250, cls := .good }) && t.pickers.p1.unattributed == 40) = true := by
  decide +kernel

/-- Chapter 2's sequence: a SensorFault under the mask set {Fault} books the last good increment, substituted. -/
theorem test_masked_fault_substitutes :
    after (exec (.fPortFrameReceived (frameChars (report 14 1 48251))) (yard.putSample 14 0 measured)) (fun t =>
      t.view 14 0 == { cls := .normal, value := some 36, substituted := true } && t.pickers.p1.unattributed == 36 &&
        t.chan.exceptions.isEmpty) = true := by decide +kernel

/-- Chapter 2's sequence: the Stale expiry 5 s after the Report is raised and latches ChannelException. -/
theorem test_stale_expiry_raises :
    after (exec (.staleExpiry 14 0) (yard.putSample 14 0 { measured with lastReport := some 95 })) (fun t =>
      t.chan.exceptions == [{ station := 14, channel := 0, first := .stale, latest := .stale, count := 1 }] &&
        t.notice.latched == 1) = true := by decide +kernel

/-- Chapter 3's sequence: the card of another usable lot at a Running picker starts the clearance and stops the feed. -/
theorem test_card_starts_clearance :
    after (exec (.fPortFrameReceived (frameChars (report 10 0 2215)))
        (yard.onPicker .p1 fun r => { r with state := .running, loading := some 412 })) (fun t =>
      t.pickers.p1.state == .clearing && t.pickers.p1.pendingLot == some 2215 && t.pickers.p1.clearanceStart == some 100 &&
        t.line.ownDown == [{ frame := ownCommand 11 0, safety := true, injected := false }]) = true := by decide +kernel

/-- A picker in the clearance of chapter 3's sequence, its charge 412 of 812.7 kg on K1. -/
def clearing : State :=
  let s := putCharge 412 (someCharge 2210 .p1 .k1 8127 .loading) yard
  let s := s.onRing .k1 fun r => { r with slot0 := .loading 412 }
  let s := s.onKiln .k1 fun r => { r with state := .loading }
  (s.onStore fun t => { t with chargeRes := 1 }).onPicker .p1 fun r =>
    { r with state := .clearing, pendingLot := some 2215, loading := some 412, clearanceStart := some 77,
             quietStart := some 90, inForce := some (10, 120) }

/-- Chapter 3's sequence: the quiet end closes the charge LotChange, takes the pending lot and, with no floor, holds. -/
theorem test_clearance_quiet_end :
    after (exec (.clearanceQuietEnd .p1) clearing) (fun t =>
      t.store.tickets == [{ serial := 1001, stamp := 0, clockSet := false, lot := 2210, grower := 412,
                            body := .charge 412 .p1 .k1 8127 .lotChange false false }] &&
        t.pickers.p1.state == .held && t.pickers.p1.currentLot == some 2215 && t.pickers.p1.reasons.noFloor &&
        t.pickers.p1.waitStart == some 100 && t.kilns.k1.state == .ready && t.store.chargeRes == 0) = true := by
  decide +kernel

/-- A kiln K1 with chapter 4's ring: 506 above 503 above 501, and six entries on its pile. -/
def ringFull : State :=
  let s := putCharge 501 { someCharge 2210 .p1 .k1 14800 .loaded with cycles := 3 } yard
  let s := putCharge 503 (someCharge 2210 .p1 .k1 15123 .loaded) (putCharge 506 (someCharge 2215 .p1 .k1 13906 .loaded) s)
  (s.onPress .b1 fun r => { r with entries := [1, 2, 3, 4, 5, 6], auto := false }).onKiln .k1 fun r =>
    { r with state := .cycling, dropOwed := true, dropRetryFrom := some 99,
             ring := { r.ring with slot0 := .loaded 506, slot1 := .loaded 503, slot2 := .loaded 501 } }

/-- Chapter 4's sequence: the drop start reserves a place, opens the gate and marks the charge Dropping. -/
theorem test_drop_start :
    after (exec (.dropStartRetry .k1) ringFull) (fun t =>
      t.kilns.k1.state == .dropping && t.presses.b1.inFlight == 1 && t.line.ownDown.contains (ordinary (ownCommand 23 1)) &&
        ((t.charge 501).map fun c => (c.state, c.dried, c.pile)) == some (.dropping, some 0, some .b1) &&
        t.kilns.k1.ring.drop == some { charge := 501, pile := .b1, start := 100, timeout := 300, measured := false }) =
      true := by decide +kernel

/-- A drop of charge 506 of chapter 4's third drop in progress at second 100. -/
def dropping : State :=
  let s := putCharge 506 { someCharge 2215 .p1 .k1 13906 .dropping with dried := some 0, pile := some .b1 } yard
  (s.onPress .b1 fun r => { r with inFlight := 1, auto := false }).onKiln .k1 fun r =>
    { r with state := .dropping,
             ring := { r.ring with top := 1, slot0 := .loaded 506,
                                   drop := some { charge := 506, pile := .b1, start := 100, timeout := 300, measured := false } } }

/-- Chapter 4's third drop: Clear with nothing measured estimates 13,906 × 220 / 1000 = 3,059 and turns the ring to Top 0. -/
theorem test_drop_clear_estimates :
    after (exec (.fPortFrameReceived (frameChars (report 23 0 2))) dropping) (fun t =>
      ((t.charge 506).map fun c => (c.state, c.dried, c.source)) == some (.piled, some 3059, some .estimated) &&
        t.kilns.k1.ring.top == 0 && t.presses.b1.entries == [506] && t.presses.b1.inFlight == 0 &&
        ((t.lot 2215).map Lot.dried) == some 3059 && t.line.ownDown.contains (ordinary (ownCommand 23 0))) = true := by
  decide +kernel

/-- Chapter 4's second drop: 300 s after its start the drop times out, flagged, DropTimeout latched. -/
theorem test_drop_timeout :
    after (exec (.dropTimeout .k1) (at_ 400 dropping)) (fun t =>
      ((t.charge 506).map Charge.interrupted) == some true && t.notice.latched.getLsbD 14 && t.kilns.k1.ring.drop.isNone) =
      true := by decide +kernel

/-- A charge on a pile with a dried and a drawn mass. -/
def piled (lot dried drawn : Nat) : Charge :=
  { someCharge lot .p1 .k1 9999 .piled with
    pile := some .b1, dried := some (BitVec.ofNat 32 dried), source := some .measured, drawn := some (BitVec.ofNat 32 drawn) }

/-- Bale 37 of chapter 6's sequence with 230.0 kg in it; charge 624 of 95.5 kg has given 50.0 and 627 of lot 2215 waits. -/
def filling : State :=
  let s := putCharge 624 (piled 2210 955 500) (putCharge 627 (piled 2215 2100 0) yard)
  let s := putLot 2210 { someLot .active with live := 1, bales := 1 } s
  (s.onStore fun t => { t with baleRes := 1 }).onPress .b1 fun r =>
    { r with
      state := .filling, nextBale := 38, feedRun := true, entries := [624, 627],
      config := { r.config with target := 3000, minimum := 1500, tare := 120 },
      bale := some { number := 37, lot := 2210, fill := 2300, endReason := none, short := false, overdraw := false,
                     contents := [{ charge := 620, drawn := 1800 }, { charge := 624, drawn := 500 }],
                     estimated := false, faulted := false, gross := none, net := none, moisture := none } }

/-- Chapter 6's sequence: the increment that draws 624 to its dried mass retires it and ends the fill LotBreak, with a Stop. -/
theorem test_fill_ends_at_lot_break :
    after (exec (.fPortFrameReceived (frameChars (report 32 0 48665))) (filling.putSample 32 0 measured)) (fun t =>
      t.presses.b1.entries == [627] && (t.charge 624).isNone && t.presses.b1.coastStart == some 100 &&
        ((t.presses.b1.bale.map fun x => (x.fill, x.endReason))) == some (2755, some .lotBreak) &&
        ((t.lot 2210).map Lot.live) == some 0 &&
        t.line.ownDown == [{ frame := ownCommand 30 0, safety := true, injected := false }]) = true := by decide +kernel

/-- Chapter 6's sequence: 1.8 kg of coast go to the last content entry, already retired, and flag Overdraw. -/
theorem test_coast_overdraws :
    after (exec (.fPortFrameReceived (frameChars (report 32 0 48228)))
        ((filling.putSample 32 0 measured).onPress .b1 fun r =>
          { r with feedRun := false, entries := [627], coastStart := some 98,
                   bale := r.bale.map fun x => { x with
                     fill := 2755, endReason := some .lotBreak,
                     contents := [{ charge := 620, drawn := 1800 }, { charge := 624, drawn := 955 }] } })) (fun t =>
      ((t.presses.b1.bale.map fun x => (x.fill, x.overdraw, x.contents))) ==
        some (2773, true, [{ charge := 620, drawn := 1800 }, { charge := 624, drawn := 973 }])) = true := by decide +kernel

/-- Bale 37 of chapter 6's sequence on the bale scale. -/
def weighing : State :=
  filling.onPress .b1 fun r =>
    { r with state := .weighing, feedRun := false, entries := [627],
             bale := r.bale.map fun x => { x with fill := 2773, endReason := some .lotBreak }
             slot := some { purpose := .bale, bale := 37, start := 100, best := none, window := 20 } }

/-- Chapter 6's sequence: the Settled gross 289.6 gives net 277.6, and the bale completes with its claims and ticket. -/
theorem test_settled_weight_completes_bale :
    after (exec (.fPortFrameReceived (frameChars (report 33 2 2896))) weighing) (fun t =>
      t.presses.b1.state == .idle &&
        t.presses.b1.recent == [{ number := 37, lot := 2210, grower := 412, serial := 1001, gross := some 2896,
                                  net := some 2776, tare := 120 }] &&
        ((t.lot 2210).map fun l => (l.bales, l.baleCount, l.netBaled)) == some (0, 1, 2776) &&
        t.store.tickets.length == 1) = true := by decide +kernel

/-- Chapter 1's sequence: the last bale of a Closing lot settles it, the Settlement ticket after the Bale ticket. -/
theorem test_last_bale_settles_lot :
    after (exec (.fPortFrameReceived (frameChars (report 33 2 2896)))
        ((putLot 2210 { someLot .closing with bales := 1, reserved := true, opened := 2, green := 21324, dried := 4486 }
          weighing).onStore fun t => { t with settlementRes := 1 })) (fun t =>
      ((t.lot 2210).map Lot.state) == some .settled && t.store.settlementRes == 0 &&
        (t.store.tickets.drop 1).map Ticket.body == [.settlement 2 21324 4486 1 2776 0]) = true := by decide +kernel

def ticket (serial : Nat) : Ticket :=
  { serial := serial, stamp := 0, clockSet := false, lot := 2210, grower := 412, body := .settlement 0 0 0 0 0 0 }

/-- Chapter 7's sequence: three tickets held, the fetch high mark below them. -/
def stored : State :=
  yard.onStore fun t => { t with tickets := [ticket 1001, ticket 1002, ticket 1003], nextSerial := some 1004, fetchHigh := 1000 }

/-- Chapter 7's sequence: a Take above the fetch high mark is refused with BadArgument, and removes nothing. -/
theorem test_ticket_take_above_mark :
    after (exec .ticketTake (asked [74, 0, 0, 3, 0xEB] stored)) (fun t =>
      t.store == stored.store && t.line.ownUp.map (fun e => e.frame.payload) == [[74, 4]]) = true := by decide +kernel

/-- Chapter 7's sequence: the Take of 1003 removes three tickets and leaves one. -/
theorem test_ticket_take_removes :
    after (exec .ticketTake (asked [74, 0, 0, 3, 0xEB] (stored.onStore fun t =>
        { t with tickets := t.tickets ++ [ticket 1004], nextSerial := some 1005, fetchHigh := 1004 }))) (fun t =>
      t.store.tickets == [ticket 1004] && t.line.ownUp.map (fun e => e.frame.payload) == [[74, 0, 3, 1]]) = true := by
  decide +kernel

/-- Chapter 7's sequence: the Reply of a Ticket Fetch of 5 carries held 3 and oldest 1001. -/
theorem test_ticket_fetch_reply :
    after (exec .ticketFetch (asked [73, 5] stored)) (fun t =>
      t.line.ownUp.map (fun e => e.frame.payload) == [[73, 0, 0, 3, 1, 0, 0, 3, 0xE9]] &&
        (t.store.transfer.map fun x => (x.count, x.sent)) == some (5, 0)) = true := by decide +kernel

/-- The watch of chapter 8's sequence, Pending since second 80. -/
def watched : State :=
  { yard.onKiln .k2 fun r => { r with state := .cycling, copy := some { stage := stage, last := false } } with
    watches := [(5, { entry := { enabled := true, station := 40, channel := 1, low := 80, high := 400, negate := false,
                                 persistence := 20, unorderedFires := true, repeats := true, clearSet := 0x0200 },
                      state := .pending, pendingStart := some 80, fireCount := 0, lastFire := none,
                      lastOutcome := some .below })] }

/-- Chapter 8's sequence: the persistence end fires Watch 5 (source 57), clears K2's HoldOff and holds K2. -/
theorem test_watch_fires :
    after (exec (.watchPersistenceEnd 5) watched) (fun t =>
      t.kilns.k2.state == .hold && t.kilns.k2.holdOff == false && t.notice.latched == BitVec.twoPow 77 57 &&
        (t.watch 5).state == .fired && (t.watch 5).fireCount == 1) = true := by decide +kernel

/-- Chapter 8's sequence: the Notice frame lists source 57 in bit 1 of its eighth byte. -/
theorem test_notice_lists_source :
    after (exec .noticeFrameQueue (yard.onNotice fun c =>
        { c with latched := BitVec.twoPow 77 57, enabled := BitVec.twoPow 77 57 ||| BitVec.twoPow 77 13 })) (fun t =>
      t.line.ownUp.map (fun e => e.frame.payload) == [[0, 0, 0, 0, 0, 0, 0, 2, 0, 0]]) = true := by decide +kernel

/-- Chapter 9's sequence: the trip queues Burner 0 and Fan 100 as safety frames in place of the injections that waited. -/
def heated : State :=
  (yard.onLine fun l => { l with ownDown := [{ frame := ownCommand 20 650, safety := false, injected := true },
      { frame := ownCommand 21 60, safety := false, injected := true }, ordinary (ownPoll 14 0)] }).onKiln .k1 fun r =>
    { r with state := .cycling, stage := some 1, cycleSchedule := some 1, copy := some { stage := stage, last := false },
             permit := { state := .live, timer := some 90, parity := .odd, proving := 2 } }

theorem test_trip_replaces_injections :
    after (exec (.permitTimerExpiry .k1) heated) (fun t =>
      t.kilns.k1.state == .tripped && t.line.ownDown == [ordinary (ownPoll 14 0),
        { frame := ownCommand 20 0, safety := true, injected := false },
        { frame := ownCommand 21 100, safety := true, injected := false }]) = true := by decide +kernel

/-- Chapter 9's sequence: a host Command of 720 to the Burner of a Manual kiln is clamped to 700 and counted. -/
theorem test_host_setpoint_clamped :
    after (exec (.uPortFrameReceived (frameChars (command 20 720)))
        (yard.onKiln .k1 fun r => { r with state := .manual, scheduleFlag := false })) (fun t =>
      t.line.forwardDown.map (fun e => commandValue e.frame) == [700] && t.line.counters.rewritten == 1) = true := by
  decide +kernel

/-- Chapter 9's sequence: the transmitter takes the safety frame ahead of older own frames and leaves the own run. -/
theorem test_safety_frame_first :
    after (exec .fPortTransmit (yard.onLine fun l => { l with
        runDown := 2, ownDown := [ordinary (ownPoll 14 0), { frame := ownCommand 20 0, safety := true, injected := false }] }))
      (fun t => t.line.fSending == some (ownCommand 20 0) && t.line.runDown == 2 && t.line.ownDown.length == 1) = true := by
  decide +kernel

/-- Chapter 10's sequence: the last segment of a schedule that a Staged permit locks is answered Locked and discards staging. -/
theorem test_locked_commit_discards :
    after (exec .tableWriteStaged (asked [3, 4, 1, 0, 1, 2, 88, 50, 0, 60, 0, 0, 0, 0, 1]
        (yard.onPermit .k1 fun p => { p with state := .staged }))) (fun t =>
      t.schedules == yard.schedules && t.agent.staging.isNone && t.notice.latched == 4 &&
        t.line.ownUp.map (fun e => e.frame.payload) == [[3, 3]]) = true := by decide +kernel

/-- R182: Identify from power-on. -/
theorem test_identify_product :
    after (exec .identify (asked [6] State.reset)) (fun t =>
      (t.line.ownUp.map fun e => (e.frame.payload.drop 2).take 4) == [[0x3A, 0x41, 0x1C, 0xAC]]) = true := by decide +kernel

/-- R27: the net of a gross equal to the tare is Zero, 0. -/
theorem test_net_of_tare :
    netWeight { cls := .normal, value := some 120, substituted := true } 120 =
      { cls := .zero, value := some 0, substituted := true } := by decide

/-- R159: a frame that is being transmitted at power-on completes; a frame that ends meanwhile at the F-port is not received. -/
theorem test_sending_outlasts_power_on :
    after (exec .powerOn (yard.onLine fun l => { l with fSending := some (ownCommand 20 0) })) (fun t =>
      t.line.fSending == some (ownCommand 20 0) &&
        after (exec (.fPortFrameReceived (frameChars (report 14 0 48250))) t) fun u => u == t) = true := by decide +kernel

/-- R30, R34: an exception entry names its classes by their place in R30's list: Low then Stale. -/
theorem test_exception_classes :
    (exceptionBytes { station := 14, channel := 0, first := .low, latest := .stale, count := 2 }) = [14, 0, 1, 4, 2] := by
  decide

/-- R92: an owed Burner Command waits while an injected one to its station is in the queue, and its mark stays. -/
theorem test_owed_injection_waits :
    (let s := (heated.onKiln .k1 fun r => { r with state := .manual, burnerOwed := true })
     after (exec (.injectionOwedQueued .k1 .burner) s) (fun t => (t.kiln .k1).burnerOwed) &&
       after (exec (.injectionOwedQueued .k1 .burner) (s.onLine fun l => { l with ownDown := [] })) fun t =>
         !(t.kiln .k1).burnerOwed && t.line.ownDown.isEmpty) = true := by decide +kernel

/-- K1 offered while both pickers wait for a floor, P1 since second 50 and P2 since second 60. -/
def offered : State :=
  let waits (n : Nat) (r : Picker) : Picker :=
    { r with state := .held, currentLot := some 2210, waitStart := some n, reasons := { r.reasons with noFloor := true },
             config := { r.config with route := 1 } }
  ((yard.onPicker .p1 (waits 50)).onPicker .p2 (waits 60)).onKiln .k1 fun r =>
    { r with state := .awaiting, ring := { r.ring with offered := true } }

/-- R55: a picker that is stopped gives up its place in the floor wait order: the offer stands to the other one. -/
theorem test_stopped_picker_leaves_offers :
    (offered.offerNext .k1 == some .p1 &&
      after (exec .pickerStop (asked [33, 1] offered)) (fun t => t.offerNext .k1 == some .p2)) = true := by decide +kernel

/-- R49: an attempt that fails at the offer passes it on. -/
theorem test_failed_attempt_passes_offer :
    (after (exec (.openingAttempt .p2 (some .k1)) offered) (fun t => t == offered) &&
      after (exec (.openingAttempt .p1 (some .k1)) (offered.onLine fun l =>
          { l with ownDown := List.replicate 6 (ordinary (ownCommand 99 0)) })) (fun t =>
        t.offerNext .k1 == some .p2)) = true := by decide +kernel

/-! ## States that meet the hypotheses of the statements

Each theorem names its statement and meets the hypotheses of its clauses in their order, at the ends of their ranges. -/

/-- A frame is accepted as itself, and has a property. -/
def arrives (f : Frame) (p : Frame → Bool) : Bool := (arrive (frameChars f) == .accepted f) && p f

theorem arrives_accepted {f : Frame} {p : Frame → Bool} (h : arrives f p = true) : arrive (frameChars f) = .accepted f := by
  simp only [arrives, Bool.and_eq_true, beq_iff_eq] at h
  exact h.1

/-- A Request with this payload is served, in a state with a property. -/
def serving (payload : List Byte) (r : Request) (s : State) (p : State → Bool) : Bool :=
  ((asked payload s).upFree != 0) && ((asked payload s).requestOf (request payload) == some r) && p (asked payload s)

theorem serving_serves {payload : List Byte} {r : Request} {s : State} {p : State → Bool}
    (h : serving payload r s p = true) : (asked payload s).serves (request payload) r := by
  simp only [serving, Bool.and_eq_true, bne_iff_ne, beq_iff_eq] at h
  exact ⟨rfl, h.1.1, h.1.2⟩

/-- A command answers a next state. -/
def completes (r : Result) : Bool := after r fun _ => true

theorem completes_next {r : Result} (h : completes r = true) : ∃ t, r = .next t := by
  cases r with
  | next t => exact ⟨t, rfl⟩
  | fault f => exact absurd h (by simp [completes, after])
  | refused f => exact absurd h (by simp [completes, after])

/-- A slot tagged Loading. -/
def isLoading : Slot → Bool
  | .loading _ => true
  | _ => false

theorem isLoading_false {x : Slot} (h : isLoading x = false) (n : Nat) : x ≠ .loading n := by
  intro e; subst e; exact absurd h (by simp [isLoading])

/-! ### The step and what it keeps -/

theorem witness_StepTakesFront : (yard.withPending [.identify, .fPortTransmit]).pending = [.identify, .fPortTransmit] := by
  decide

theorem witness_EmptyQueuePassesOneSecond : yard.pending = [] := by decide

theorem witness_EveryCommandCompletes :
    (completes (exec .identify (asked [6] yard)) && completes (exec .clockSet (asked [7, 0, 0, 0, 1] yard))) = true := by
  decide +kernel

theorem witness_StepKeepsCapacity : yard.withinCapacity ∧ completes (step (yard.withPending [.fPortTransmit])) = true := by
  unfold State.withinCapacity; decide +kernel

theorem witness_StepKeepsTables : yard.tablesOk ∧ completes (step (yard.withPending [.lotRemove])) = true := by
  unfold State.tablesOk tableCanonical; decide +kernel

theorem witness_StepKeepsTicketOrder :
    stored.store.ordered ∧ completes (step (asked [74, 0, 0, 3, 0xE8] (stored.withPending [.ticketTake]))) = true := by
  refine ⟨?_, by decide +kernel⟩
  change List.Pairwise (fun a b : Ticket => a.serial < b.serial) _ ∧ ∀ k ∈ stored.store.tickets, k.serial < 1004
  decide +kernel

/-- K1's permit Tripped, and K1's permit Staged and proved twice. -/
def permit (state : PermitState) (parity : Parity) (proving : Nat) (s : State) : State :=
  s.onPermit .k1 fun _ => { state := state, timer := if state = .off ∨ state = .tripped then none else some 90,
                            parity := parity, proving := proving }

theorem witness_PermitLaws :
    yard.timersStopped ∧ completes (step (yard.withPending [.permitStage])) = true ∧
      ((permit .tripped .odd 0 yard).kiln .k1).permit.state = .tripped ∧
      completes (exec .identify (permit .tripped .odd 0 yard)) = true ∧
      after (exec .permitConfirm (asked [59, 1] (permit .staged .odd 2 yard)))
        (fun t => (t.kiln .k1).permit.state == .live) = true := by
  refine ⟨?_, by decide +kernel⟩
  intro k; cases k <;> decide +kernel

/-! ### The Plant Line -/

def poll (station : Nat) : Frame := { dest := station, src := 1, kind := .poll, channel := 3, tag := 0, payload := [] }

theorem witness_FrameRoundTrip :
    (arrives (command 127 (-1)) (fun f => f.payload.length == 4) && arrives (poll 127) (fun f => f.channel == 3) &&
      arrives (report 126 255 5) (fun f => f.payload.length == 5) &&
      arrives { request (List.replicate 40 7) with channel := 255, tag := 255 } (fun f => f.payload.length == 40)) = true := by
  decide +kernel

/-- Characters that fail their check: the last one changed. -/
def spoiled : List Byte := (frameChars (request [6])).dropLast ++ [0x55]

/-- A good check after a payload length that is not the payload's. -/
def miscounted : List Byte := [127, 1, 4, 0, 9, 2, 6] ++ bytesOfNat 2 (crc [127, 1, 4, 0, 9, 2, 6]).toNat

/-- A good check on a frame with a kind code of its own. -/
def ofKind (k : Byte) : List Byte := [127, 1, k, 0, 9, 1, 6] ++ bytesOfNat 2 (crc [127, 1, k, 0, 9, 1, 6]).toNat

/-- An unused value passes the check and is not accepted. -/
def unused (f : Frame) : Bool := arrive (frameChars f) == .unused

theorem witness_BadFramesAreCountedAndDropped :
    (decide ((List.replicate 7 (0 : Byte)).length < 8) && decide (48 < (List.replicate 49 (0 : Byte)).length) &&
      (bytesOfNat 2 (crc (spoiled.take (spoiled.length - 2))).toNat != spoiled.drop (spoiled.length - 2)) &&
      ((miscounted[5]?.map fun l => miscounted.length != 8 + l.toNat) == some true) &&
      (bytesOfNat 2 (crc (miscounted.take (miscounted.length - 2))).toNat == miscounted.drop (miscounted.length - 2)) &&
      arrive (ofKind 0) == .unused && arrive (ofKind 8) == .unused && yard.line.fSending.isNone &&
      (yard.onLine fun l => { l with fSending := some (command 20 0) }).line.fSending.isSome &&
      unused (command 128 0) && unused { command 20 0 with src := 128 } && unused { command 20 0 with channel := 4 } &&
      unused { command 20 0 with payload := [0, 0, 0] } && unused { poll 20 with channel := 4 } &&
      unused { poll 20 with payload := [0] } && unused { report 20 0 0 with channel := 4 } &&
      unused { report 20 0 0 with payload := [0, 0, 0, 0] }) = true := by decide +kernel

def pass (s : State) : State := s.onLine fun l => { l with settings := { l.settings with broadcastPass := true } }

def manual (s : State) : State := s.onKiln .k1 fun r => { r with state := .manual, scheduleFlag := false }

theorem witness_HostFrameActions :
    (arrives { command 20 0 with src := 2 } (fun f => f.src != 1) && arrives (command 1 0) (fun f => f.dest == 1) &&
      arrives (command 127 0) (fun f => f.dest == 127 && f.kind != .request) &&
      arrives (request [6]) (fun _ => decide ((yard.onAgent fun a => { a with
        requests := List.replicate 3 (request [6]) }).agent.requests.length < 4)) &&
      arrives (request [6]) (fun _ => decide (4 ≤ (yard.onAgent fun a => { a with
        requests := List.replicate 4 (request [6]) }).agent.requests.length)) &&
      arrives (command 0 0) (fun _ => yard.line.settings.broadcastPass == false) &&
      arrives (poll 0) (fun f => f.kind == .poll) && arrives (command 0 1) (fun f => commandValue f != 0) &&
      arrives (command 0 0) (fun f => (pass yard).line.settings.broadcastPass && commandValue f == 0) &&
      arrives (command 2 5) (fun f => (yard.station f.dest).present == false) &&
      arrives (command 126 5) (fun f => (yard.station f.dest).present == false) &&
      arrives (poll 20) (fun f => (yard.station f.dest).present && f.kind != .command) &&
      arrives (command 20 5) (fun f => (yard.station f.dest).role == .burner && (yard.kiln .k1).scheduleFlag) &&
      arrives (command 21 5) (fun f => ((manual yard).station f.dest).role == .fan && !((manual yard).kiln .k1).scheduleFlag) &&
      arrives (command 20 700) (fun f => commandValue f == ((manual yard).kiln .k1).config.maxSetpoint) &&
      arrives (command 20 701) (fun f => decide (((manual yard).kiln .k1).config.maxSetpoint < commandValue f)) &&
      arrives (command 12 1) (fun f => (clearing.station f.dest).role == .distributor &&
        (clearing.picker .p1).state == .clearing && (yard.picker .p1).state == .stopped) &&
      arrives (command 23 1) (fun f => (dropping.station f.dest).role == .dropGate && (dropping.kiln .k1).state == .dropping &&
        (yard.kiln .k1).state == .idle) &&
      arrives (command 30 1) (fun f => (yard.station f.dest).role == .pileFeed && (yard.press .b1).auto &&
        (dropping.press .b1).auto == false) &&
      arrives (command 10 1) (fun f => (yard.station f.dest).role == .wagonReader)) = true := by decide +kernel

/-- A Report of a described channel with a record. -/
def taps (f : Frame) (s : State) (p : Descriptor → Sample → Bool) : Bool :=
  arrives f fun f => match s.descriptor f.src f.channel, s.sample f.src f.channel with
    | some d, some r => s.line.fSending.isNone && p d r
    | _, _ => false

theorem witness_FieldFrameRouting :
    (yard.line.fSending.isNone && taps (report 23 0 2) yard (fun _ _ => (report 23 0 2).dest == 1) &&
      taps { report 14 0 5 with dest := 0 } (yard.onLine fun l => { l with
        poll := some { station := 14, channel := 0, source := 1, opened := 100, window := 10 } }) (fun _ _ => true) &&
      taps { report 14 0 5 with dest := 127 } (yard.onLine fun l => { l with
        forwardUp := List.replicate 32 (report 2 0 0) }) (fun _ _ => true) && arrives { report 14 0 1 with src := 0 } (fun f => (yard.descriptor f.src f.channel).isNone) &&
      arrives { report 14 0 1 with src := 127 } (fun f => (yard.descriptor f.src f.channel).isNone) &&
      arrives { report 2 0 1 with dest := 126 } (fun f => (yard.descriptor f.src f.channel).isNone) &&
      arrives { poll 127 with src := 14 } (fun f => f.kind != .report) &&
      arrives { report 126 0 1 with dest := 127 } (fun f => (yard.descriptor f.src f.channel).isNone) &&
      arrives (report 2 0 1) (fun f => (yard.descriptor f.src f.channel).isNone && decide (f.dest ≤ 1))) = true := by
  decide +kernel

def down (own : List OwnDown) (forward : List DownFrame) (run : Nat) (s : State) : State :=
  s.onLine fun l => { l with ownDown := own, forwardDown := forward, runDown := run }

def forwarded (f : Frame) : DownFrame := { frame := f, cls := none }

def safe (f : Frame) : OwnDown := { frame := f, safety := true, injected := false }

theorem witness_TransmitDownAndPoll :
    (yard.line.fSending.isNone && yard.line.poll.isNone && yard.line.ownDown.isEmpty && yard.line.forwardDown.isEmpty &&
      ((down [ordinary (poll 9), safe (ownCommand 20 0)] [forwarded (poll 9)] 3 yard).line.ownDown.find? OwnDown.safety).isSome &&
      (let s := down (List.replicate 8 (ordinary (poll 9))) [forwarded (poll 9)] 2 yard
       (s.line.ownDown.find? OwnDown.safety).isNone && s.line.runDown != 3) &&
      (let s := down [ordinary (poll 9)] [forwarded (poll 9)] 3 yard
       (s.line.ownDown.find? OwnDown.safety).isNone && s.line.runDown == 3) &&
      (down [] [forwarded (poll 9)] 0 yard).line.ownDown.isEmpty &&
      (yard.onLine fun l => { l with fSending := some (poll 9) }).line.fSending == some (poll 9) &&
      (poll 0).dest == 0 && (command 9 1).kind != .poll &&
      (yard.onLine fun l => { l with
        poll := some { station := 9, channel := 0, source := 1, opened := 100, window := 10 } }).line.poll.isSome) = true := by
  decide +kernel

/-- A Running picker held with a Run of the host's kind and a feed stop for its FeedDrive (station 11) waiting, with room, and
with eight safety frames for other stations. -/
theorem witness_TransmitDownAndPoll_safety :
    (let s := yard.onPicker .p1 fun r => { r with state := .running }
     let full := (List.range 8).map fun n => safe (ownCommand (40 + n) 0)
     serving [34, 1] (.pickerHold 1) s (fun s =>
         s.bound .feedDrive (.picker .p1) == some 11 && decide (s.line.ownDown.length < 8)) &&
       serving [34, 1] (.pickerHold 1) (down [ordinary (ownCommand 11 40), safe (ownCommand 11 0)] [] 0 s) (fun s =>
         s.line.ownDown.any fun e => e.safety && e.frame.dest == 11 && e.frame.channel == 0) &&
       serving [34, 1] (.pickerHold 1) (down full [] 0 s) (fun s =>
         s.line.ownDown.length == 8 && s.line.ownDown.all fun e => e.safety && e.frame.dest != 11)) = true := by
  decide +kernel

/-- A gate with something to shut: a permit that is not Live, a picker that is not Running, and a Command that waits. -/
theorem witness_GatesAtTransmission :
    (after (exec .fPortTransmit (down [] [forwarded (command 20 650)] 0 yard)) (fun t =>
        (yard.kiln .k1).permit.state != .live && (t.line.fSending.map Frame.kind) == some .command &&
          (t.line.fSending.map Frame.dest) == some 20) &&
      after (exec .fPortTransmit (down []
          [{ frame := command 9 650, cls := some { role := .burner, unit := some (.kiln .k1) } }] 0 yard)) (fun t =>
        (t.line.fSending.map Frame.kind) == some .command) &&
      after (exec .fPortTransmit (down [] [forwarded (command 11 40)] 0 yard)) (fun t =>
        (yard.picker .p1).state != .running && (t.line.fSending.map Frame.dest) == some 11) &&
      after (exec .fPortTransmit (down []
          [{ frame := command 9 40, cls := some { role := .feedDrive, unit := some (.picker .p1) } }] 0 yard)) (fun t =>
        (t.line.fSending.map Frame.kind) == some .command) &&
      (let live (s : State) (k : KilnId) := s.onPermit k fun p => { p with state := .live }
       let s := allPickers.foldl (fun s p => s.onPicker p fun r => { r with state := .running }) (allKilns.foldl live yard)
       (allKilns.all fun k => (s.kiln k).permit.state == .live) && (allPickers.all fun p => (s.picker p).state == .running) &&
         after (exec .fPortTransmit (down [] [forwarded (command 20 650)] 0 s)) fun t => t.line.fSending.isSome)) = true := by
  decide +kernel

def up (own : List OwnUp) (forward : List Frame) (run : Nat) (s : State) : State :=
  s.onLine fun l => { l with ownUp := own, forwardUp := forward, runUp := run }

def ownUp (origin : UpOrigin) : OwnUp := { frame := ownUpFrame .reply 0 [], origin := origin }

/-- A transfer whose frame of ticket 1003 waits. -/
def fetching (count sent : Nat) (s : State) : State :=
  s.onStore fun t => { t with
    transfer := some { tag := 9, count := count, sent := sent, lastQueued := some 1003, lastSent := none, waiting := true,
                       endReason := none, endOwed := false } }

theorem witness_TransmitUpAndTicketSent :
    (yard.line.ownUp.isEmpty && yard.line.forwardUp.isEmpty &&
      (up [ownUp .reply] [report 2 0 0] 3 yard).line.runUp == 3 && (up [] [report 2 0 0] 0 yard).line.ownUp.isEmpty &&
      (up [ownUp .ticketFirst] [report 2 0 0] 2 yard).line.runUp != 3 &&
      (up [ownUp .notice] [] 0 yard).line.forwardUp.isEmpty && (up [ownUp (.ticket 1003)] [] 0 yard).line.ownUp.length == 1 &&
      ((fetching 3 2 stored).store.transfer.map fun x => x.sent + 1 == x.count) == some true &&
      ((fetching 5 2 stored).store.transfer.map fun x =>
        x.sent + 1 != x.count && ((fetching 5 2 stored).store.due x).isNone) == some true &&
      (let s := (fetching 5 2 stored).onStore fun t => { t with tickets := t.tickets ++ [ticket 1004] }
       (s.store.transfer.map fun x => (s.store.due x).isSome) == some true)) = true := by decide +kernel

/-! ### Channels, watches and notices -/

theorem witness_LevelReportIsClassed :
    (taps (report 23 0 2) yard (fun d _ => d.kind == .level && d.rangeHigh == 2) &&
      taps (report 23 0 3) yard (fun d _ => decide (d.rangeHigh < 3)) &&
      taps (report 23 0 (-1)) yard (fun d _ => decide (-1 < d.rangeLow)) &&
      taps (report 23 1 0) yard (fun d r => d.kind == .level && r.cls == .absent) &&
      taps { report 23 0 0 with dest := 127 } (yard.putSample 23 0 { measured with cls := .zero }) (fun d r =>
        isRaised .fault && inMask d.mask .fault == false && r.cls != .fault)) = true := by decide +kernel

/-- The view of a Normal record, of a masked Fault with and without a last good value, and of a channel with no record. -/
theorem witness_LevelReportIsClassed_view :
    (let s (r : Sample) := yard.putSample 14 0 r
     (yard.sample 99 0).isNone && (yard.descriptor 14 0).map (fun d => d.mask.fault) == some true &&
       ((s measured).sample 14 0).map Sample.cls == some .normal &&
       ((s { measured with cls := .fault }).sample 14 0).map (fun r => (r.cls, r.lastGood.isSome)) == some (.fault, true) &&
       ((s { measured with cls := .fault, lastGood := none }).sample 14 0).map (fun r => (r.cls, r.lastGood.isSome)) ==
         some (.fault, false)) = true := by decide +kernel

/-- The belt scale's record with a baseline, or without one. -/
def belt (b : Option Baseline) (expired : Bool) : State :=
  yard.putSample 14 0 { measured with baseline := b, expired := expired }

theorem witness_TotalReportIsMeasured :
    (taps (report 14 1 5) (belt none false) (fun d r => d.kind == .runningTotal && r.baseline.isNone) &&
      taps (report 14 0 48210) (belt (some { total := 48210, cls := .good }) false) (fun _ r =>
        (r.baseline.map Baseline.total) == some 48210) &&
      taps (report 14 0 48209) (belt (some { total := 48210, cls := .fault }) false) (fun _ r =>
        (r.baseline.map Baseline.cls) == some .fault) &&
      taps (report 14 0 2000000000) (belt (some { total := 48210, cls := .low }) true) (fun _ r => r.expired) &&
      taps (report 14 0 2000000001) (belt (some { total := 48210, cls := .good }) false) (fun d _ =>
        decide (d.rangeHigh < 2000000001)) &&
      taps (report 14 0 (-1)) (belt (some { total := 2000000000, cls := .good }) false) (fun d _ =>
        decide (-1 < d.rangeLow)) &&
      taps (report 14 4 0) (belt none true) (fun _ _ => reportFlag (report 14 4 0) 2) &&
      taps (report 14 5 0) (belt none true) (fun _ _ => reportFlag (report 14 5 0) 0) &&
      taps (report 14 4 (-1)) (belt none true) (fun d _ => decide (-1 < d.rangeLow)) &&
      taps (report 14 4 2000000001) (belt none true) (fun d _ => decide (d.rangeHigh < 2000000001))) = true := by
  decide +kernel

/-- The belt scale's record with its last Report and its self-poll timer. -/
def polled (last due : Option Nat) : State := yard.putSample 14 0 { measured with lastReport := last, pollDue := due }

theorem witness_ChannelTimers :
    ((yard.descriptor 14 0).isSome && ((polled none none).sample 14 0).isSome &&
      decide ((polled (some 96) none).now < 96 + 5) && decide (95 + 5 ≤ (polled (some 95) none).now) &&
      decide ((polled none (some 101)).now < 101) && decide (100 ≤ (polled none (some 100)).now) &&
      (let s := (polled none (some 100)).onLine fun l => { l with ownDown := [ordinary (ownPoll 14 0)] }
       s.line.ownDown.any fun e => e.frame.kind == .poll && e.frame.dest == 14 && e.frame.channel == 0) &&
      decide (6 ≤ (downTaken (polled none (some 100))).line.ownDown.length)) = true := by decide +kernel

theorem witness_BandComparison :
    (let v (c : SampleClass) (x : Option Int) (b : Bool) : View := { cls := c, value := x, substituted := b }
     (v .stale (some 5) false).substituted == false && (v .absent none true).value.isNone &&
       (v .normal (some 79) false).value == some 79 && decide ((79 : Int) < 80) && decide ((400 : Int) < 401) &&
       (v .zero (some 80) true).substituted) = true := by decide

/-- A watch of the belt scale's channel, whose Report came at second 95. -/
def watching (w : WatchState) (persistence : Nat) (unorderedFires : Bool) : State :=
  { polled (some 95) none with
    watches := [(24, { entry := { enabled := true, station := 14, channel := 0, low := 1, high := 400, negate := false,
                                  persistence := persistence, unorderedFires := unorderedFires, repeats := true,
                                  clearSet := 0 },
                       state := w, pendingStart := none, fireCount := 255, lastFire := none, lastOutcome := none })] }

/-- The belt scale's channel with Stale masked: the expiry hands on the last good value. -/
def masked (s : State) : State :=
  let stale : Descriptor := { total with mask := { noMask with stale := true } }
  let e : StationEntry := { present := true, role := .beltScale, unit := some (.picker .p1), descriptors := [stale] }
  s.onChan fun c => { c with stations := tablePut c.stations 14 e }

/-- Whether the watch's condition holds on the view after the expiry. -/
def outcomeAfter (s : State) (o : BandOutcome) : Bool :=
  after (exec (.staleExpiry 14 0) s) fun t => compareBand (s.watch 24).entry.low (s.watch 24).entry.high (t.view 14 0) == o

theorem witness_WatchesReadAnUpdate :
    (((watching .armed 0 true).watch 1).state == .disabled && outcomeAfter (watching .armed 0 false) .unordered &&
      outcomeAfter (watching .armed 20 true) .unordered && outcomeAfter (watching .armed 0 true) .unordered &&
      outcomeAfter (watching .fired 0 true) .unordered && outcomeAfter (masked (watching .pending 20 true)) .inside &&
      outcomeAfter (masked (watching .fired 20 true)) .inside && outcomeAfter (masked (watching .armed 0 true)) .inside) =
      true := by decide +kernel

/-- Watch 24 of chapter 8's sequence as a plain write. -/
def watchContent (enabled : Byte) : List Byte := [enabled, 14, 0, 0, 0, 0, 80, 0, 0, 1, 0x90, 0, 0, 20, 1, 2, 2, 0]

theorem witness_WatchesAreSetAndFire :
    (serving ([2, 6, 24] ++ watchContent 0) (.tableWritePlain 6 24 (watchContent 0)) yard (fun _ =>
        ((parseWatch (watchContent 0)).map WatchEntry.enabled) == some false) &&
      serving ([2, 6, 1] ++ watchContent 1) (.tableWritePlain 6 1 (watchContent 1)) yard (fun s =>
        ((parseWatch (watchContent 1)).map WatchEntry.clearSet) == some 0x0200 && (s.sample 14 0).isSome) &&
      serving ([2, 6, 1] ++ watchContent 1) (.tableWritePlain 6 1 (watchContent 1)) State.reset (fun s =>
        (s.sample 14 0).isNone) &&
      decide ((at_ 99 watched).now < 80 + (watched.watch 5).entry.persistence) &&
      decide (80 + (watched.watch 5).entry.persistence ≤ watched.now) && (watched.watch 5).state == .pending) = true := by
  decide +kernel

def sources (n : Nat) : BitVec 77 := BitVec.twoPow 77 n

theorem witness_NoticesAndTheirRequests :
    ((yard.onNotice fun c => { c with latched := sources 76, enabled := sources 76, waiting := true }).notice.waiting &&
      decide (8 ≤ (upTaken yard).line.ownUp.length) &&
      (let s := yard.onNotice fun c => { c with latched := sources 76, enabled := sources 76 }
       (s.notice.latched &&& s.notice.enabled).getLsbD 76 && !s.notice.sent.getLsbD 76 && decide (s.line.ownUp.length < 8)) &&
      serving [80, 0, 0, 0, 0, 0, 0, 0, 0, 0, 0x10] (.noticeEnable [0, 0, 0, 0, 0, 0, 0, 0, 0, 0x10]) yard (fun _ =>
        (sources 76).toNat == sourcesNat [0, 0, 0, 0, 0, 0, 0, 0, 0, 0x10]) &&
      serving [81, 1, 0, 0, 0, 0, 0, 0, 0, 0, 0] (.noticeClear [1, 0, 0, 0, 0, 0, 0, 0, 0, 0]) yard (fun _ =>
        (sources 0).toNat == sourcesNat [1, 0, 0, 0, 0, 0, 0, 0, 0, 0]) &&
      serving [80, 0, 0, 0, 0, 0, 0, 0, 0, 0, 0x20] (.noticeEnable [0, 0, 0, 0, 0, 0, 0, 0, 0, 0x20]) yard (fun _ =>
        decide (2 ^ 77 ≤ sourcesNat [0, 0, 0, 0, 0, 0, 0, 0, 0, 0x20])) &&
      serving [81, 0, 0, 0, 0, 0, 0, 0, 0, 0, 0x20] (.noticeClear [0, 0, 0, 0, 0, 0, 0, 0, 0, 0x20]) yard (fun _ => true) &&
      serving [82] .noticeRead yard (fun _ => true)) = true := by decide +kernel

/-! ### The Management Agent -/

/-- A Request of this payload heads the queue with a place for its Reply, and spells no request. -/
def badForm (payload : List Byte) (s : State) : Bool :=
  ((asked payload s).upFree != 0) && ((asked payload s).requestOf (request payload)).isNone

theorem witness_RequestsWaitAndHaveForm :
    (decide (8 ≤ (upTaken (asked [6] yard)).line.ownUp.length) && yard.agent.requests.isEmpty &&
      serving [6] .identify yard (fun _ => true) && badForm [] yard &&
      (match parseRequest [52, 15, 1] with
       | some r => ((yard.query r).map fun e => decide (e.2.parts ≤ e.1)) == some true
       | none => false) && badForm [52, 15, 1] yard &&
      [0, 8, 15, 20, 23, 26, 31, 39, 42, 47, 53, 55, 61, 63, 69, 71, 76, 79, 83, 255].all (fun c => badForm [c] yard) &&
      [5, 6, 82].all (fun c => badForm [c, 0] yard) &&
      [1, 4, 7, 16, 17, 18, 19, 24, 25, 32, 33, 34, 35, 36, 37, 38, 40, 41, 48, 49, 50, 51, 52, 56, 57, 58, 59, 60, 64, 65,
        66, 67, 68, 72, 73, 74, 75, 80, 81].all (fun c => badForm [c] yard && badForm (c :: List.replicate 11 1) yard) &&
      badForm [2, 7] yard && badForm [2, 7, 1, 1, 0] yard && badForm [3, 4, 1, 0] yard &&
      badForm [3, 1, 2, 0, 1, 1, 16] yard && badForm ([3, 1, 2, 1, 1] ++ List.replicate 14 0) yard &&
      badForm ([3, 4, 1, 0, 0] ++ List.replicate 10 0) yard && badForm [3, 4, 1, 1, 1] yard &&
      [19, 24, 38, 41, 68].all (fun c => badForm [c, 16, 0, 0, 1] yard) &&
      badForm [75, 16] yard && badForm [16, 0, 99, 0, 1, 6, 2, 0, 0] yard && badForm [4, 0, 2] yard &&
      badForm [66, 1, 2] yard && badForm [3, 1, 2, 0, 2, 1, 16, 0] yard && badForm [19, 0, 8, 0xA2, 3] yard &&
      badForm [41, 0, 8, 0xA2, 0] yard && badForm [50, 1, 0] yard) = true := by decide +kernel

theorem witness_ReadIdentifyAndClock :
    (serving [1, 7, 1, 0] (.tableRead 7 1 0) yard (fun s =>
        (tableOf 7 == some .lineSettings) && ((s.segments .lineSettings 1).bind fun g => g[0]?).isSome) &&
      serving [1, 7, 1, 1] (.tableRead 7 1 1) yard (fun s => (s.segments .lineSettings 1).map List.length == some 1) &&
      serving [1, 4, 1, 0] (.tableRead 4 1 0) yard (fun s => ((s.segments .schedule 1).map List.length) == some 1) &&
      serving [6] .identify yard (fun _ => true) &&
      serving [7, 255, 255, 255, 255] (.clockSet 4294967295) yard (fun _ => true)) = true := by decide +kernel

def pickerContent : List Byte := [0, 2, 0, 10, 63]

def kilnContent : List Byte :=
  [8, 2, 0, 0, 0xC3, 0x50, 1, 0x90, 3, 0xE8, 0, 0, 5, 0xDC, 100, 0, 60, 3, 0x84, 0, 0, 2, 0, 2]

def pressContent : List Byte := [0, 0, 0x27, 0x10, 0, 0, 0x27, 0x10, 7, 0xD0, 0, 30, 1, 44, 1, 44, 1, 44, 0, 60]

def boundTwice : List Byte := [1, 5, 1]

theorem witness_PlainWrites :
    (serving ([2, 2, 2] ++ pickerContent) (.tableWritePlain 2 2 pickerContent) yard (fun _ =>
        (parsePickerConfig pickerContent) == some { quiet := 2, limit := 10, route := 63 }) &&
      serving ([2, 3, 6] ++ kilnContent) (.tableWritePlain 3 6 kilnContent) yard (fun s =>
        (parseKilnConfig kilnContent).isSome && (s.kiln .k6).permit.state == .off) &&
      serving ([2, 5, 2] ++ pressContent) (.tableWritePlain 5 2 pressContent) yard (fun _ =>
        (parsePressConfig pressContent).isSome) &&
      serving [2, 7, 1, 2, 0, 50] (.tableWritePlain 7 1 [2, 0, 50]) yard (fun _ =>
        (parseLineSettings [2, 0, 50]) == some { broadcastPass := true, replyWindow := 50 }) &&
      serving [2, 0, 1] (.tableWritePlain 0 1 []) yard (fun _ => true) &&
      serving [2, 4, 1] (.tableWritePlain 4 1 []) yard (fun _ => true) &&
      serving [2, 8, 1] (.tableWritePlain 8 1 []) yard (fun _ => true) &&
      serving [2, 1, 1, 0, 16, 0] (.tableWritePlain 1 1 [0, 16, 0]) yard (fun _ => true) &&
      serving [2, 1, 127, 0, 16, 0] (.tableWritePlain 1 127 [0, 16, 0]) yard (fun _ => true) &&
      serving [2, 1, 2, 1, 16, 1] (.tableWritePlain 1 2 [1, 16, 1]) yard (fun _ =>
        (parseStation [1, 16, 1] []).isNone) &&
      serving ([2, 1, 2] ++ boundTwice) (.tableWritePlain 1 2 boundTwice) yard (fun s =>
        ((parseStation boundTwice []).map fun e => s.bindsTwice 2 e) == some true) &&
      serving [2, 1, 23, 0, 16, 0] (.tableWritePlain 1 23 [0, 16, 0]) dropping (fun s =>
        ((parseStation [0, 16, 0] []).map fun e => (s.bindsTwice 23 e, s.stationLocked 23 e)) == some (false, true)) &&
      serving ([2, 2, 3] ++ pickerContent) (.tableWritePlain 2 3 pickerContent) yard (fun _ => (pickerOf 3).isNone) &&
      serving [2, 2, 1, 0, 1, 0, 10, 0] (.tableWritePlain 2 1 [0, 1, 0, 10, 0]) yard (fun _ =>
        (parsePickerConfig [0, 1, 0, 10, 0]).isNone) &&
      serving ([2, 3, 7] ++ kilnContent) (.tableWritePlain 3 7 kilnContent) yard (fun _ => (kilnOf 7).isNone) &&
      serving ([2, 3, 1] ++ kilnContent) (.tableWritePlain 3 1 kilnContent) (permit .staged .odd 0 yard) (fun s =>
        (s.kiln .k1).permit.state == .staged) &&
      serving ([2, 5, 0] ++ pressContent) (.tableWritePlain 5 0 pressContent) yard (fun _ => (pressOf 0).isNone) &&
      serving ([2, 6, 25] ++ watchContent 1) (.tableWritePlain 6 25 (watchContent 1)) yard (fun _ => true) &&
      serving ([2, 6, 24] ++ watchContent 2) (.tableWritePlain 6 24 (watchContent 2)) yard (fun _ =>
        (parseWatch (watchContent 2)).isNone) &&
      serving [2, 7, 2, 1, 0, 10] (.tableWritePlain 7 2 [1, 0, 10]) yard (fun _ => true) &&
      serving [2, 7, 1, 1, 0, 1] (.tableWritePlain 7 1 [1, 0, 1]) yard (fun _ =>
        (parseLineSettings [1, 0, 1]).isNone)) = true := by decide +kernel

/-- A staging buffer open at a segment. -/
def staged (t : TableId) (index next : Nat) (content : List (List Byte)) (s : State) : State :=
  s.onAgent fun a => { a with
    staging := some { table := t, index := index, next := next, lastMoment := 91, content := content } }

def descriptorContent : List Byte := [3, 0x80, 0, 0, 0, 0x7F, 255, 255, 255, 0, 255, 0, 255, 15, 2]

theorem witness_StationWriteCommits :
    (serving [2, 1, 126, 0, 16, 0] (.tableWritePlain 1 126 [0, 16, 0]) yard (fun s =>
        ((parseStation [0, 16, 0] []).map fun e => (e.present, s.bindsTwice 126 e, s.stationLocked 126 e)) ==
          some (false, false, false)) &&
      serving ([3, 1, 2, 0, 1] ++ [1, 16, 0]) (.tableWriteStaged 1 2 0 true [1, 16, 0]) yard (fun s =>
        s.agent.staging.isNone && (parseStation [1, 16, 0] []).isSome) &&
      serving ([3, 1, 2, 1, 1] ++ descriptorContent) (.tableWriteStaged 1 2 1 true descriptorContent)
        (staged .station 2 1 [[1, 16, 0]] yard) (fun s =>
        ((parseStation [1, 16, 0] [descriptorContent]).map fun e =>
          (e.present, e.descriptors.map Descriptor.channel, s.bindsTwice 2 e, s.stationLocked 2 e)) ==
          some (true, [3], false, false))) = true := by decide +kernel

def stageContent (endTest : Byte) : List Byte := [5, 0xDC, 100, 0xA8, 0xC0, 1, 44, 2, 88, endTest]

def threeStages : List Byte := stageContent 1 ++ stageContent 1 ++ stageContent 1

theorem witness_StagedWrites :
    (serving [3, 1, 1, 0, 0, 1, 16, 0] (.tableWriteStaged 1 1 0 false [1, 16, 0]) yard (fun _ => (stagedTable 1 1).isNone) &&
      serving ([3, 4, 8, 16, 0] ++ threeStages) (.tableWriteStaged 4 8 16 false threeStages) yard (fun _ => true) &&
      serving ([3, 4, 8, 0, 0] ++ threeStages) (.tableWriteStaged 4 8 0 false threeStages) yard (fun s =>
        stagedTable 4 8 == some .schedule && s.agent.staging.isNone) &&
      serving ([3, 4, 8, 3, 0] ++ threeStages) (.tableWriteStaged 4 8 3 false threeStages)
        (staged .schedule 8 3 (List.replicate 3 threeStages) yard) (fun s =>
        (s.agent.staging.map fun g => g.content.length) == some 3) &&
      serving ([3, 4, 8, 2, 0] ++ threeStages) (.tableWriteStaged 4 8 2 false threeStages)
        (staged .schedule 7 2 [threeStages] yard) (fun s => (s.agent.staging.map Staging.index) == some 7) &&
      serving ([3, 4, 8, 1, 0] ++ threeStages) (.tableWriteStaged 4 8 1 false threeStages) yard (fun s =>
        s.agent.staging.isNone) &&
      serving ([3, 4, 8, 4, 0] ++ threeStages) (.tableWriteStaged 4 8 4 false threeStages)
        (staged .schedule 8 4 (List.replicate 4 threeStages) yard) (fun s =>
        (s.agent.staging.map fun g => g.content.length) == some 4) &&
      serving ([3, 4, 1, 0, 1] ++ stageContent 3) (.tableWriteStaged 4 1 0 true (stageContent 3)) yard (fun _ =>
        (parseSchedule [stageContent 3]).isNone) &&
      serving ([3, 4, 1, 0, 1] ++ stageContent 2) (.tableWriteStaged 4 1 0 true (stageContent 2))
        (permit .live .odd 2 yard) (fun s => (parseSchedule [stageContent 2]).isSome && s.scheduleLocked 1) &&
      serving ([3, 4, 8, 3, 1] ++ stageContent 2) (.tableWriteStaged 4 8 3 true (stageContent 2))
        (staged .schedule 8 3 (List.replicate 3 threeStages) yard) (fun s =>
        (parseSchedule (List.replicate 3 threeStages ++ [stageContent 2])).isSome && s.scheduleLocked 8 == false) &&
      yard.agent.staging.isNone && decide ((staged .schedule 8 1 [] yard).now < 91 + 10) &&
      decide (91 + 10 ≤ (at_ 101 (staged .schedule 8 1 [] yard)).now)) = true := by decide +kernel

/-- A query answers a part of an answer. -/
def answers (payload : List Byte) (r : Request) (s : State) : Bool := serving payload r s fun s => (s.query r).isSome

theorem witness_QueriesAnswerAndClear :
    (answers [19, 0, 8, 0xA2, 1] (.lotQuery 0 2210 false) yard && answers [24, 0, 14, 0] (.sampleQuery 0 14 0) yard &&
      answers [40, 0, 6] (.floorQuery 0 6) yard && answers [41, 0, 1, 0xF5, 1] (.chargeQuery 0 501 false) ringFull &&
      answers [52, 0, 1] (.kilnQuery 0 1) yard && answers [75, 0] (.ticketStatus 0) yard &&
      answers [4, 0, 1] (.lineStatus 0 true) yard && answers [25, 0, 1] (.exceptionRead 0 true) yard &&
      answers [38, 0, 2, 1] (.pickerQuery 0 2 true) yard && answers [68, 0, 2, 1] (.pressQuery 0 2 true) yard &&
      answers [68, 0, 1, 0] (.pressQuery 0 1 false) yard) = true := by decide +kernel

/-! ### Lots -/

/-- The yard with a store in which every place is taken. -/
def storeTaken (s : State) : State := s.onStore fun t => { t with chargeRes := 192 }

/-- The yard with a Charge Pool in which every record is in use. -/
def poolTaken (s : State) : State :=
  s.onPool fun p => { p with records := (List.range 40).map fun n => (n, someCharge 1 .p1 .k1 0 .loaded) }

def unseeded (s : State) : State := s.onStore fun t => { t with nextSerial := none }

def declare (lot : List Byte) : List Byte := [16] ++ lot ++ [0, 1, 255, 1, 3, 0xE8]

/-- P1 holds UnknownLot for lot 65534. -/
def unknown : State :=
  yard.onPicker .p1 fun r => { r with refusedLot := some 65534, reasons := { r.reasons with unknownLot := true } }

theorem witness_LotDeclareCreatesRecord :
    (serving (declare [0, 0]) (.lotDeclare 0 1 255 (some 1000)) yard (fun _ => true) &&
      serving (declare [255, 255]) (.lotDeclare 65535 1 255 (some 1000)) yard (fun _ => true) &&
      serving (declare [8, 0xA2]) (.lotDeclare 2210 1 255 (some 1000)) yard (fun s => (s.lot 2210).isSome) &&
      serving (declare [0, 99]) (.lotDeclare 99 1 255 (some 1000))
        (yard.withLots ((List.range 64).map fun n => (n + 1000, someLot .settled))) (fun s =>
        (s.lot 99).isNone && s.lots.length == 64) &&
      serving (declare [255, 254]) (.lotDeclare 65534 1 255 (some 1000)) yard (fun s =>
        (s.lot 65534).isNone && decide (s.lots.length < 64) &&
          allPickers.all fun p => !(s.picker p).reasons.unknownLot) &&
      serving (declare [255, 254]) (.lotDeclare 65534 1 255 (some 1000)) unknown (fun s =>
        (s.picker .p1).reasons.unknownLot && (s.picker .p1).refusedLot == some 65534)) = true := by decide +kernel

theorem witness_LotCloseReservesOrSettles :
    (serving [17, 0, 1] (.lotClose 1) yard (fun s => (s.lot 1).isNone) &&
      serving [17, 8, 0xA2] (.lotClose 2210) (putLot 2210 (someLot .closing) yard) (fun s =>
        (s.lot 2210).map Lot.state == some .closing) &&
      serving [17, 8, 0xA2] (.lotClose 2210) (unseeded yard) (fun s => s.store.nextSerial.isNone) &&
      serving [17, 8, 0xA2] (.lotClose 2210) (storeTaken yard) (fun s =>
        s.store.nextSerial.isSome && s.store.grants == false) &&
      serving [17, 8, 0xA2] (.lotClose 2210) (putLot 2210 { someLot .active with live := 1 } yard) (fun s =>
        s.store.grants && allPresses.all fun b => (s.press b).state != .starved) &&
      serving [17, 8, 0xA7] (.lotClose 2215) yard (fun s =>
        s.store.grants && (s.lot 2215).map (fun l => (l.state, l.live, l.bales)) == some (.declared, 0, 0))) = true := by
  decide +kernel

theorem witness_LotRemoveFreesRecord :
    (serving [18, 0, 1] (.lotRemove 1) yard (fun s => (s.lot 1).isNone) &&
      serving [18, 8, 0xA2] (.lotRemove 2210) yard (fun s => (s.lot 2210).map Lot.state == some .active) &&
      serving [18, 8, 0xA7] (.lotRemove 2215) clearing (fun s => (s.picker .p1).pendingLot == some 2215) &&
      serving [18, 8, 0xA7] (.lotRemove 2215) yard (fun s => ((s.lot 2215).map Lot.state == some .declared) &&
        allPickers.all fun p => (s.picker p).currentLot != some 2215 && (s.picker p).pendingLot != some 2215)) = true := by
  decide +kernel

/-! ### Pickers -/

def p1 (f : Picker → Picker) (s : State) : State := s.onPicker .p1 f

def k1 (f : Kiln → Kiln) (s : State) : State := s.onKiln .k1 f

def b1 (f : Press → Press) (s : State) : State := s.onPress .b1 f

/-- P1 Running with charge 412 loading on K1. -/
def running : State :=
  p1 (fun r => { r with state := .running, pendingLot := none, clearanceStart := none, quietStart := none, inForce := none })
    clearing

/-- P1 Held for a floor, with nothing loading. -/
def held : State :=
  p1 (fun r => { r with state := .held, reasons := { r.reasons with noFloor := true }, waitStart := some 50 })
    (k1 (fun r => { r with state := .awaiting }) yard)

theorem witness_PickerTakesUpdates :
    ((yard.lotUsable 65535 == false) && (running.picker .p1).state == .running && (held.picker .p1).state == .held &&
      ((p1 (fun r => { r with refusedLot := some 65535 }) unknown).picker .p1).reasons.unknownLot && yard.lotUsable 2215 &&
      (running.picker .p1).currentLot == some 2210 && yard.lotUsable 2210 &&
      ((p1 (fun r => { r with state := .held }) running).picker .p1).loading.isSome &&
      (held.picker .p1).reasons.operator == false && (held.picker .p1).loading.isNone &&
      ((p1 (fun r => { r with reasons := { r.reasons with operator := true } }) held).picker .p1).reasons.operator &&
      (clearing.picker .p1).state == .clearing && (yard.picker .p1).state == .stopped &&
      ((p1 (fun r => { r with state := .stopped }) running).picker .p1).loading.isSome &&
      (yard.loadingCharge .p1).isNone && (running.loadingCharge .p1).map Prod.fst == some 412 &&
      (running.lot 2210).isSome && decide (8127 + 6872 < (running.kiln .k1).config.capacity) &&
      decide ((running.kiln .k1).config.capacity ≤ 8127 + 6873) && running.store.nextSerial.isSome) = true := by
  decide +kernel

/-- An update of the belt scale. -/
def beltScale (cls : SampleClass) (v : Option Int) : Update :=
  { view := { cls := cls, value := v, substituted := false }, report := true, settled := false }

/-- A clearance books an increment and takes a fresh Zero as quiet; SensorLost comes with a Fault and goes with a Zero. -/
theorem witness_PickerTakesUpdates_belt :
    (let lost (s : State) := p1 (fun r => { r with reasons := { r.reasons with sensorLost := true } }) s
     let take (u : Update) (s : State) := (unitTakes .beltScale (.picker .p1) u s).picker .p1
     (take (beltScale .zero (some 0)) clearing).quietStart == some 90 &&
       (take (beltScale .normal (some 1)) clearing).quietStart == some 100 && (clearing.loadingCharge .p1).isSome &&
       (clearing.lot 2210).isSome && (take (beltScale .fault none) running).state == .held &&
       (take (beltScale .stale none) yard).state == .stopped && (take (beltScale .absent none) running).state == .running &&
       (take (beltScale .zero (some 0)) (lost running)).reasons.sensorLost == false &&
       (take (beltScale .zero (some 0)) (lost (p1 (fun r => { r with state := .held }) running))).state == .running &&
       (take (beltScale .zero (some 0)) (lost (p1 (fun r =>
         { r with state := .held, reasons := { r.reasons with operator := true } }) running))).state == .held &&
       (lost held).loadingCharge .p1 == none && (lost held).pickers.p1.state == .held) = true := by decide +kernel

theorem witness_OpeningCompletes :
    (let s := p1 (fun r => { r with woken := true, retryFrom := some 99 }) held
     (s.picker .p1).currentLot == some 2210 && decide (s.line.ownDown.length < 6) && s.store.grants &&
       decide (s.pool.records.length < 40) && s.lotUsable 2210 && (s.picker .p1).needsCharge &&
       inRoute (s.picker .p1).config .k1 && (s.kiln .k1).claimable && s.passedOver .p1 .k1 == false &&
       (s.picker .p1).woken && decide (99 + 1 ≤ s.now) && (s.picker .p1).reasons.noFloor &&
       ((k1 (fun r => { r with ring := { r.ring with offered := true } }) s).kiln .k1).ring.offered &&
       ((k1 (fun r => { r with ring := { r.ring with offered := true } }) s).kiln .k1).ring.declined.isEmpty) = true := by
  decide +kernel

/-- P2 is offered K1 after P1 has declined it; P1, and P2 before that, take no offer. -/
theorem witness_OpeningCompletes_passed_on :
    (let s := k1 (fun r => { r with ring := { r.ring with declined := [.p1] } }) offered
     (s.picker .p2).needsCharge && inRoute (s.picker .p2).config .k1 && (s.kiln .k1).claimable && s.passedOver .p2 .k1 &&
       (s.kiln .k1).ring.offered && s.offerNext .k1 == some .p2 && offered.passedOver .p2 .k1 &&
       (offered.kiln .k1).ring.declined.isEmpty && (held.kiln .k1).ring.offered == false &&
       after (exec (.openingAttempt .p2 (some .k1)) (downTaken s)) (fun t => (t.picker .p2).loading.isNone)) = true := by
  decide +kernel

/-- The last claimable kiln of P1's route is K6, behind a kiln it passes over. -/
theorem witness_OpeningCompletes_passes_lower :
    (let s := p1 (fun r => { r with config := { r.config with route := 33 } }) held
     let t := k1 (fun r => { r with state := .cycling }) s
     (t.kiln .k6).claimable && inRoute (t.picker .p1).config .k6 && t.passedOver .p1 .k6 == false &&
       allKilns.all fun j => j == .k6 || !inRoute (t.picker .p1).config j || !(t.kiln j).claimable) = true := by
  decide +kernel

theorem witness_FailedOpeningIsUndone :
    (let s := p1 (fun r => { r with woken := true }) held
     completes (exec (.openingAttempt .p1 none) (downTaken s)) && (s.picker .p1).loading.isNone &&
       after (exec (.openingAttempt .p1 none) (downTaken s)) (fun t => (t.picker .p1).loading.isNone) &&
       decide (6 ≤ (downTaken s).line.ownDown.length) && (s.picker .p1).needsCharge && (s.picker .p1).woken &&
       (storeTaken s).store.grants == false && (storeTaken s).store.nextSerial.isSome &&
       (unseeded s).store.grants == false &&
       decide (40 ≤ (poolTaken s).pool.records.length) &&
       (allKilns.all fun k => !inRoute (s.picker .p1).config k || k == .k1) &&
       ((k1 (fun r => { r with state := .cycling }) s).kiln .k1).claimable == false &&
       (putLot 2210 (someLot .closing) s).lotUsable 2210 == false) = true := by decide +kernel

theorem witness_ClearanceEnds :
    ((clearing.picker .p1).state == .clearing && decide ((at_ 99 clearing).now < 90 + 10) && decide (90 + 10 ≤ clearing.now) &&
      (clearing.loadingCharge .p1).isSome && decide ((at_ 196 clearing).now < 77 + 120) &&
      decide (77 + 120 ≤ (at_ 197 clearing).now) && clearing.store.nextSerial.isSome &&
      ((p1 (fun r => { r with stopAfter := true }) clearing).picker .p1).stopAfter &&
      ((p1 (fun r => { r with reasons := { r.reasons with operator := true } }) clearing).picker .p1).reasons.standing &&
      (clearing.picker .p1).reasons.standing == false && (clearing.picker .p1).pendingLot.isSome &&
      ((p1 (fun r => { r with loading := none }) clearing).picker .p1).loading.isNone) = true := by decide +kernel

/-- P1 Stopped with its charge still loading. -/
def stopped : State := p1 (fun r => { r with state := .stopped }) running

theorem witness_PickerStartHoldRelease :
    (serving [32, 3] (.pickerStart 3) yard (fun _ => (pickerOf 3).isNone) &&
      serving [32, 2] (.pickerStart 2) yard (fun s => (s.picker .p2).currentLot.isNone) &&
      serving [32, 1] (.pickerStart 1) (p1 (fun r => { r with pendingLot := some 2215 }) stopped) (fun s =>
        (s.picker .p1).pendingLot.isSome && (s.picker .p1).loading.isSome && (s.picker .p1).state == .stopped) &&
      serving [32, 1] (.pickerStart 1) stopped (fun s => (s.picker .p1).reasons == .none) &&
      serving [32, 1] (.pickerStart 1) (p1 (fun r => { r with reasons := { r.reasons with sensorLost := true } }) stopped)
        (fun s => (s.picker .p1).reasons != .none && (s.picker .p1).loading.isSome) &&
      serving [32, 1] (.pickerStart 1) (p1 (fun r => { r with reasons := { r.reasons with disabled := true } }) yard)
        (fun s => (s.picker .p1).reasons.standing && (s.picker .p1).loading.isNone) &&
      serving [32, 1] (.pickerStart 1) yard (fun s => (s.picker .p1).reasons.standing == false) &&
      serving [34, 1] (.pickerHold 1) running (fun s => (s.picker .p1).state == .running) &&
      serving [34, 2] (.pickerHold 2) yard (fun s => (s.picker .p2).state != .running) &&
      serving [35, 2] (.pickerRelease 2) yard (fun s => !(s.picker .p2).reasons.operator && !(s.picker .p2).reasons.disabled) &&
      serving [35, 1] (.pickerRelease 1)
        (p1 (fun r => { r with state := .held, reasons := { r.reasons with operator := true } }) running) (fun s =>
        (s.picker .p1).state == .held && (s.picker .p1).loading.isSome && (s.picker .p1).reasons.operator)) = true := by
  decide +kernel

theorem witness_PickerStopCases :
    (serving [33, 1] (.pickerStop 1) running (fun s => (s.picker .p1).state == .running) &&
      serving [33, 1] (.pickerStop 1) held (fun s => (s.picker .p1).state == .held) &&
      serving [33, 1] (.pickerStop 1) clearing (fun s => (s.picker .p1).state == .clearing) &&
      serving [33, 2] (.pickerStop 2) yard (fun s => (s.picker .p2).state == .stopped)) = true := by decide +kernel

theorem witness_ChargeCloseAndAssign :
    (serving [36, 2] (.chargeClose 2) yard (fun s => (s.loadingCharge .p2).isNone) &&
      serving [36, 1] (.chargeClose 1) clearing (fun s => (s.picker .p1).state == .clearing) &&
      serving [36, 1] (.chargeClose 1) running (fun s =>
        (s.loadingCharge .p1).isSome && s.store.nextSerial.isSome && (s.picker .p1).state == .running) &&
      serving [36, 1] (.chargeClose 1) stopped (fun s => (s.picker .p1).state != .running) &&
      serving [37, 1, 6] (.pickerAssign 1 6) held (fun s => inRoute (s.picker .p1).config .k6 == false) &&
      serving [37, 1, 1] (.pickerAssign 1 1) running (fun s => (s.picker .p1).needsCharge == false) &&
      serving [37, 1, 1] (.pickerAssign 1 1) held (fun s => s.lotUsable 2210 && (s.picker .p1).needsCharge &&
        (s.kiln .k1).claimable && s.store.grants && (s.picker .p1).currentLot == some 2210) &&
      serving [37, 1, 1] (.pickerAssign 1 1) (downTaken held) (fun s => decide (6 ≤ s.line.ownDown.length)) &&
      serving [37, 1, 1] (.pickerAssign 1 1) (unseeded held) (fun s => s.store.nextSerial.isNone) &&
      serving [37, 1, 1] (.pickerAssign 1 1) (storeTaken held) (fun s => s.store.grants == false) &&
      serving [37, 1, 1] (.pickerAssign 1 1) (poolTaken held) (fun s =>
        decide (40 ≤ s.pool.records.length)) &&
      serving [37, 1, 1] (.pickerAssign 1 1) (putLot 2210 (someLot .closing) held) (fun s => s.lotUsable 2210 == false)) =
      true := by decide +kernel

/-! ### Kilns -/

def copyOf (e : EndTest) (last : Bool) : StageCopy := { stage := { stage with endTest := e }, last := last }

/-- K1 in a state with its stage copy, 60 s into the stage. -/
def cycling (state : KilnState) (c : StageCopy) : State :=
  k1 (fun r => { r with state := state, cycleSchedule := some 1, stage := some 1, copy := some c, stageElapsed := 60,
                        lastInjection := some 85 }) (permit .live .odd 2 yard)

theorem witness_InjectionsAreQueued :
    (let s := cycling .cycling (copyOf .time false)
     let owed := k1 (fun r => { r with burnerOwed := true }) s
     !(manual s).kilns.k1.scheduleFlag && (yard.kiln .k1).state == .idle && (held.kiln .k1).state == .awaiting &&
       (s.kiln .k1).dropOwed == false && (s.kiln .k1).copy.isSome && (ringFull.kiln .k1).dropOwed &&
       (dropping.kiln .k1).permit.state != .tripped && ((permit .tripped .odd 0 dropping).kiln .k1).permit.state == .tripped &&
       ((cycling .hold (copyOf .time false)).kiln .k1).state == .hold && ((manual s).kiln .k1).state == .manual &&
       decide ((at_ 99 s).now < 85 + 15) && decide (85 + 15 ≤ s.now) && (s.kiln .k1).injection.isSome &&
       s.bound .burner (.kiln .k1) == some 20 && s.bound .fan (.kiln .k1) == some 21 && !s.injectionWaits 20 &&
       !s.injectionWaits 21 && decide (s.line.ownDown.length < 5) && (s.bound .burner (.kiln .k2)).isNone &&
       decide (6 ≤ (downTaken s).line.ownDown.length) && (owed.kiln .k1).owes .burner &&
       ((manual owed).kiln .k1).injection.isNone && decide (owed.line.ownDown.length < 6) &&
       (down [{ frame := ownCommand 20 0, safety := false, injected := true }] [] 0 owed).injectionWaits 20) = true := by
  decide +kernel

theorem witness_KilnTimers :
    (let s := cycling .cycling (copyOf .time false)
     let last := cycling .cycling (copyOf .time true)
     let done := cycling .finishing (copyOf .moisture true)
     let out := k1 (fun r => { r with excursionStart := some 70 }) s
     let hot := k1 (fun r => { r with config := { r.config with bandAction := .hold } }) out
     let wait := k1 (fun r => { r with state := .awaiting, awaitingStart := some 40,
                                       config := { r.config with awaitingLimit := 60 } }) yard
     (s.kiln .k1).clockRuns && decide ((s.kiln .k1).stageElapsed = 60) && s.stageOf 1 2 == some stage &&
       ((k1 (fun r => { r with stageElapsed := 59 }) s).kiln .k1).stageElapsed == 59 && stage.endTest == .time &&
       ((last.kiln .k1).copy.map StageCopy.last) == some true && (s.stageOf 1 3).isNone && (done.kiln .k1).clockRuns &&
       ((k1 (fun r => { r with ring := { r.ring with slot2 := .loaded 412 } }) done).kiln .k1).ring.lower == .loaded 412 &&
       (out.kiln .k1).clockRuns && decide ((at_ 99 out).now < 70 + stage.grace) && decide (70 + stage.grace ≤ out.now) &&
       (out.kiln .k1).config.bandAction == .notice && (hot.kiln .k1).config.bandAction == .hold && (hot.kiln .k1).holdOff &&
       (held.kiln .k1).state == .awaiting && decide ((at_ 99 wait).now < 40 + 60) && decide (40 + 60 ≤ wait.now) &&
       (wait.kiln .k1).permit.state != .live &&
       ((permit .live .odd 2 wait).kiln .k1).permit.state == .live && (wait.kiln .k1).scheduleFlag &&
       (wait.kiln .k1).capture.isNone && wait.stageOf (wait.kiln .k1).config.schedule 1 == some stage) = true := by
  decide +kernel

/-- A FloorMoisture reading at the target and one above it; an AirTemp reading inside the band and outside it. -/
theorem witness_KilnTimers_readings :
    (let done := k1 (fun r => { r with ring := { r.ring with slot2 := .loaded 412 } })
       (putCharge 412 (someCharge 2210 .p1 .k1 8127 .loaded) (cycling .finishing (copyOf .moisture true)))
     let s := cycling .cycling (copyOf .time false)
     let quick := k1 (fun r => { r with copy := r.copy.map fun c => { c with stage := { c.stage with grace := 0 } } }) s
     let air (v : Int) (s : State) := (unitTakes .airTemp (.kiln .k1) (beltScale .normal (some v)) s).kiln .k1
     (done.kiln .k1).clockRuns && (done.lot 2210).isSome && ((done.kiln .k1).config.moistureTarget == 100) &&
       unitTakes .floorMoisture (.kiln .k1) (beltScale .normal (some 101)) done == done &&
       ((unitTakes .floorMoisture (.kiln .k1) (beltScale .normal (some 100)) done).kiln .k1).state == .dropping &&
       (yard.kiln .k1).clockRuns == false && (air 630 s).excursionStart == none && (air 670 s).excursionStart == none &&
       (air 671 s).excursionStart == some 100 && (air 629 s).bandLatched == false && (air 671 quick).bandLatched &&
       (air 671 (k1 (fun r => { r with config := { r.config with bandAction := .hold } }) quick)).state == .hold) = true := by
  decide +kernel

theorem witness_KilnModeAndRelease :
    (serving [49, 0] (.kilnRelease 0) yard (fun _ => (kilnOf 0).isNone) &&
      serving [49, 6] (.kilnRelease 6) yard (fun s => (s.kiln .k6).state != .hold) &&
      serving [49, 1] (.kilnRelease 1) (cycling .hold (copyOf .moisture false)) (fun s => (s.kiln .k1).state == .hold) &&
      serving [50, 1, 2] (.kilnMode 1 true) yard (fun s => (s.kiln .k1).stageRuns == false) &&
      serving [50, 1, 2] (.kilnMode 1 true) (cycling .cycling (copyOf .time false)) (fun s =>
        (s.kiln .k1).stageRuns && (s.kiln .k1).state != .manual) &&
      serving [50, 1, 1] (.kilnMode 1 false) (k1 (fun r => { r with holdOff := false })
        (cycling .manual (copyOf .time true))) (fun s => !(s.kiln .k1).holdOff) &&
      serving [50, 1, 1] (.kilnMode 1 false) (cycling .manual (copyOf .time true)) (fun s => (s.kiln .k1).holdOff) &&
      serving [50, 1, 1] (.kilnMode 1 false) yard (fun s =>
        (s.kiln .k1).state != .ready && !(s.kiln .k1).overdue)) = true := by decide +kernel

/-- K1 Ready under a Live permit, and the same with a trip capture. -/
def ready : State := k1 (fun r => { r with state := .ready }) (permit .live .odd 2 yard)

def captured (stage elapsed : Nat) (dropOwed : Bool) : State :=
  k1 (fun r => { r with capture := some { state := .cycling, schedule := some 1, stage := some stage, elapsed := elapsed,
                                          dropOwed := dropOwed } }) ready

theorem witness_CycleNowAndResume :
    (serving [48, 1] (.cycleNow 1) yard (fun s => (s.kiln .k1).state == .idle) &&
      serving [48, 1] (.cycleNow 1) (permit .live .odd 2 clearing) (fun s => (s.kiln .k1).ring.upper == .loading 412) &&
      serving [48, 1] (.cycleNow 1) ready (fun s => (s.kiln .k1).scheduleFlag && s.stageOf 1 1 == some stage) &&
      serving [48, 1] (.cycleNow 1) (permit .live .odd 2 running) (fun s =>
        (s.kiln .k1).state == .loading && (s.charge 412).map (fun c => (c.picker, c.kiln)) == some (.p1, .k1) &&
          s.store.nextSerial.isSome) &&
      serving [51, 1] (.cycleResume 1) ready (fun s => (s.kiln .k1).capture.isNone) &&
      serving [51, 1] (.cycleResume 1) (captured 3 0 false) (fun s => decide ((s.schedule 1).length < 3)) &&
      serving [51, 1] (.cycleResume 1) (captured 2 59 false) (fun s =>
        s.stageOf 1 2 == some stage && decide (59 < stage.duration)) &&
      serving [51, 1] (.cycleResume 1) (captured 1 0 true) (fun s =>
        (s.kiln .k1).ring.lower == .empty && !isLoading (s.kiln .k1).ring.upper)) = true := by decide +kernel

theorem witness_DropStartIsTaken :
    (let wait := k1 (fun r => { r with state := .pileFull, pileWoken := true }) ringFull
     (ringFull.kiln .k1).dropOwed && decide (99 + 1 ≤ ringFull.now) && (wait.kiln .k1).pileWoken &&
       (ringFull.kiln .k1).ring.lower == .loaded 501 && !isLoading (ringFull.kiln .k1).ring.upper &&
       (ringFull.charge 501).isSome && (ringFull.bound .dropGate (.kiln .k1)).isSome &&
       decide (6 ≤ (downTaken ringFull).line.ownDown.length) &&
       decide (8 ≤ ((b1 (fun r => { r with inFlight := 2 }) ringFull).press .b1).placesUsed) &&
       decide (((b1 (fun r => { r with inFlight := 1 }) ringFull).press .b1).placesUsed < 8)) = true := by decide +kernel

/-- Cycles that complete over an Empty lower slot, with charges 506 and 503 above it. -/
theorem witness_EmptyDropTurnsTheRing :
    (let above (state : KilnState) (c : StageCopy) := k1 (fun r =>
       { r with ring := { r.ring with slot0 := .loaded 506, slot1 := .loaded 503 } }) (cycling state c)
     let hyps (s : State) : Bool := (s.kiln .k1).copy.isSome && (s.kiln .k1).permit.state == .live && !(s.kiln .k1).dropOwed &&
       (s.kiln .k1).ring.lower == .empty && !isLoading (s.kiln .k1).ring.upper && decide (s.kiln .k1).ring.charges.Nodup
     let last := above .cycling (copyOf .time true)
     let next := k1 (fun r => { r with stage := some 2 }) (above .cycling (copyOf .time false))
     let done := above .finishing (copyOf .moisture true)
     hyps last && decide (stage.duration ≤ (last.kiln .k1).stageElapsed) && hyps next && (next.stageOf 1 3).isNone && hyps done &&
       hyps (above .hold (copyOf .moisture true)) &&
       serving [49, 1] (.kilnRelease 1) (above .hold (copyOf .moisture true)) (fun s => (s.kiln .k1).state == .hold) &&
       serving [50, 1, 1] (.kilnMode 1 false) (above .manual (copyOf .moisture true)) (fun s => (s.kiln .k1).holdOff) &&
       after (exec (.stageEnd .k1) last) (fun t => (t.kiln .k1).ring.emptyDrops == 1 && (t.kiln .k1).state == .awaiting)) =
      true := by decide +kernel

theorem witness_DropTimeoutCompletes :
    (let clear : Update := beltScale .normal (some 2)
     (dropping.kiln .k1).ring.drop.isSome && (dropping.charge 506).isSome && (dropping.lot 2215).isSome &&
       decide ((at_ 399 dropping).now < 100 + 300) && decide (100 + 300 ≤ (at_ 400 dropping).now) &&
       ((permit .tripped .odd 0 dropping).kiln .k1).permit.state == .tripped && (dropping.press .b1).state != .starved &&
       (dropping.press .b1).entries.isEmpty &&
       ((unitTakes .dropGate (.kiln .k1) clear dropping).kiln .k1).ring.drop.isNone &&
       unitTakes .dropGate (.kiln .k1) (beltScale .normal (some 1)) dropping == dropping &&
       ((unitTakes .dropScale (.kiln .k1) (beltScale .normal (some 7)) dropping).charge 506).map Charge.dried ==
         some (some 7) &&
       ((unitTakes .dropScale (.kiln .k1) (beltScale .zero (some 0)) dropping).kiln .k1).ring.drop.map Drop.measured ==
         some true && unitTakes .dropScale (.kiln .k1) (beltScale .stale none) dropping == dropping) = true := by
  decide +kernel

theorem witness_PermitRequests :
    (serving [56, 6] (.permitStage 6) yard (fun s => (s.kiln .k6).permit.state == .off) &&
      serving [56, 1] (.permitStage 1) (permit .staged .odd 0 yard) (fun s => (s.kiln .k1).permit.state != .off) &&
      serving [57, 1] (.permitRenewOdd 1) (permit .tripped .odd 0 yard) (fun s => (s.kiln .k1).permit.state == .tripped) &&
      serving [57, 1] (.permitRenewOdd 1) (permit .staged .odd 255 yard) (fun s => (s.kiln .k1).permit.parity == .odd) &&
      serving [58, 1] (.permitRenewEven 1) (permit .live .even 2 yard) (fun s => (s.kiln .k1).permit.parity == .even) &&
      decide ((at_ 99 heated).now < 90 + (heated.kiln .k1).config.renewalPeriod) &&
      serving [60, 1] (.permitWithdraw 1) yard (fun s => (s.kiln .k1).permit.state == .off) &&
      serving [60, 1] (.permitWithdraw 1) (permit .tripped .odd 0 yard) (fun s => (s.kiln .k1).permit.state == .tripped) &&
      serving [60, 1] (.permitWithdraw 1) heated (fun s => (s.kiln .k1).state == .cycling) &&
      serving [60, 1] (.permitWithdraw 1) (permit .staged .odd 0 yard) (fun s => (s.kiln .k1).state == .idle) &&
      serving [59, 1] (.permitConfirm 1) (permit .staged .odd 1 yard) (fun s => decide ((s.kiln .k1).permit.proving < 2)) &&
      serving [59, 1] (.permitConfirm 1) (permit .staged .odd 2 yard) (fun s =>
        (s.kiln .k1).state != .ready && !(s.kiln .k1).overdue) &&
      serving [59, 1] (.permitConfirm 1) (permit .staged .odd 2 ready) (fun s =>
        (s.kiln .k1).state == .ready && (s.kiln .k1).capture.isNone && s.stageOf 1 1 == some stage)) = true := by
  decide +kernel

theorem witness_PermitLapsesOrTrips :
    (heated.tablesOk ∧ (permit .staged .odd 0 yard).tablesOk ∧ clearing.tablesOk) ∧
      (decide ((heated.kiln .k1).config.purgeFan ≤ 100) && decide (90 + (heated.kiln .k1).config.renewalPeriod ≤ heated.now) &&
        (heated.kiln .k1).permit.state == .live && (heated.kiln .k1).state.captured &&
        ((permit .staged .odd 0 yard).kiln .k1).permit.timer == some 90 &&
        serving [57, 1] (.permitRenewOdd 1) (permit .live .even 2 clearing) (fun s =>
          (s.kiln .k1).permit.parity == .even && (s.kiln .k1).ring.upper == .loading 412 && (s.charge 412).isSome &&
            s.store.nextSerial.isSome && (s.kiln .k1).state.captured == false) &&
        serving [58, 1] (.permitRenewEven 1) (permit .live .odd 2 dropping) (fun s =>
          (s.kiln .k1).state == .dropping && !isLoading (s.kiln .k1).ring.upper)) = true := by
  unfold State.tablesOk tableCanonical; decide +kernel

/-! ### Piles and presses -/

/-- B1 Idle before charge 627, its fill start due. -/
def fillDue : State :=
  b1 (fun r => { r with entries := [627], fillDue := true }) (putCharge 627 (piled 2215 2100 0) yard)

theorem witness_FillStartTakesHead :
    ((fillDue.press .b1).fillDue && (fillDue.press .b1).entries == [627] && (fillDue.charge 627).isSome &&
      ((b1 (fun r => { r with auto := false }) fillDue).press .b1).auto == false && (fillDue.press .b1).state == .idle &&
      (fillDue.press .b1).slot.isNone && (storeTaken fillDue).store.grants == false && (unseeded fillDue).store.nextSerial.isNone &&
      fillDue.store.grants && fillDue.bound .pileFeed (.press .b1) == some 30 && (State.reset.bound .pileFeed (.press .b1)).isNone &&
      decide (fillDue.line.ownDown.length < 6) && decide (6 ≤ (downTaken fillDue).line.ownDown.length)) = true := by
  decide +kernel

/-- B1 in a phase since second 40, its timeout 60 s. -/
def phased (state : PressState) : State :=
  b1 (fun r => { r with state := state, feedRun := false, phaseStart := some 40, phaseTimeout := 60, phaseOwed := true }) filling

theorem witness_OwedOrdersAreQueued :
    (let gate := k1 (fun r => { r with ring := { r.ring with gateCloseOwed := true, gateRestore := true } }) yard
     let order := p1 (fun r => { r with distributorOwed := true }) running
     (yard.kiln .k1).ring.gateCloseOwed == false && (gate.kiln .k1).ring.gateCloseOwed && decide (gate.line.ownDown.length < 6) &&
       gate.bound .dropGate (.kiln .k1) == some 23 && !(yard.press .b1).runOwed &&
       ((b1 (fun r => { r with runOwed := true }) filling).press .b1).runOwed && filling.bound .pileFeed (.press .b1) == some 30 &&
       phaseOf ((phased .tying).press .b1).state == some .tie && ((phased .tying).press .b1).phaseOwed &&
       (phased .tying).bound .pressHydraulics (.press .b1) == some 31 && (gate.kiln .k1).ring.gateRestore &&
       (order.picker .p1).distributorOwed && (order.loadingCharge .p1).isSome &&
       order.bound .distributor (.picker .p1) == some 12 && decide (6 ≤ (downTaken order).line.ownDown.length)) = true := by
  decide +kernel

theorem witness_FillReportIsBooked :
    ((filling.press .b1).state == .filling && (filling.press .b1).feedRun && (filling.press .b1).bale.isSome &&
      ((filling.press .b1).bale.bind Bale.endReason).isNone && (filling.charge 624).isSome && decide (500 + 454 < 955) &&
      decide (2300 + 454 < (filling.press .b1).config.target) &&
      decide (((b1 (fun r => { r with config := { r.config with target := 2754 } }) filling).press .b1).config.target ≤ 2300 + 454) &&
      decide (955 ≤ 500 + 455) && ((b1 (fun r => { r with entries := [624] }) filling).press .b1).entries == [624] &&
      (filling.lot 2210).map Lot.state == some .active) = true := by decide +kernel

/-- The five cases after a retirement: a full content list, a head of the lot, of another lot, a spent lot and an empty pile. -/
theorem witness_FillReportIsBooked_heads :
    (let book (s : State) := (unitTakes .fillScale (.press .b1) (beltScale .normal (some 455)) s).press .b1
     let alone := b1 (fun r => { r with entries := [624] }) filling
     let four := b1 (fun r => { r with bale := r.bale.map fun x => { x with
       contents := { charge := 618, drawn := 0 } :: { charge := 619, drawn := 0 } :: x.contents } }) filling
     let reason (s : State) := (book s).bale.bind Bale.endReason
     (filling.charge 627).map (fun r => (r.lot, r.dried)) == some (2215, some 2100) && reason filling == some .lotBreak &&
       (book (putCharge 627 (piled 2210 2100 0) filling)).bale.map (fun x => x.contents.length) == some 3 &&
       reason four == some .contentLimit &&
       reason (putLot 2210 { someLot .closing with live := 1, bales := 1 } alone) == some .lotEnd &&
       (book (putLot 2210 { someLot .closing with live := 2, bales := 1 }
         (putCharge 700 (someCharge 2210 .p1 .k1 5 .loaded) alone))).state == .starved &&
       (book alone).state == .starved) = true := by decide +kernel

/-- B1 Starved in bale 37 of lot 2210, and K1's drop of charge 506 onto its pile due to time out. -/
def waiting : State :=
  b1 (fun r => { r with state := .starved, feedRun := false, entries := [], auto := true, inFlight := 1 })
    (k1 (fun _ => dropping.kiln .k1) (putCharge 506 ((dropping.charge 506).getD (someCharge 2210 .p1 .k1 0 .loaded))
      (at_ 400 (putCharge 624 (piled 2210 955 500) filling))))

theorem witness_FillReportIsBooked_starved :
    waiting.tablesOk ∧
      (let drops (s : State) (p : Press → Bool) := after (exec (.dropTimeout .k1) s) fun t => p (t.press .b1)
       let same := putCharge 506 { someCharge 2210 .p1 .k1 13906 .dropping with dried := some 0 } waiting
       let none_ := putCharge 506 { someCharge 2210 .p1 .k1 4 .dropping with dried := some 0 } waiting
       (waiting.press .b1).bale.map (fun x => (x.lot, x.fill == 0)) == some (2210, false) &&
         drops waiting (fun r => r.bale.bind Bale.endReason == some .lotBreak) &&
         drops same (fun r => r.state == .filling && r.feedRun && r.entries == [506]) &&
         drops none_ (fun r => r.state == .starved && r.entries.isEmpty) &&
         serving [17, 8, 0xA2] (.lotClose 2210) waiting (fun s => s.store.grants && (s.press .b2).state == .idle &&
           s.pool.records.all fun q => q.2.lot != 2210 || q.2.state == .piled) &&
         serving [17, 8, 0xA2] (.lotClose 2210) same (fun s => s.pool.records.any fun q => q.2.state == .dropping)) = true := by
  unfold State.tablesOk tableCanonical; decide +kernel

/-- The coast's bookings: below, at and above the dried mass, after the retirement, and past the coast. -/
theorem witness_CoastAndPhases_coast :
    (let coast := b1 (fun r => { r with feedRun := false }) filling
     let book (v : Int) (s : State) := (unitTakes .fillScale (.press .b1) (beltScale .normal (some v)) s).press .b1
     let overdrawn (v : Int) (s : State) := ((book v s).bale.map Bale.overdraw, (book v s).entries)
     overdrawn 454 coast == (some false, [624, 627]) && overdrawn 455 coast == (some false, [627]) && overdrawn 456 coast == (some true, [627]) &&
       overdrawn 1 (b1 (fun r => { r with entries := [627] }) coast) == (some true, [627]) &&
       (book 5 (b1 (fun r => { r with state := .compressing }) coast)).unbooked == 5 && (book 5 yard).unbooked == 5 &&
       (book 5 (b1 (fun r => { r with state := .paused, resume := some .tie }) coast)).unbooked == 5) = true := by
  decide +kernel

theorem witness_CoastAndPhases :
    (let s := b1 (fun r => { r with feedRun := false, coastStart := some 95, coastQuiet := 5 }) filling
     (s.press .b1).coastStart == some 95 && decide ((at_ 99 s).now < 95 + 5) && decide (95 + 5 ≤ s.now) && (s.press .b1).auto &&
       ((b1 (fun r => { r with auto := false }) s).press .b1).auto == false &&
       (State.reset.bound .pressHydraulics (.press .b1)).isNone && s.bound .pressHydraulics (.press .b1) == some 31 &&
       decide (6 ≤ (downTaken s).line.ownDown.length) && phaseOf ((phased .compressing).press .b1).state == some .compress &&
       phaseOf ((phased .tying).press .b1).state == some .tie && phaseOf ((phased .ejecting).press .b1).state == some .eject &&
       decide ((at_ 99 (phased .ejecting)).now < 40 + 60) && decide (40 + 60 ≤ (phased .ejecting).now) &&
       phaseCode .compress == 1 && phaseCode .eject == 3) = true := by decide +kernel

theorem witness_WeighingCompletesBale :
    ((weighing.press .b1).slot.map WeighSlot.purpose == some .bale && (weighing.press .b1).bale.isSome &&
      (weighing.lot 2210).isSome && weighing.store.nextSerial == some 1001 && decide ((at_ 119 weighing).now < 100 + 20) &&
      decide (100 + 20 ≤ (at_ 120 weighing).now) && decide (0 < (121 : Int) - (weighing.press .b1).config.tare) &&
      decide ((120 : Int) - (weighing.press .b1).config.tare ≤ 0)) = true := by decide +kernel

/-- A bale that has drawn nothing, in a Starved press. -/
def starved : State :=
  b1 (fun r => { r with state := .starved, feedRun := false, entries := [],
                        bale := r.bale.map fun x => { x with fill := 0, contents := [] } }) filling

def faulted : State := b1 (fun r => { r with state := .faulted, cause := some .tieTimeout, feedRun := false }) filling

theorem witness_PressRequests :
    (serving [64, 2] (.pressNow 2) yard (fun s => (s.press .b2).state != .starved && (s.press .b2).state != .filling) &&
      serving [64, 1] (.pressNow 1) filling (fun s =>
        (s.press .b1).bale.map (fun x => (x.fill != 0, x.endReason)) == some (true, none) && (s.press .b1).feedRun) &&
      serving [64, 1] (.pressNow 1) starved (fun s => (s.press .b1).bale.map Bale.fill == some 0) &&
      serving [65, 1] (.pressClear 1) filling (fun s => (s.press .b1).state != .faulted) &&
      serving [65, 1] (.pressClear 1) faulted (fun s =>
        (s.press .b1).bale.isSome && (s.lot 2210).isSome && s.store.nextSerial.isSome) &&
      serving [66, 1, 0] (.pressAuto 1 false) yard (fun s => (s.press .b1).auto) &&
      serving [66, 1, 1] (.pressAuto 1 true) yard (fun s => (s.press .b1).auto) &&
      serving [66, 1, 1] (.pressAuto 1 true) (b1 (fun r => { r with auto := false }) fillDue) (fun s =>
        !(s.press .b1).auto && (s.press .b1).entries == [627] && s.store.grants && (s.press .b1).slot.isNone) &&
      serving [66, 1, 1] (.pressAuto 1 true)
        (b1 (fun r => { r with auto := false, state := .paused, resume := some .eject }) filling) (fun s =>
        (s.press .b1).resume == some .eject && (s.press .b1).state == .paused && (s.press .b1).slot.isNone)) = true := by
  decide +kernel

/-- B1 Idle with bale 37 in its recent-bale list. -/
def recent : State :=
  b1 (fun r => { r with recent := [{ number := 37, lot := 2210, grower := 412, serial := 1000, gross := none, net := none,
                                     tare := 120 }] }) yard

def reweighing : State :=
  b1 (fun r => { r with slot := some { purpose := .reweigh, bale := 37, start := 80, best := none, window := 20 },
                        reweighTag := some 9 }) recent

theorem witness_PressReweighAndReply :
    (serving [67, 1, 0, 38] (.pressReweigh 1 38) recent (fun s => (s.press .b1).recent.all fun e => e.number != 38) &&
      serving [67, 1, 0, 37] (.pressReweigh 1 37) reweighing (fun s => (s.press .b1).slot.isSome) &&
      serving [67, 1, 0, 37] (.pressReweigh 1 37) (unseeded recent) (fun s => s.store.nextSerial.isNone) &&
      serving [67, 1, 0, 37] (.pressReweigh 1 37) (storeTaken recent) (fun s => s.store.grants == false) &&
      serving [67, 1, 0, 37] (.pressReweigh 1 37) recent (fun s => s.store.grants && (s.press .b1).state == .idle) &&
      decide (80 + 20 ≤ reweighing.now) && (reweighing.press .b1).state == .idle &&
      decide (reweighing.line.ownUp.length < 8) && (reweighing.press .b1).owedReplies.isEmpty &&
      decide (8 ≤ (upTaken reweighing).line.ownUp.length) &&
      ((b1 (fun r => { r with owedReplies := [{ tag := 9, serial := some 1001 }] }) recent).press .b1).owedReplies.length == 1) =
      true := by decide +kernel

/-! ### The Ticket Store and the resets -/

theorem witness_TicketBaseSeeds :
    (serving [72, 0, 0, 0, 0] (.ticketBase 0) (unseeded yard) (fun _ => true) &&
      serving [72, 255, 255, 255, 1] (.ticketBase 4294967041) (unseeded yard) (fun _ => decide (4294967040 < 4294967041)) &&
      serving [72, 0, 0, 0, 1] (.ticketBase 1) yard (fun s => s.store.nextSerial.isSome) &&
      serving [72, 255, 255, 255, 0] (.ticketBase 4294967040) (unseeded yard) (fun s => s.store.nextSerial.isNone)) = true := by
  decide +kernel

theorem witness_TicketTakeRemoves :
    (serving [74, 0, 0, 0, 0] (.ticketTake 0) (unseeded yard) (fun s => s.store.nextSerial.isNone) &&
      serving [74, 0, 0, 3, 0xE9] (.ticketTake 1001) stored (fun s => decide (s.store.fetchHigh < 1001)) &&
      serving [74, 0, 0, 3, 0xE8] (.ticketTake 1000) stored (fun s => decide (1000 ≤ s.store.fetchHigh))) = true := by
  decide +kernel

theorem witness_FetchTransfer :
    (let ending := (fetching 3 3 stored).onStore fun t => { t with
       transfer := t.transfer.map fun x => { x with endReason := some .counted, endOwed := true } }
     let next := stored.onStore fun t => { t with
       transfer := some { tag := 9, count := 5, sent := 0, lastQueued := none, lastSent := none, waiting := false,
                          endReason := none, endOwed := false } }
     serving [73, 0] (.ticketFetch 0) yard (fun _ => true) && serving [73, 193] (.ticketFetch 193) yard (fun _ => true) &&
       serving [73, 192] (.ticketFetch 192) (unseeded yard) (fun s => s.store.nextSerial.isNone) &&
       serving [73, 1] (.ticketFetch 1) next (fun s => s.store.transfer.isSome) &&
       serving [73, 192] (.ticketFetch 192) stored (fun s => s.store.transfer.isNone && !s.store.tickets.isEmpty) &&
       serving [73, 1] (.ticketFetch 1) yard (fun s => s.store.tickets.isEmpty && decide (s.line.ownUp.length < 7)) &&
       serving [73, 1] (.ticketFetch 1) (up (List.replicate 7 (ownUp .reply)) [] 0 yard) (fun s => s.line.ownUp.length == 7) &&
       (next.store.transfer.bind next.store.due) == some (ticket 1001) &&
       decide (8 < (upTaken next).line.ownUp.length + (ticketFrames (ticket 1001)).length) &&
       decide (next.line.ownUp.length + (ticketFrames (ticket 1001)).length ≤ 8) &&
       ((fetching 3 3 stored).store.transfer.bind (fetching 3 3 stored).store.due).isNone &&
       ending.store.transfer.map (fun x => (x.endReason, x.endOwed)) == some (some .counted, true)) = true := by decide +kernel

theorem witness_LineResetEmptiesTheLine :
    (asked [5] (upTaken yard)).agent.requests.head? = some (request [5]) ∧
      (asked [5] (upTaken yard)).requestOf (request [5]) = some .lineReset := by decide +kernel

/-! ### The clauses on shut gates, readings at a write, Finishing, resumed fills and reweighed bales -/

/-- A shut gate changes a value and counts once, or finds it 0; a gate of another unit leaves the frame and the counters. -/
theorem witness_GatesAtTransmission_counts :
    (let sends (s : State) (v : Int) (n : Nat) := after (exec .fPortTransmit s) fun t =>
       t.line.fSending == some (command 20 v) && t.line.counters == { s.line.counters with rewritten := n }
     (yard.kiln .k1).permit.state != .live && yard.bindingOf 20 == some { role := .burner, unit := some (.kiln .k1) } &&
       sends (down [] [forwarded (command 20 650)] 0 yard) 0 1 && sends (down [] [forwarded (command 20 0)] 0 yard) 0 0 &&
       ((permit .live .odd 2 yard).kiln .k2).permit.state != .live && (yard.picker .p1).state != .running &&
       sends (down [] [forwarded (command 20 650)] 0 (permit .live .odd 2 yard)) 650 0 &&
       sends (down [ordinary (command 20 650)] [forwarded (poll 9)] 2 (permit .live .odd 2 yard)) 650 0 &&
       sends (down [ordinary (poll 9), safe (command 20 0)] [] 0 (permit .live .odd 2 yard)) 0 0) = true := by
  decide +kernel

/-- A watch written on a channel with a record: its reading is Inside, Below, Below with persistence 0, or Unordered. -/
theorem witness_WatchesAreSetAndFire_reading :
    (let content (low persistence : Byte) : List Byte := [1, 14, 0, 0, 0, 0, low, 0, 0, 1, 0x90, 0, 0, persistence, 1, 2, 2, 0]
     let writes (c : List Byte) (s : State) (p : Watch → Bool) :=
       serving ([2, 6, 1] ++ c) (.tableWritePlain 6 1 c) s fun s => after (exec .tableWritePlain s) fun t => p (t.watch 1)
     let s := yard.putSample 14 0 measured
     writes (content 36 20) s (fun w => w.state == .armed && w.lastOutcome == some .inside) &&
       writes (content 37 20) s (fun w => w.state == .pending && w.pendingStart == some 100) &&
       writes (content 37 0) s (fun w => w.state == .fired && w.fireCount == 1 && w.lastFire == some 100) &&
       writes (content 37 20) yard (fun w => w.lastOutcome == some .unordered)) = true := by decide +kernel

/-- A card for the current lot ends UnknownLot: the picker runs with its charge, stays for another reason, or attempts. -/
theorem witness_PickerTakesUpdates_card :
    (let refused (s : State) := p1 (fun r => { r with state := .held, reasons := { r.reasons with unknownLot := true } }) s
     let card (s : State) := (unitTakes .wagonReader (.picker .p1) (beltScale .normal (some 2210)) s).picker .p1
     let lost (s : State) := p1 (fun r => { r with reasons := { r.reasons with sensorLost := true } }) s
     running.lotUsable 2210 && ((refused running).picker .p1).currentLot == some 2210 &&
       ((refused running).picker .p1).loading == some 412 && (card (refused running)).state == .running &&
       (card (lost (refused running))).state == .held && (card (refused held)).state == .running &&
       (card (lost (refused held))).loading.isNone && (card (refused (downTaken held))).state == .held &&
       card running == running.picker .p1) = true := by decide +kernel

def wet : Stage := { stage with endTest := .moisture }

/-- K1 over a loaded lower slot. -/
def loadedBelow (s : State) : State := k1 (fun r => { r with ring := { r.ring with slot2 := .loaded 412 } }) s

/-- The ways into Finishing with a loaded lower slot: a stage's end, an overdue kiln, Release, Mode, Cycle Now, Cycle Resume and
Permit Confirm; and into an empty drop with an Empty one. -/
theorem witness_KilnTimers_finishing :
    (let finishes (s : State) (n : Nat) := (s.kiln .k1).state == .finishing && (s.kiln .k1).stage == some n
     let two (s : State) := loadedBelow (s.withSchedules [(1, [stage, wet])])
     let one (s : State) := loadedBelow (s.withSchedules [(1, [wet])])
     let s := cycling .cycling (copyOf .time false)
     let wait := k1 (fun r => { r with state := .awaiting, awaitingStart := some 40, config := { r.config with awaitingLimit := 60 } })
     after (exec (.stageEnd .k1) (two s)) (finishes · 2) && ((two s).kiln .k1).holdOff && (two s).stageOf 1 2 == some wet &&
       after (exec (.stageEnd .k1) (s.withSchedules [(1, [stage, wet])])) (fun t => (t.kiln .k1).ring.emptyDrops == 1) &&
       after (exec (.awaitingOverdue .k1) (wait (one (permit .live .odd 2 yard)))) (finishes · 1) &&
       serving [49, 1] (.kilnRelease 1) (loadedBelow (cycling .hold (copyOf .moisture true))) (fun s =>
         after (exec .kilnRelease s) (finishes · 1)) &&
       serving [50, 1, 1] (.kilnMode 1 false) (loadedBelow (cycling .manual (copyOf .moisture true))) (fun s =>
         after (exec .kilnMode s) (finishes · 1)) &&
       serving [50, 1, 1] (.kilnMode 1 false) (one ready) (fun s => after (exec .kilnMode s) (finishes · 1)) &&
       serving [48, 1] (.cycleNow 1) (one ready) (fun s => after (exec .cycleNow s) (finishes · 1)) &&
       serving [51, 1] (.cycleResume 1) (two (captured 2 59 false)) (fun s =>
         after (exec .cycleResume s) fun t => finishes t 2 && (t.kiln .k1).stageElapsed == 59) &&
       serving [59, 1] (.permitConfirm 1) (one (permit .staged .odd 2 ready)) (fun s =>
         after (exec .permitConfirm s) (finishes · 1)) &&
       serving [59, 1] (.permitConfirm 1) (one (permit .staged .odd 2 (k1 (fun r =>
         { r with state := .awaiting, overdue := true }) ready))) (fun s => after (exec .permitConfirm s) (finishes · 1))) =
      true := by decide +kernel

/-- A drop onto a pile with an entry, with and without a place for the gate's Close, and one of mass 0 onto an empty pile. -/
theorem witness_DropTimeoutCompletes_append :
    (let onto := b1 (fun r => { r with entries := [627] }) (putCharge 627 (piled 2215 2100 0) (at_ 400 dropping))
     let light := putCharge 506 { someCharge 2215 .p1 .k1 4 .dropping with dried := some 0, pile := some .b1 } (at_ 400 dropping)
     let drops (s : State) (p : State → Bool) := after (exec (.dropTimeout .k1) s) p
     (onto.press .b1).entries == [627] && ((onto.charge 627).bind Charge.dried) == some 2100 &&
       onto.bound .dropGate (.kiln .k1) == some 23 && (allPresses.all fun b => (onto.press b).state != .starved) &&
       drops onto (fun t => (t.press .b1).entries == [627, 506] && (t.charge 506).map Charge.state == some .piled &&
         t.line.ownDown.head? == some (ordinary (ownCommand 23 0)) && !(t.kiln .k1).ring.gateCloseOwed) &&
       drops (downTaken onto) (fun t => (t.kiln .k1).ring.gateCloseOwed && t.line.ownDown == (downTaken onto).line.ownDown) &&
       drops light (fun t => (t.press .b1).entries.isEmpty && (t.charge 506).isNone) &&
       (State.reset.bound .dropGate (.kiln .k1)).isNone) = true := by decide +kernel

/-- B1 Paused in bale 37 with resume point Fill, as a Yard Reset leaves it. -/
def fillPaused : State :=
  b1 (fun r => { r with state := .paused, resume := some .fill, feedRun := false, auto := false }) filling

/-- Press Auto on a fill paused: the head of the bale, a head of its lot, of another lot, a full content list, a spent lot, an
empty pile, and a bale with nothing drawn. -/
theorem witness_PressRequests_resume_fill :
    (let auto (s : State) (p : Press → Bool) := serving [66, 1, 1] (.pressAuto 1 true) s fun s =>
       (s.press .b1).state == .paused && !(s.press .b1).auto && (s.press .b1).slot.isNone &&
         (s.press .b1).resume == some .fill && after (exec .pressAuto s) fun t => p (t.press .b1)
     let reason (r : Press) := r.bale.bind Bale.endReason
     let next := b1 (fun r => { r with entries := [627] }) fillPaused
     let spent := putLot 2210 { someLot .closing with bales := 1 } (b1 (fun r => { r with entries := [] }) fillPaused)
     let four := b1 (fun r => { r with bale := r.bale.map fun x => { x with
       contents := { charge := 618, drawn := 0 } :: { charge := 619, drawn := 0 } :: x.contents } }) next
     auto fillPaused (fun r => r.state == .filling && r.feedRun && !r.runOwed) &&
       auto (downTaken fillPaused) (fun r => r.feedRun && r.runOwed) &&
       auto (putCharge 627 (piled 2210 2100 0) next) (fun r => r.feedRun && r.bale.map (fun x => x.contents.length) == some 3) &&
       auto next (fun r => reason r == some .lotBreak && r.coastStart == some 100) &&
       auto four (fun r => reason r == some .contentLimit) &&
       auto (putCharge 624 (piled 2210 955 955) spent) (fun r => reason r == some .lotEnd) &&
       auto (b1 (fun r => { r with entries := [] }) fillPaused) (fun r => r.state == .starved) &&
       auto (b1 (fun r => { r with bale := r.bale.map fun x => { x with fill := 0 } }) next) (fun r => r.state == .idle)) =
      true := by decide +kernel

/-- Bale 37 reweighed at a gross of 300.0 kg in Idle and in Paused, with and without a place for the Reply; a gross of the tare;
and the window's end in Paused without and with Auto. -/
theorem witness_PressReweighAndReply_weighed :
    (let take (v : Int) (s : State) := unitTakes .baleScale (.press .b1)
       { view := { cls := .normal, value := some v, substituted := false }, report := true, settled := true } s
     let paused (auto : Bool) (point : ResumePoint) :=
       b1 (fun r => { r with state := .paused, resume := some point, auto := auto, feedRun := false, reweighTag := some 9,
                             recent := (reweighing.press .b1).recent, slot := (reweighing.press .b1).slot }) filling
     let body (t : State) := t.store.tickets.map Ticket.body == [.reweigh .b1 37 1000 3000 2880]
     ((reweighing.press .b1).recent.find? fun r => r.number == 37).map RecentBale.tare == some 120 &&
       reweighing.store.nextSerial == some 1001 && body (take 3000 reweighing) &&
       ((take 3000 reweighing).press .b1).recent.map (fun r => (r.gross, r.net)) == [(some 3000, some 2880)] &&
       (take 3000 reweighing).line.ownUp.map (fun e => e.frame.payload) == [[67, 0, 1, 0, 0, 3, 0xE9]] &&
       ((take 3000 (upTaken reweighing)).press .b1).owedReplies == [{ tag := 9, serial := some 1001 }] &&
       ((take 120 reweighing).press .b1).slot.bind WeighSlot.best == some 120 &&
       ((take 3000 (paused false .tie)).press .b1).state == .paused && body (take 3000 (paused false .tie)) &&
       ((take 3000 (paused true .tie)).press .b1).state == .tying &&
       ((take 3000 (paused true .fill)).press .b1).feedRun &&
       after (exec (.weighWindowEnd .b1) (paused false .eject)) (fun t =>
         (t.press .b1).state == .paused && (t.press .b1).resume == some .eject && (t.press .b1).slot.isNone) &&
       after (exec (.weighWindowEnd .b1) (paused true .compress)) (fun t => (t.press .b1).state == .compressing) &&
       decide ((at_ 99 reweighing).now < 80 + 20)) = true := by decide +kernel

/-- A Take that removes tickets marks a picker with NoTicketSlot and a press with a reservation wait; so does a Base. -/
theorem witness_TicketTakeRemoves_wakes :
    (let wait (s : State) := b1 (fun r => { r with reservationWait := true })
       (p1 (fun r => { r with state := .held, reasons := { r.reasons with noTicketSlot := true } }) s)
     let woken (t : State) := (t.picker .p1).woken && (t.press .b1).fillDue && !(t.picker .p2).woken && !(t.press .b2).fillDue
     serving [74, 0, 0, 3, 0xEA] (.ticketTake 1002) (wait (stored.onStore fun t => { t with fetchHigh := 1003 })) (fun s =>
         after (exec .ticketTake s) fun t => t.store.tickets == [ticket 1003] && woken t) &&
       serving [74, 0, 0, 3, 0xE8] (.ticketTake 1000) (wait stored) (fun s =>
         after (exec .ticketTake s) fun t => t.store.tickets.length == 3 && !(t.picker .p1).woken) &&
       serving [72, 0, 0, 0, 1] (.ticketBase 1) (wait (unseeded yard)) (fun s => after (exec .ticketBase s) woken)) = true := by
  decide +kernel

/-- R116: a Starved press of a Closing lot with nothing on a floor waits on at the Lot Close of another lot, and a Lot Close of
its own lot ends its fill. -/
theorem test_lot_close_of_another_lot :
    (let s := putLot 2210 { someLot .closing with live := 1, bales := 1 } waiting
     after (exec .lotClose (asked [17, 8, 0xA7] s)) (fun t => t.press .b1 == s.press .b1 &&
       (t.lot 2215).map Lot.state != some .declared) &&
       after (exec .lotClose (asked [17, 8, 0xA2] (putLot 2210 { someLot .active with live := 1, bales := 1 } waiting)))
         (fun t => (t.press .b1).bale.bind Bale.endReason == some .lotEnd)) = true := by decide +kernel
/-- R92, R101: a Cycle Resume with drop owed yes injects at its entry to Cycling, before the drop start it asks for: over an Empty
lower slot, over a Loaded one, and with one ordinary place, which the injection takes from the gate's Open. -/
theorem witness_CycleNowAndResume_dropOwed :
    (let resume (s : State) (p : State → Bool) := serving [51, 1] (.cycleResume 1) s (fun s =>
       s.bound .burner (.kiln .k1) == some 20 && s.bound .fan (.kiln .k1) == some 21 && !s.injectionWaits 20 &&
         !s.injectionWaits 21 && decide (s.line.ownDown.length < 6) && after (exec .cycleResume s) p)
     let injected (st : Nat) (v : Int) : OwnDown := { frame := ownCommand st v, safety := false, injected := true }
     let loaded := putCharge 412 { someCharge 2215 .p1 .k1 4 .loaded with green := 9000 } (loadedBelow (captured 1 0 true))
     let five (s : State) := s.onLine fun l => { l with ownDown := List.replicate 5 (ordinary (ownCommand 23 0)) }
     resume (captured 1 0 true) (fun t => (t.kiln .k1).state == .idle && (t.kiln .k1).lastInjection == some t.now &&
         t.line.ownDown == [injected 20 400, injected 21 100]) &&
       resume loaded (fun t => (t.kiln .k1).state == .dropping &&
         t.line.ownDown == [injected 20 400, injected 21 100, ordinary (ownCommand 23 1)]) &&
       resume (five loaded) (fun t => (t.kiln .k1).state == .cycling && (t.kiln .k1).dropOwed && (t.kiln .k1).fanOwed &&
         (t.kiln .k1).dropRetryFrom == some t.now && t.line.ownDown.getLast? == some (injected 20 400))) = true := by
  decide +kernel

/-- P1 Held with charge 412 on K1, K1 Loading, B1 Compressing with its bale, and a gate Close owed; in the order P1 first. -/
def busy : State :=
  k1 (fun r => { r with burnerOwed := true, ring := { r.ring with gateCloseOwed := true } })
    (b1 (fun r => { r with state := .compressing, feedRun := false, bale := (filling.press .b1).bale })
      (p1 (fun r => { r with state := .held, reasons := { r.reasons with operator := true } }) running))

/-- A Line Reset over a transfer, an end frame and a busy yard: the Reply and the two end frames; the orders in the order of the
units, with the phase order owed after six frames; with the presses first, the injections owed; a Tripped kiln purges. -/
theorem witness_LineResetEmptiesTheLine_orders :
    (let reset (order : List UnitId) (s : State) (p : State → Bool) : Bool :=
       (asked [5] s).requestOf (request [5]) == some .lineReset && after (exec (.lineReset order) (asked [5] s)) p
     let up (s : State) := fetching 3 2 (s.onLine fun l => { l with
       ownUp := [{ frame := fetchEndFrame { tag := 7, count := 1, sent := 1, lastQueued := some 1001, lastSent := some 1001,
                                            waiting := false, endReason := none, endOwed := false } .counted,
                   origin := .fetchEnd }] })
     let tripped := k1 (fun r => { r with state := .tripped }) (permit .tripped .odd 2 yard)
     let gate := orderTo 23 0
     reset [] (up busy) (fun t => t.line.ownUp.map (fun e => e.frame.payload.take 4) ==
           [[5, 0, 0, 0], [73, 0, 3, 1], [73, 0, 3, 2]] && t.line.ownUp.map OwnUp.origin == [.reply, .fetchEnd, .fetchEnd] &&
         t.store.transfer.isNone && !(t.kiln .k1).ring.gateCloseOwed && !(t.kiln .k1).burnerOwed &&
         t.line.ownDown == [orderTo 12 1, safetyTo 11 0, gate, injectionTo 20 400, injectionTo 21 100, safetyTo 30 0] &&
         (t.press .b1).phaseOwed) &&
       reset (allUnits.reverse) busy (fun t => t.line.ownDown == [safetyTo 30 0, orderTo 31 1, gate, injectionTo 20 400,
           injectionTo 21 100, orderTo 12 1, safetyTo 11 0] && !(t.press .b1).phaseOwed && !(t.picker .p1).distributorOwed) &&
       reset [] (b1 (fun r => { r with feedRun := true }) busy) (fun t => (t.press .b1).phaseOwed && !(t.press .b1).runOwed &&
         t.line.ownDown.length == 6 && t.line.ownDown.getLast? == some (orderTo 30 1)) &&
       reset [] tripped (fun t => t.line.ownDown == [safetyTo 11 0, gate, safetyTo 20 0, safetyTo 21 100]) &&
       reset [] (b1 (fun r => { r with state := .faulted }) dropping) (fun t => t.line.ownDown ==
         [safetyTo 11 0, orderTo 23 1, injectionTo 20 400, injectionTo 21 100, safetyTo 31 0])) = true := by decide +kernel

theorem witness_LineResetRestoresOrders_tables : busy.tablesOk ∧ filling.tablesOk := by
  unfold State.tablesOk tableCanonical; decide +kernel

/-- A described Report to an address of the yard is misdirected and not tapped; the BeltScale's timer starts again with its
descriptor's interval, and with one second in a clearance. -/
theorem witness_FieldFrameRouting_misdirected :
    (let take (f : Frame) (s : State) (p : State → Bool) := (arrive (frameChars f) == .accepted f) &&
       after (exec (.fPortFrameReceived (frameChars f)) s) p
     let due (t : State) := (t.sample 14 0).bind Sample.pollDue
     (yard.descriptor 14 0).isSome &&
       take { report 14 0 5 with dest := 20 } yard (fun t => t.chan == yard.chan && t.line.counters.misdirected == 1) &&
       take (report 14 0 5) yard (fun t => due t == some 102) &&
       take (report 23 0 1) yard (fun t => ((t.sample 23 0).bind Sample.pollDue).isNone) &&
       take (report 14 0 5) clearing (fun t => due t == some 101) &&
       take (report 14 0 5) (bind 14 .beltScale (.picker .p1) (some { total with pollInterval := 30 }) yard)
         (fun t => due t == some 130)) = true := by decide +kernel

/-- Plain and staged writes that are refused with staging open: the staging goes, StagingDiscarded is latched and the Reply joins. -/
theorem witness_writes_refused_with_staging :
    (let open_ := staged .station 126 1 [[1, 16, 0]] yard
     let dropped (s t : State) (r : ResultCode) : Bool :=
       let closed : State := { s with agent := { s.agent with staging := none }, notice := t.notice }
       t == closed.reply ((s.agent.requests.head?).getD (request [])) (.refuse r) && t.notice.latched == 4
     let staged_ (n i : Byte) (r : Request) (bs : List Byte) (s : State) (c : ResultCode) :=
       serving ([3, 1, i, n, 1] ++ bs) r s (fun s => after (exec .tableWriteStaged s) fun t => dropped s t c)
     serving [2, 7, 1, 0, 0, 50] (.tableWritePlain 7 1 [0, 0, 50]) open_ (fun s =>
         after (exec .tableWritePlain s) fun t => dropped s t .badArgument) &&
       staged_ 1 126 (.tableWriteStaged 1 126 1 true (List.replicate 15 0)) (List.replicate 15 0) open_ .badArgument &&
       staged_ 0 24 (.tableWriteStaged 1 24 0 true [1, 10, 1]) [1, 10, 1] yard .badArgument &&
       staged_ 0 23 (.tableWriteStaged 1 23 0 true [0, 16, 0]) [0, 16, 0] dropping .locked) = true := by decide +kernel

/-- A lapse by a renewal of the wrong parity, with its Reply, and a trip with its. -/
theorem witness_PermitLapsesOrTrips_replies :
    (let s := permit .staged .odd 0 (cycling .cycling (copyOf .time false))
     serving [58, 1] (.permitRenewEven 1) (k1 (fun r => { r with excursionStart := some 95 }) s) (fun s =>
         after (exec .permitRenewEven s) fun t => (t.kiln .k1).excursionStart.isNone && (t.kiln .k1).permit.state == .off &&
           (t.kiln .k1).state == .cycling && t.line.ownUp.map (fun e => e.frame.payload) == [[58, 0, 1]]) &&
       serving [58, 1] (.permitRenewEven 1) (permit .live .odd 2 dropping) (fun s =>
         after (exec .permitRenewEven s) fun t =>
           t.line.ownUp.map (fun e => e.frame.payload) == [[58, 0, 4]])) = true := by decide +kernel

/-- The record Replies of lot 2210 (R1's order), of the BeltScale and of charge 412 (R62's order). -/
theorem witness_RecordFieldsAreSent :
    (let sends (payload : List Byte) (r : Request) (c : Instr) (s : State) (bs : List Byte) :=
       serving payload r s (fun s => after (exec c s) fun t => t.line.ownUp.map (fun e => e.frame.payload.drop 2) == [bs])
     let lot := putLot 2210 { someLot .closing with moistureOverride := some 95, live := 2, green := 258, reserved := true } yard
     sends [19, 0, 8, 0xA2, 1] (.lotQuery 0 2210 false) .lotQuery lot
         ([0, 1, 8, 0xA2] ++ fieldNat 2 (someLot .closing).grower ++ fieldNat 1 (someLot .closing).variety ++ [1, 0, 95, 3] ++
           fieldNat 4 (someLot .closing).opened.toNat ++ [2, 0, 0, 0, 1, 2] ++ List.replicate 16 0 ++ [1]) &&
       sends [24, 0, 14, 0] (.sampleQuery 0 14 0) .sampleQuery yard
         ([0, 1, 7] ++ List.replicate 5 0 ++ List.replicate 6 0 ++ List.replicate 5 0 ++ [0] ++ List.replicate 6 0 ++ [7] ++
           List.replicate 6 0) &&
       sends [41, 0, 1, 0x9C, 1] (.chargeQuery 0 412 false) .chargeQuery clearing
         ([0, 1, 1, 0x9C, 8, 0xA2, 1, 1, 1, 0, 0, 0x1F, 0xBF, 0, 0, 0, 0, 0] ++ List.replicate 5 0 ++ [0, 0] ++
           List.replicate 5 0 ++ [0, 1, 1, 1, 0, 0, 0])) = true := by decide +kernel


end Sys2Proof.Tests
end

section
namespace Sys2Proof.Machine

/-! ### What table updates keep of the canonical form -/

section
variable {α : Type}

/-- A write under a listed key adds no record. -/
theorem length_tablePut_of_isSome {t : List (Nat × α)} {n : Nat} {a : α} (ht : tableWf t = true)
    (hn : (tableGet t n).isSome = true) : (tablePut t n a).length = t.length := by
  induction t with
  | nil => simp at hn
  | cons e t ih =>
    obtain ⟨k, v⟩ := e
    obtain ⟨habove, hwf⟩ := tableWf_cons.mp ht
    have hnk : ¬n < k := fun h => by
      rw [tableGet_cons, if_neg (by omega), tableGet_eq_none_of_keysAbove habove (by omega)] at hn
      simp at hn
    rw [tablePut, if_neg hnk]
    split
    · rfl
    · rename_i hk
      rw [tableGet_cons, if_neg hk] at hn
      simp [ih hwf hn]

/-- A write adds at most one record. -/
theorem length_tablePut_le (t : List (Nat × α)) (n : Nat) (a : α) : (tablePut t n a).length ≤ t.length + 1 := by
  induction t with
  | nil => simp [tablePut]
  | cons e t ih =>
    obtain ⟨k, v⟩ := e
    unfold tablePut
    split
    · simp
    · split
      · simp
      · simpa using ih

/-- A removal adds no record. -/
theorem length_tableErase_le (t : List (Nat × α)) (n : Nat) : (tableErase t n).length ≤ t.length :=
  List.length_filter_le _ _

/-- What stands in a table after a write is the record written or stood there before. -/
theorem mem_tablePut {t : List (Nat × α)} {n : Nat} {a : α} {e : Nat × α} (h : e ∈ tablePut t n a) : e = (n, a) ∨ e ∈ t := by
  induction t with
  | nil => exact .inl (List.mem_singleton.mp h)
  | cons x t ih =>
    obtain ⟨k, v⟩ := x
    unfold tablePut at h
    split at h
    · exact List.mem_cons.mp h
    · split at h
      · exact (List.mem_cons.mp h).imp_right (List.mem_cons_of_mem _)
      · rcases List.mem_cons.mp h with rfl | h
        · exact .inr (List.mem_cons_self ..)
        · exact (ih h).imp_right (List.mem_cons_of_mem _)

/-- A write to a table with a default keeps its canonical form. -/
theorem tableCanonical_tableSet [DecidableEq α] {d : α} {t : List (Nat × α)} {n : Nat} {a : α} (h : tableCanonical d t) :
    tableCanonical d (tableSet d t n a) := by
  refine ⟨tableWf_tableSet h.1, fun e he => ?_⟩
  unfold tableSet at he
  split at he
  · exact h.2 e (List.mem_filter.mp he).1
  · rcases mem_tablePut he with rfl | he
    · assumption
    · exact h.2 e he

end

/-! ### What the updates of the units keep of the tables -/

theorem State.tablesOk_withLots {s : State} {t : List (Nat × Lot)} (hs : s.tablesOk) (ht : tableWf t = true ∧ t.length ≤ 64) :
    (s.withLots t).tablesOk := ⟨ht, hs.2⟩

theorem State.tablesOk_onPool {s : State} {f : Pool → Pool} (hs : s.tablesOk) (hf : tableWf (f s.pool).records = true) :
    (s.onPool f).tablesOk := by
  obtain ⟨hlots, _, hrest⟩ := hs
  exact ⟨hlots, hf, hrest⟩

theorem State.tablesOk_onChan {s : State} {f : Channels → Channels} (hs : s.tablesOk)
    (hf : tableWf (f s.chan).samples = true ∧ tableCanonical .reset (f s.chan).stations) : (s.onChan f).tablesOk := by
  obtain ⟨hlots, hpool, _, _, hrest⟩ := hs
  exact ⟨hlots, hpool, hf.1, hf.2, hrest⟩

theorem State.tablesOk_putWatch {s : State} (n : Nat) (w : Watch) (hs : s.tablesOk) : (s.putWatch n w).tablesOk := by
  obtain ⟨hlots, hpool, hsamples, hstations, hwatches, hrest⟩ := hs
  exact ⟨hlots, hpool, hsamples, hstations, tableCanonical_tableSet hwatches, hrest⟩

theorem State.tablesOk_setSchedule {s : State} (n : Nat) (g : List Stage) (hs : s.tablesOk) :
    (s.withSchedules (tableSet [] s.schedules n g)).tablesOk := by
  obtain ⟨hlots, hpool, hsamples, hstations, hwatches, hschedules, hcounts⟩ := hs
  exact ⟨hlots, hpool, hsamples, hstations, hwatches, tableCanonical_tableSet hschedules, hcounts⟩

theorem tablesOk_countWrite {s : State} (t : TableId) (n : Nat) (hs : s.tablesOk) : (countWrite t n s).tablesOk := by
  obtain ⟨hlots, hpool, hsamples, hstations, hwatches, hschedules, hcounts⟩ := hs
  exact ⟨hlots, hpool, hsamples, hstations, hwatches, hschedules, tableCanonical_tableSet hcounts⟩

theorem State.tablesOk_onLot {s : State} (n : Nat) (f : Lot → Lot) (hs : s.tablesOk) : (s.onLot n f).tablesOk := by
  unfold State.onLot
  split
  · rename_i l hl
    have hlen : (tablePut s.lots n (f l)).length = s.lots.length :=
      length_tablePut_of_isSome hs.1.1 (by rw [← State.lot, hl]; rfl)
    exact State.tablesOk_withLots hs ⟨tableWf_tablePut hs.1.1, hlen ▸ hs.1.2⟩
  · exact hs

theorem State.tablesOk_onCharge {s : State} (n : Nat) (f : Charge → Charge) (hs : s.tablesOk) :
    (s.onCharge n f).tablesOk := by
  unfold State.onCharge
  split
  · exact State.tablesOk_onPool hs (tableWf_tablePut hs.2.1)
  · exact hs

theorem State.tablesOk_putSample {s : State} (st ch : Nat) (r : Sample) (hs : s.tablesOk) :
    (s.putSample st ch r).tablesOk := by
  obtain ⟨_, _, hsamples, hstations, _⟩ := id hs
  exact State.tablesOk_onChan hs ⟨tableWf_tablePut hsamples, hstations⟩

theorem tablesOk_startPollTimer {s : State} (st ch i : Nat) (hs : s.tablesOk) : (startPollTimer st ch i s).tablesOk := by
  unfold startPollTimer
  split
  · exact State.tablesOk_putSample st ch _ hs
  · exact hs

theorem tablesOk_latch {s : State} (n : Nat) (hs : s.tablesOk) : (latch n s).tablesOk := by
  unfold latch
  split <;> exact hs

theorem tablesOk_issueTicket {s : State} (kind : TicketKind) (lot grower : Nat) (body : TicketBody) (hs : s.tablesOk) :
    (issueTicket kind lot grower body s).tablesOk := by
  unfold issueTicket
  split <;> exact hs

/-- No operation of a unit leaves a table out of its canonical form. -/
theorem tablesOk_closed : Closed State.tablesOk where
  kiln _ _ _ hs := hs
  picker _ _ _ hs := hs
  press _ _ _ hs := hs
  reserve _ _ hs := hs
  issued := tablesOk_issueTicket
  transfer _ hs := hs
  ended hs := hs
  lot := State.tablesOk_onLot
  charge := State.tablesOk_onCharge
  opened _ _ _ hs := State.tablesOk_onPool hs (tableWf_tablePut hs.2.1)
  freed _ hs := State.tablesOk_onPool hs (tableWf_tableErase hs.2.1)
  watch := State.tablesOk_putWatch
  latched := tablesOk_latch
  timer := tablesOk_startPollTimer
  down _ _ hs := hs
  safety _ hs := hs

end Sys2Proof.Machine
end

section
namespace Sys2Proof.Machine

/-! ### Commands that keep a property -/

/-- A command leaves a property wherever it answers a state. -/
def Keeps (P : State → Prop) (r : Result) : Prop := ∀ t, r = .next t → P t

/-- A request's own rule leaves a property wherever it answers. -/
def RuleKeeps (P : State → Prop) (o : Option (Option Answer × State)) : Prop := ∀ a t, o = some (a, t) → P t

/-- The answer to the head of the request queue keeps a property. -/
def AnswerKeeps (P : State → Prop) : Prop := ∀ (s : State) (f : Frame) (a : Option Answer), P s → P (answerHead f a s)

section
variable {P : State → Prop}

theorem keeps_next {s : State} (hs : P s) : Keeps P (.next s) := fun _ h => Host.Outcome.next.inj h ▸ hs

theorem closed_ite {c : Prop} [Decidable c] {s t : State} (hs : P s) (ht : P t) : P (if c then s else t) := by
  split
  · exact hs
  · exact ht

theorem keeps_ite {c : Prop} [Decidable c] {s t : State} (hs : P s) (ht : P t) : Keeps P (.next (if c then s else t)) :=
  keeps_next (closed_ite hs ht)

/-- R174: the head of the request queue keeps what its own rule and its answer keep. -/
theorem serve_keeps {run : Request → Option (Option Answer × State)} {s : State}
    (ha : AnswerKeeps P) (hrun : ∀ r, RuleKeeps P (run r)) (hs : P s) : P (serve run s) := by
  unfold serve
  split
  · exact hs
  · rename_i f _ _
    split
    · exact hs
    · split
      · rename_i hbind
        obtain ⟨r, _, hr⟩ := Option.bind_eq_some_iff.mp hbind
        exact ha _ f _ (hrun r _ _ hr)
      · exact hs

/-! ### The units' own events -/

theorem execClearanceQuietEnd_keeps (h : Closed P) (p : PickerId) {s : State} (hs : P s) :
    Keeps P (execClearanceQuietEnd p s) := by
  unfold execClearanceQuietEnd
  split
  · exact keeps_ite (endClearance_closed h p hs) hs
  · exact keeps_next hs

theorem execClearanceLimit_keeps (h : Closed P) (p : PickerId) {s : State} (hs : P s) :
    Keeps P (execClearanceLimit p s) := by
  unfold execClearanceLimit
  split
  · exact keeps_ite (limitClearance_closed h p hs) hs
  · exact keeps_next hs

theorem execOpeningAttempt_keeps (h : Closed P) (p : PickerId) (offer : Option KilnId) {s : State} (hs : P s) :
    Keeps P (execOpeningAttempt p offer s) := by
  cases offer with
  | some k => exact keeps_next (takeOffer_closed h p k hs)
  | none => exact keeps_ite (openOwn_closed h p hs) hs

theorem execOpeningRetry_keeps (h : Closed P) (p : PickerId) {s : State} (hs : P s) : Keeps P (execOpeningRetry p s) := by
  unfold execOpeningRetry
  split
  · exact keeps_next hs
  · exact keeps_ite (openOwn_closed h p hs) hs

theorem execDropStartRetry_keeps (h : Closed P) (k : KilnId) {s : State} (hs : P s) :
    Keeps P (execDropStartRetry k s) := by
  unfold execDropStartRetry
  split
  · exact keeps_next hs
  · exact keeps_ite (askDrop_closed h k hs) hs

theorem execPilefullRetry_keeps (h : Closed P) (k : KilnId) {s : State} (hs : P s) : Keeps P (execPilefullRetry k s) :=
  keeps_ite (askDrop_closed h k hs) hs

theorem execDropTimeout_keeps (h : Closed P) (k : KilnId) {s : State} (hs : P s) : Keeps P (execDropTimeout k s) := by
  unfold execDropTimeout
  split
  · exact keeps_next hs
  · exact keeps_ite (completeDrop_closed h k (h.latched _ (interruptDrop_closed h k hs))) hs

theorem execGateCloseOwedQueued_keeps (h : Closed P) (k : KilnId) {s : State} (hs : P s) :
    Keeps P (execGateCloseOwedQueued k s) :=
  keeps_ite (onRing_closed h k _ (queueGate_closed h k 0 hs)) hs

theorem execAwaitingOverdue_keeps (h : Closed P) (k : KilnId) {s : State} (hs : P s) :
    Keeps P (execAwaitingOverdue k s) := by
  unfold execAwaitingOverdue
  split
  · exact keeps_next hs
  · exact keeps_ite (tryStart_closed h k (h.kiln k _ (fun _ => ⟨rfl, rfl⟩) hs)) hs

theorem execStageEnd_keeps (h : Closed P) (k : KilnId) {s : State} (hs : P s) : Keeps P (execStageEnd k s) :=
  keeps_ite (endStage_closed h k hs) hs

theorem execTimedDryEnd_keeps (h : Closed P) (k : KilnId) {s : State} (hs : P s) : Keeps P (execTimedDryEnd k s) :=
  keeps_ite (timedDry_closed h k hs) hs

theorem execInjectionRefresh_keeps (h : Closed P) (k : KilnId) {s : State} (hs : P s) :
    Keeps P (execInjectionRefresh k s) := by
  unfold execInjectionRefresh
  split
  · exact keeps_next hs
  · exact keeps_ite (inject_closed h k hs) hs

theorem execInjectionOwedQueued_keeps (h : Closed P) (k : KilnId) (t : HeatTarget) {s : State} (hs : P s) :
    Keeps P (execInjectionOwedQueued k t s) := by
  refine keeps_ite ?_ hs
  split
  · exact setOwed_closed h k t false hs
  · exact injectTo_closed h k t _ hs

theorem execBandExcursionDecided_keeps (h : Closed P) (k : KilnId) {s : State} (hs : P s) :
    Keeps P (execBandExcursionDecided k s) := by
  unfold execBandExcursionDecided
  split
  · exact keeps_ite (decideBand_closed h k hs) hs
  · exact keeps_next hs

theorem execFillStart_keeps (h : Closed P) (b : PressId) {s : State} (hs : P s) : Keeps P (execFillStart b s) :=
  keeps_ite (tryFill_closed h b hs) hs

theorem execPileFeedRunOwedQueued_keeps (h : Closed P) (b : PressId) {s : State} (hs : P s) :
    Keeps P (execPileFeedRunOwedQueued b s) :=
  keeps_ite (giveRun_closed h b hs) hs

theorem execCoastEnd_keeps (h : Closed P) (b : PressId) {s : State} (hs : P s) : Keeps P (execCoastEnd b s) := by
  unfold execCoastEnd
  have hcoast : P (s.onPress b fun r => { r with coastStart := none }) := h.press b _ (fun _ => rfl) hs
  split
  · exact keeps_next hs
  · split
    · exact keeps_ite (orderPhase_closed h b _ hcoast) (pausePress_closed h b _ hcoast)
    · exact keeps_next hs

theorem execPhaseOrderOwedQueued_keeps (h : Closed P) (b : PressId) {s : State} (hs : P s) :
    Keeps P (execPhaseOrderOwedQueued b s) := by
  unfold execPhaseOrderOwedQueued
  split
  · exact keeps_ite (sendPhase_closed h b _ hs) hs
  · exact keeps_next hs

theorem execPhaseTimeout_keeps (h : Closed P) (b : PressId) {s : State} (hs : P s) : Keeps P (execPhaseTimeout b s) := by
  unfold execPhaseTimeout
  split
  · exact keeps_ite (faultPress_closed h b _ hs) hs
  · exact keeps_next hs

theorem execWatchPersistenceEnd_keeps (h : Closed P) (n : Nat) {s : State} (hs : P s) :
    Keeps P (execWatchPersistenceEnd n s) := by
  unfold execWatchPersistenceEnd
  split
  · exact keeps_next hs
  · exact keeps_ite (fireWatch_closed h n hs) hs

theorem selfPoll_closed (h : Closed P) (st ch : Nat) {s : State} (hs : P s) : P (selfPoll st ch s) := by
  unfold selfPoll
  split
  · exact restartPollTimer_closed h st ch hs
  · split
    · exact restartPollTimer_closed h st ch (h.down _ _ hs)
    · exact h.timer _ _ _ hs

theorem execSelfPollDue_keeps (h : Closed P) (st ch : Nat) {s : State} (hs : P s) : Keeps P (execSelfPollDue st ch s) := by
  unfold execSelfPollDue
  split
  · exact keeps_ite (selfPoll_closed h st ch hs) hs
  · exact keeps_next hs

theorem execLineResetRestoreQueued_keeps (h : Closed P) (u : UnitId) {s : State} (hs : P s) :
    Keeps P (execLineResetRestoreQueued u s) := by
  cases u with
  | picker p => exact keeps_ite (redistribute_closed h p hs) hs
  | kiln k => exact keeps_ite (regate_closed h k hs) hs
  | press b => exact keeps_next hs

theorem clearOwed_closed (h : Closed P) {s : State} (hs : P s) : P (clearOwed s) := by
  refine foldl_closed _ (fun _ k hs => ?_) _ hs
  exact h.kiln k _ (fun _ => ⟨rfl, rfl⟩) hs

/-! ### Events that queue a frame for the host -/

section
variable (h : Closed P) (hu : ∀ {s : State} (f : Frame) (o : UpOrigin), P s → P (queueUp f o s))
include h hu

theorem execWeighWindowEnd_keeps (b : PressId) {s : State} (hs : P s) :
    Keeps P (execWeighWindowEnd b s) := by
  unfold execWeighWindowEnd
  split
  · exact keeps_next hs
  · split
    · split
      · exact keeps_next (endBaleWeighing_closed h b _ _ hs)
      · exact keeps_next (afterReweigh_closed h b (endReweighUnweighed_closed h hu b hs))
    · exact keeps_next hs

theorem execReweighReplyQueued_keeps (b : PressId) {s : State} (hs : P s) :
    Keeps P (execReweighReplyQueued b s) := by
  unfold execReweighReplyQueued
  split
  · exact keeps_next hs
  · exact keeps_ite (h.press b _ (fun _ => rfl) (hu _ _ hs)) hs

theorem execTicketFrameQueue_keeps {s : State} (hs : P s) : Keeps P (execTicketFrameQueue s) := by
  unfold execTicketFrameQueue
  split
  · exact keeps_next hs
  · split
    · exact keeps_next hs
    · exact keeps_ite (queueTicket_closed h hu _ hs) hs

theorem execFetchEndFrameQueued_keeps {s : State} (hs : P s) : Keeps P (execFetchEndFrameQueued s) := by
  unfold execFetchEndFrameQueued
  split
  · exact keeps_next hs
  · split
    · exact keeps_next hs
    · exact keeps_ite (queueFetchEnd_closed h hu _ _ hs) hs

end

/-! ### Events that change a permit -/

section
variable (h : Closed P) (hp : ∀ {s : State} (k : KilnId) (f : Permit → Permit), P s → P (s.onPermit k f))
include h hp

theorem execPermitTimerExpiry_keeps (k : KilnId) {s : State} (hs : P s) :
    Keeps P (execPermitTimerExpiry k s) := by
  unfold execPermitTimerExpiry
  split
  · exact keeps_next hs
  · exact keeps_ite (failRenewal_closed h hp k hs) hs

theorem execYardReset_keeps (hu : ∀ {s : State} (f : Frame) (o : UpOrigin), P s → P (queueUp f o s))
    (order : List UnitId) {s : State} (hs : P s) : Keeps P (execYardReset order s) :=
  keeps_next (foldl_closed _ (fun _ u hs => yardUnit_closed h hu u hs) _ (permitsOff_closed hp hs))

end

end

end Sys2Proof.Machine
end

section
namespace Sys2Proof.Machine

/-! ### Requests that keep a property -/

section
variable {P : State → Prop} {s : State}

theorem ruleKeeps_none : RuleKeeps P none := fun _ _ h => nomatch h

theorem ruleKeeps_some {a : Option Answer} (hs : P s) : RuleKeeps P (some (a, s)) := by
  rintro _ _ ⟨⟩
  exact hs

theorem ruleKeeps_replied {a : Answer} (hs : P s) : RuleKeeps P (replied a s) := ruleKeeps_some hs

theorem ruleKeeps_refused {r : ResultCode} (hs : P s) : RuleKeeps P (refused r s) := ruleKeeps_some hs

theorem ruleKeeps_ite {c : Prop} [Decidable c] {o q : Option (Option Answer × State)} (ho : RuleKeeps P o)
    (hq : RuleKeeps P q) : RuleKeeps P (if c then o else q) := by
  split
  · exact ho
  · exact hq

theorem ruleKeeps_answered {r : Request} {after : State → State} (hs : P (after s)) : RuleKeeps P (answered s r after) := by
  unfold answered
  cases s.query r with
  | none => exact ruleKeeps_none
  | some e => exact ruleKeeps_some hs

theorem ruleKeeps_onPicker {n : Nat} {f : PickerId → Option (Option Answer × State)} (hs : P s)
    (hf : ∀ p, RuleKeeps P (f p)) : RuleKeeps P (onPickerRequest n s f) := by
  unfold onPickerRequest
  split
  · exact hf _
  · exact ruleKeeps_refused hs

theorem ruleKeeps_onKiln {n : Nat} {f : KilnId → Option (Option Answer × State)} (hs : P s)
    (hf : ∀ k, RuleKeeps P (f k)) : RuleKeeps P (onKilnRequest n s f) := by
  unfold onKilnRequest
  split
  · exact hf _
  · exact ruleKeeps_refused hs

theorem ruleKeeps_onPress {n : Nat} {f : PressId → Option (Option Answer × State)} (hs : P s)
    (hf : ∀ b, RuleKeeps P (f b)) : RuleKeeps P (onPressRequest n s f) := by
  unfold onPressRequest
  split
  · exact hf _
  · exact ruleKeeps_refused hs

theorem lotClose_keeps (h : Closed P) (n : Nat) (hs : P s) : RuleKeeps P (lotClose n s) := by
  unfold lotClose
  split
  · exact ruleKeeps_refused hs
  · refine ruleKeeps_ite (ruleKeeps_refused hs) (ruleKeeps_ite (ruleKeeps_refused hs) ?_)
    split
    · exact ruleKeeps_refused (askReservation_closed_of_eq h hs ‹_›)
    · exact ruleKeeps_replied (closeLot_closed h n (askReservation_closed_of_eq h hs ‹_›))

theorem chargeClose_keeps (h : Closed P) (p : PickerId) (hs : P s) : RuleKeeps P (chargeClose p s) := by
  unfold chargeClose
  split
  · exact ruleKeeps_refused hs
  · exact ruleKeeps_ite (ruleKeeps_refused hs) (ruleKeeps_replied (closeCharge_closed h p _ hs))

theorem pickerAssign_keeps (h : Closed P) (p : PickerId) (k : KilnId) (hs : P s) : RuleKeeps P (pickerAssign p k s) :=
  ruleKeeps_ite (ruleKeeps_refused hs)
    (ruleKeeps_ite (ruleKeeps_refused hs) (ruleKeeps_replied (tryOpen_closed h p (.assigned k) hs)))

theorem cycleNow_keeps (h : Closed P) (k : KilnId) (hs : P s) : RuleKeeps P (cycleNow k s) :=
  ruleKeeps_ite
    (ruleKeeps_replied (startCycle_closed h k (h.kiln k _ (fun _ => ⟨rfl, rfl⟩) (closeForCycle_closed h k hs))))
    (ruleKeeps_refused hs)

theorem cycleResume_keeps (h : Closed P) (k : KilnId) (hs : P s) : RuleKeeps P (cycleResume k s) := by
  unfold cycleResume
  dsimp only
  split
  · exact ruleKeeps_refused hs
  · exact ruleKeeps_ite (ruleKeeps_replied (resumeCapture_closed h k _ hs)) (ruleKeeps_refused hs)

theorem kilnMode_keeps (h : Closed P) (k : KilnId) (manual : Bool) (hs : P s) :
    P (if manual then clearSchedule k s else setSchedule k s) :=
  closed_ite (clearSchedule_closed h k hs) (setSchedule_closed h k hs)

theorem pressNow_keeps (h : Closed P) (b : PressId) (hs : P s) : RuleKeeps P (pressNow b s) :=
  ruleKeeps_ite (ruleKeeps_replied (endFill_closed h b .forced hs)) (ruleKeeps_refused hs)

theorem pressAuto_keeps (h : Closed P) (b : PressId) (v : Bool) (hs : P s) :
    P (if v then setAuto b s else clearAuto b s) :=
  closed_ite (setAuto_closed h b hs) (clearAuto_closed h b hs)

theorem pressReweigh_keeps (h : Closed P) (b : PressId) (n tag : Nat) (hs : P s) :
    RuleKeeps P (pressReweigh b n tag s) := by
  refine ruleKeeps_ite (ruleKeeps_refused hs) (ruleKeeps_ite (ruleKeeps_refused hs)
    (ruleKeeps_ite (ruleKeeps_refused hs) ?_))
  split
  · exact ruleKeeps_refused (askReservation_closed_of_eq h hs ‹_›)
  · exact ruleKeeps_some (startReweigh_closed h b n tag (askReservation_closed_of_eq h hs ‹_›))

theorem tableRead_keeps (table index segment : Nat) (hs : P s) : RuleKeeps P (tableRead table index segment s) := by
  unfold tableRead
  split
  · exact ruleKeeps_refused hs
  · split
    · exact ruleKeeps_refused hs
    · exact ruleKeeps_replied hs

section
variable (h : Closed P) (hp : ∀ {s : State} (k : KilnId) (f : Permit → Permit), P s → P (s.onPermit k f))
include h hp

omit h in
theorem permitStage_keeps (k : KilnId) (hs : P s) : RuleKeeps P (permitStage k s) :=
  ruleKeeps_ite (ruleKeeps_replied (hp k _ hs)) (ruleKeeps_refused hs)

theorem permitRenew_keeps (parity : Parity) (k : KilnId) (hs : P s) :
    RuleKeeps P (permitRenew parity k s) := by
  refine ruleKeeps_ite (ruleKeeps_replied ?_) (ruleKeeps_refused hs)
  split
  · exact renewPermit_closed hp k hs
  · exact failRenewal_closed h hp k hs

theorem permitConfirm_keeps (k : KilnId) (hs : P s) : RuleKeeps P (permitConfirm k s) :=
  ruleKeeps_ite (ruleKeeps_replied (tryStart_closed h k (hp k _ hs))) (ruleKeeps_refused hs)

theorem permitWithdraw_keeps (k : KilnId) (hs : P s) : RuleKeeps P (permitWithdraw k s) := by
  unfold permitWithdraw
  split
  · exact ruleKeeps_replied hs
  · exact ruleKeeps_refused hs
  · exact ruleKeeps_replied (permitOff_closed h hp k hs)

end

/-! ### The requests as commands -/

theorem keeps_serve {run : Request → Option (Option Answer × State)} (ha : AnswerKeeps P) (hs : P s)
    (hrun : ∀ r, RuleKeeps P (run r)) : Keeps P (.next (serve run s)) :=
  keeps_next (serve_keeps ha hrun hs)

theorem execRequestBadForm_keeps (ha : AnswerKeeps P) (hs : P s) : Keeps P (execRequestBadForm s) := by
  unfold execRequestBadForm
  split
  · exact keeps_next hs
  · exact keeps_ite (ha _ _ _ hs) hs

end

end Sys2Proof.Machine
end

section
namespace Sys2Proof.Machine

section
variable {P : State → Prop} {s : State}

/-! ### Requests on the units -/

section
variable (h : Closed P) (ha : AnswerKeeps P)
include h ha

theorem execLotClose_keeps (hs : P s) : Keeps P (execLotClose s) :=
  keeps_serve ha hs fun r => by
    split
    · exact lotClose_keeps h _ hs
    · exact ruleKeeps_none

theorem execPickerStart_keeps (hs : P s) : Keeps P (execPickerStart s) :=
  keeps_serve ha hs fun r => by
    split
    · exact ruleKeeps_onPicker hs fun p =>
        ruleKeeps_ite (ruleKeeps_replied (startPicker_closed h p hs)) (ruleKeeps_refused hs)
    · exact ruleKeeps_none

theorem execPickerStop_keeps (hs : P s) : Keeps P (execPickerStop s) :=
  keeps_serve ha hs fun r => by
    split
    · exact ruleKeeps_onPicker hs fun p => ruleKeeps_replied (stopPicker_closed h p hs)
    · exact ruleKeeps_none

theorem execPickerHold_keeps (hs : P s) : Keeps P (execPickerHold s) :=
  keeps_serve ha hs fun r => by
    split
    · exact ruleKeeps_onPicker hs fun p => ruleKeeps_replied (holdIfRunning_closed h p (onReasons_closed h p _ hs))
    · exact ruleKeeps_none

theorem execPickerRelease_keeps (hs : P s) : Keeps P (execPickerRelease s) :=
  keeps_serve ha hs fun r => by
    split
    · exact ruleKeeps_onPicker hs fun p => ruleKeeps_replied (releasePicker_closed h p hs)
    · exact ruleKeeps_none

theorem execChargeClose_keeps (hs : P s) : Keeps P (execChargeClose s) :=
  keeps_serve ha hs fun r => by
    split
    · exact ruleKeeps_onPicker hs fun p => chargeClose_keeps h p hs
    · exact ruleKeeps_none

theorem execPickerAssign_keeps (hs : P s) : Keeps P (execPickerAssign s) :=
  keeps_serve ha hs fun r => by
    split
    · exact ruleKeeps_onPicker hs fun p => ruleKeeps_onKiln hs fun k => pickerAssign_keeps h p k hs
    · exact ruleKeeps_none

theorem execCycleNow_keeps (hs : P s) : Keeps P (execCycleNow s) :=
  keeps_serve ha hs fun r => by
    split
    · exact ruleKeeps_onKiln hs fun k => cycleNow_keeps h k hs
    · exact ruleKeeps_none

theorem execKilnRelease_keeps (hs : P s) : Keeps P (execKilnRelease s) :=
  keeps_serve ha hs fun r => by
    split
    · exact ruleKeeps_onKiln hs fun k => ruleKeeps_replied (releaseHold_closed h k hs)
    · exact ruleKeeps_none

theorem execKilnMode_keeps (hs : P s) : Keeps P (execKilnMode s) :=
  keeps_serve ha hs fun r => by
    split
    · exact ruleKeeps_onKiln hs fun k => ruleKeeps_replied (kilnMode_keeps h k _ hs)
    · exact ruleKeeps_none

theorem execCycleResume_keeps (hs : P s) : Keeps P (execCycleResume s) :=
  keeps_serve ha hs fun r => by
    split
    · exact ruleKeeps_onKiln hs fun k => cycleResume_keeps h k hs
    · exact ruleKeeps_none

theorem execPressNow_keeps (hs : P s) : Keeps P (execPressNow s) :=
  keeps_serve ha hs fun r => by
    split
    · exact ruleKeeps_onPress hs fun b => pressNow_keeps h b hs
    · exact ruleKeeps_none

theorem execPressClear_keeps (hs : P s) : Keeps P (execPressClear s) :=
  keeps_serve ha hs fun r => by
    split
    · exact ruleKeeps_onPress hs fun b =>
        ruleKeeps_ite (ruleKeeps_replied (clearPress_closed h b hs)) (ruleKeeps_refused hs)
    · exact ruleKeeps_none

theorem execPressAuto_keeps (hs : P s) : Keeps P (execPressAuto s) :=
  keeps_serve ha hs fun r => by
    split
    · exact ruleKeeps_onPress hs fun b => ruleKeeps_replied (pressAuto_keeps h b _ hs)
    · exact ruleKeeps_none

theorem execPressReweigh_keeps (hs : P s) : Keeps P (execPressReweigh s) :=
  keeps_serve ha hs fun r => by
    split
    · exact ruleKeeps_onPress hs fun b => pressReweigh_keeps h b _ _ hs
    · exact ruleKeeps_none

/-! ### Requests on the permits -/

section
variable (hp : ∀ {s : State} (k : KilnId) (f : Permit → Permit), P s → P (s.onPermit k f))
include hp

omit h in
theorem execPermitStage_keeps (hs : P s) : Keeps P (execPermitStage s) :=
  keeps_serve ha hs fun r => by
    split
    · exact ruleKeeps_onKiln hs fun k => permitStage_keeps hp k hs
    · exact ruleKeeps_none

theorem execPermitRenewOdd_keeps (hs : P s) : Keeps P (execPermitRenewOdd s) :=
  keeps_serve ha hs fun r => by
    split
    · exact ruleKeeps_onKiln hs fun k => permitRenew_keeps h hp .odd k hs
    · exact ruleKeeps_none

theorem execPermitRenewEven_keeps (hs : P s) : Keeps P (execPermitRenewEven s) :=
  keeps_serve ha hs fun r => by
    split
    · exact ruleKeeps_onKiln hs fun k => permitRenew_keeps h hp .even k hs
    · exact ruleKeeps_none

theorem execPermitConfirm_keeps (hs : P s) : Keeps P (execPermitConfirm s) :=
  keeps_serve ha hs fun r => by
    split
    · exact ruleKeeps_onKiln hs fun k => permitConfirm_keeps h hp k hs
    · exact ruleKeeps_none

theorem execPermitWithdraw_keeps (hs : P s) : Keeps P (execPermitWithdraw s) :=
  keeps_serve ha hs fun r => by
    split
    · exact ruleKeeps_onKiln hs fun k => permitWithdraw_keeps h hp k hs
    · exact ruleKeeps_none

end

/-! ### Queries -/

theorem execPickerQuery_keeps (hs : P s) : Keeps P (execPickerQuery s) :=
  keeps_serve ha hs fun r => by
    split
    · refine ruleKeeps_answered ?_
      split
      · split
        · exact h.picker _ _ (fun _ => rfl) hs
        · exact hs
      · exact hs
    · exact ruleKeeps_none

theorem execPressQuery_keeps (hs : P s) : Keeps P (execPressQuery s) :=
  keeps_serve ha hs fun r => by
    split
    · refine ruleKeeps_answered ?_
      split
      · split
        · exact h.press _ _ (fun _ => rfl) hs
        · exact hs
      · exact hs
    · exact ruleKeeps_none

end

section
variable (ha : AnswerKeeps P)
include ha

theorem execTableRead_keeps (hs : P s) : Keeps P (execTableRead s) :=
  keeps_serve ha hs fun r => by
    split
    · exact tableRead_keeps _ _ _ hs
    · exact ruleKeeps_none

theorem execIdentify_keeps (hs : P s) : Keeps P (execIdentify s) :=
  keeps_serve ha hs fun r => by
    split
    · exact ruleKeeps_replied hs
    · exact ruleKeeps_none

theorem execNoticeRead_keeps (hs : P s) : Keeps P (execNoticeRead s) :=
  keeps_serve ha hs fun r => by
    split
    · exact ruleKeeps_replied hs
    · exact ruleKeeps_none

theorem execLotQuery_keeps (hs : P s) : Keeps P (execLotQuery s) :=
  keeps_serve ha hs fun r => by
    split
    · exact ruleKeeps_answered hs
    · exact ruleKeeps_none

theorem execSampleQuery_keeps (hs : P s) : Keeps P (execSampleQuery s) :=
  keeps_serve ha hs fun r => by
    split
    · exact ruleKeeps_answered hs
    · exact ruleKeeps_none

theorem execFloorQuery_keeps (hs : P s) : Keeps P (execFloorQuery s) :=
  keeps_serve ha hs fun r => by
    split
    · exact ruleKeeps_answered hs
    · exact ruleKeeps_none

theorem execChargeQuery_keeps (hs : P s) : Keeps P (execChargeQuery s) :=
  keeps_serve ha hs fun r => by
    split
    · exact ruleKeeps_answered hs
    · exact ruleKeeps_none

theorem execKilnQuery_keeps (hs : P s) : Keeps P (execKilnQuery s) :=
  keeps_serve ha hs fun r => by
    split
    · exact ruleKeeps_answered hs
    · exact ruleKeeps_none

theorem execTicketStatus_keeps (hs : P s) : Keeps P (execTicketStatus s) :=
  keeps_serve ha hs fun r => by
    split
    · exact ruleKeeps_answered hs
    · exact ruleKeeps_none

end

end

end Sys2Proof.Machine
end

section
namespace Sys2Proof.Machine

/-! ### What the line, the channels and the agent keep of the tables -/

section
variable {s : State}

theorem tablesOk_answers : AnswerKeeps State.tablesOk := fun _ _ a hs => by
  cases a <;> exact hs

theorem tablesOk_countCheckFailure (hs : s.tablesOk) : (countCheckFailure s).tablesOk := tablesOk_latch _ hs

theorem tablesOk_joinForwardDown (f : Frame) (c : Option StationClass) (hs : s.tablesOk) :
    (joinForwardDown f c s).tablesOk := by
  unfold joinForwardDown
  split
  · exact hs
  · exact tablesOk_latch _ hs

theorem tablesOk_joinForwardUp (f : Frame) (hs : s.tablesOk) : (joinForwardUp f s).tablesOk := by
  unfold joinForwardUp
  split
  · exact hs
  · exact tablesOk_latch _ hs

theorem tablesOk_takeRequest (f : Frame) (hs : s.tablesOk) : (takeRequest f s).tablesOk := by
  unfold takeRequest
  split <;> exact hs

theorem tablesOk_hostBroadcast (f : Frame) (hs : s.tablesOk) : (hostBroadcast f s).tablesOk := by
  unfold hostBroadcast
  split
  · exact hs
  · exact tablesOk_joinForwardDown f _ hs

theorem tablesOk_hostToStation (f : Frame) (e : StationEntry) (hs : s.tablesOk) : (hostToStation f e s).tablesOk := by
  unfold hostToStation
  dsimp only
  split
  · exact tablesOk_joinForwardDown f _ hs
  · exact hs
  · split
    · exact tablesOk_joinForwardDown _ _ (s := countRewritten s) hs
    · exact tablesOk_joinForwardDown f _ hs

theorem tablesOk_hostFrame (f : Frame) (hs : s.tablesOk) : (hostFrame f s).tablesOk := by
  unfold hostFrame
  split
  · exact hs
  · split
    · split
      · exact tablesOk_takeRequest f hs
      · exact hs
    · split
      · exact tablesOk_hostBroadcast f hs
      · split
        · exact tablesOk_hostToStation f _ hs
        · exact tablesOk_joinForwardDown f _ hs

theorem execUPortFrameReceived_keeps_tables (chars : List Byte) (hs : s.tablesOk) :
    Keeps State.tablesOk (execUPortFrameReceived chars s) := by
  unfold execUPortFrameReceived
  dsimp only
  split
  · exact keeps_next (tablesOk_countCheckFailure hs)
  · exact keeps_next hs
  · exact keeps_next (tablesOk_hostFrame _ hs)

theorem tablesOk_raiseClass (st ch : Nat) (m : MaskSet) (before after : SampleClass) (hs : s.tablesOk) :
    (raiseClass st ch m before after s).tablesOk := by
  obtain ⟨_, _, hsamples, hstations, _⟩ := id hs
  unfold raiseClass
  split
  · refine tablesOk_latch _ (State.tablesOk_onChan hs ?_)
    unfold enterRaise
    split
    · exact ⟨hsamples, hstations⟩
    · split <;> exact ⟨hsamples, hstations⟩
  · exact hs

theorem tablesOk_deliver (e : StationEntry) (st ch : Nat) (u : Update) (hs : s.tablesOk) :
    (deliver e st ch u s).tablesOk :=
  deliver_closed tablesOk_closed (fun _ _ hs => hs) e st ch u hs

theorem tablesOk_finishUpdate (st ch : Nat) (d : Descriptor) (before : SampleClass) (r : Sample) (report settled : Bool)
    (hs : s.tablesOk) : (finishUpdate st ch d before r report settled s).tablesOk :=
  tablesOk_deliver _ _ _ _ (tablesOk_raiseClass _ _ _ _ _ (State.tablesOk_putSample st ch _ hs))

theorem tablesOk_tapReport (f : Frame) (hs : s.tablesOk) : (tapReport f s).tablesOk := by
  unfold tapReport
  split
  · exact tablesOk_finishUpdate _ _ _ _ _ _ _ (restartPollTimer_closed tablesOk_closed _ _ hs)
  · exact hs

theorem tablesOk_answerPoll (f : Frame) (hs : s.tablesOk) : (answerPoll f s).tablesOk := by
  unfold answerPoll
  split <;> exact hs

theorem tablesOk_fieldFrame (f : Frame) (hs : s.tablesOk) : (fieldFrame f s).tablesOk := by
  unfold fieldFrame
  split
  · exact hs
  · split
    · split
      · exact tablesOk_tapReport f hs
      · exact tablesOk_joinForwardUp f (tablesOk_tapReport f hs)
    · split
      · exact hs
      · exact tablesOk_joinForwardUp f hs

theorem tablesOk_fieldChars (chars : List Byte) (hs : s.tablesOk) : (fieldChars chars s).tablesOk := by
  unfold fieldChars
  dsimp only
  split
  · exact tablesOk_countCheckFailure hs
  · exact hs
  · exact tablesOk_fieldFrame _ (tablesOk_answerPoll _ hs)

theorem execStaleExpiry_keeps_tables (st ch : Nat) (hs : s.tablesOk) : Keeps State.tablesOk (execStaleExpiry st ch s) := by
  unfold execStaleExpiry
  split
  · split
    · split
      · exact keeps_next (tablesOk_finishUpdate _ _ _ _ _ _ _ hs)
      · exact keeps_next hs
    · exact keeps_next hs
  · exact keeps_next hs

theorem tablesOk_startSending (f : Frame) (c : Option StationClass) (hs : s.tablesOk) : (startSending f c s).tablesOk := by
  have : (gateFrame f c s).2.tablesOk := by
    unfold gateFrame
    split <;> exact hs
  exact this

theorem tablesOk_transmitDown (hs : s.tablesOk) : (transmitDown s).tablesOk := by
  unfold transmitDown
  split
  · exact hs
  · exact tablesOk_startSending _ _ (s := s.onLine _) hs
  · exact tablesOk_startSending _ _ (s := s.onLine _) hs
  · exact tablesOk_startSending _ _ (s := s.onLine _) hs

theorem execPollWindowOpen_keeps_tables (hs : s.tablesOk) : Keeps State.tablesOk (execPollWindowOpen s) := by
  unfold execPollWindowOpen
  split
  · exact keeps_next hs
  · exact keeps_ite hs hs

theorem execFPortTransmissionEnd_keeps_tables (hs : s.tablesOk) : Keeps State.tablesOk (execFPortTransmissionEnd s) := by
  unfold execFPortTransmissionEnd
  split
  · exact keeps_next hs
  · exact keeps_ite hs hs

theorem execNoReplyPoll_keeps_tables (hs : s.tablesOk) : Keeps State.tablesOk (execNoReplyPoll s) := by
  unfold execNoReplyPoll
  split <;> exact keeps_next hs

theorem tablesOk_fetchEndTest (hs : s.tablesOk) : (fetchEndTest s).tablesOk :=
  fetchEndTest_closed tablesOk_closed (fun _ _ hs => hs) hs

theorem tablesOk_takeOwnUp (e : OwnUp) (hs : s.tablesOk) : (takeOwnUp e s).tablesOk := by
  unfold takeOwnUp afterTaken
  split
  · exact hs
  · unfold ticketSent
    exact tablesOk_fetchEndTest (s := State.onTransfer _ _) hs
  · exact hs

theorem execUPortTransmit_keeps_tables (hs : s.tablesOk) : Keeps State.tablesOk (execUPortTransmit s) := by
  unfold execUPortTransmit
  split
  · exact keeps_next hs
  · exact keeps_next hs
  · exact keeps_next (tablesOk_takeOwnUp _ hs)
  · exact keeps_ite hs (tablesOk_takeOwnUp _ hs)

/-! ### What the requests on the tables keep -/

theorem execExceptionRead_keeps_tables (hs : s.tablesOk) : Keeps State.tablesOk (execExceptionRead s) :=
  keeps_serve tablesOk_answers hs fun r => by
    split
    · refine ruleKeeps_answered ?_
      split <;> exact hs
    · exact ruleKeeps_none

theorem execLineStatus_keeps_tables (hs : s.tablesOk) : Keeps State.tablesOk (execLineStatus s) :=
  keeps_serve tablesOk_answers hs fun r => by
    split
    · refine ruleKeeps_answered ?_
      split <;> exact hs
    · exact ruleKeeps_none

theorem execClockSet_keeps_tables (hs : s.tablesOk) : Keeps State.tablesOk (execClockSet s) :=
  keeps_serve tablesOk_answers hs fun r => by
    split
    · exact ruleKeeps_replied hs
    · exact ruleKeeps_none

theorem releaseUnknown_keeps_tables (p : PickerId) (n : Nat) (hs : s.tablesOk) : (releaseUnknown p n s).tablesOk :=
  releaseUnknown_closed tablesOk_closed p n hs

/-- R2, R3: a new lot is entered only below 64 records. -/
theorem lotDeclare_keeps_tables (n grower variety : Nat) (m : Option Nat) (hs : s.tablesOk) :
    RuleKeeps State.tablesOk (lotDeclare n grower variety m s) := by
  refine ruleKeeps_ite (ruleKeeps_refused hs) ?_
  split
  · exact ruleKeeps_refused hs
  · rename_i hroom
    have hlen : (tablePut s.lots n (Lot.declared grower variety m)).length ≤ 64 := by
      have := length_tablePut_le s.lots n (Lot.declared grower variety m)
      have : ¬64 ≤ s.lots.length := hroom
      omega
    have hput := State.tablesOk_withLots hs ⟨tableWf_tablePut hs.1.1, hlen⟩
    exact ruleKeeps_replied (releaseUnknown_keeps_tables _ _ (releaseUnknown_keeps_tables _ _ hput))

theorem lotRemove_keeps_tables (n : Nat) (hs : s.tablesOk) : RuleKeeps State.tablesOk (lotRemove n s) := by
  unfold lotRemove
  split
  · exact ruleKeeps_refused hs
  · exact ruleKeeps_ite (ruleKeeps_refused hs) (ruleKeeps_replied (State.tablesOk_withLots hs
      ⟨tableWf_tableErase hs.1.1, (length_tableErase_le _ _).trans hs.1.2⟩))

theorem execLotDeclare_keeps_tables (hs : s.tablesOk) : Keeps State.tablesOk (execLotDeclare s) :=
  keeps_serve tablesOk_answers hs fun r => by
    split
    · exact lotDeclare_keeps_tables _ _ _ _ hs
    · exact ruleKeeps_none

theorem execLotRemove_keeps_tables (hs : s.tablesOk) : Keeps State.tablesOk (execLotRemove s) :=
  keeps_serve tablesOk_answers hs fun r => by
    split
    · exact lotRemove_keeps_tables _ hs
    · exact ruleKeeps_none

theorem execTicketBase_keeps_tables (hs : s.tablesOk) : Keeps State.tablesOk (execTicketBase s) :=
  keeps_serve tablesOk_answers hs fun r => by
    split
    · exact ruleKeeps_ite (ruleKeeps_refused hs) (ruleKeeps_ite (ruleKeeps_refused hs)
        (ruleKeeps_replied (wakeStore_closed tablesOk_closed (s := s.onStore _) hs)))
    · exact ruleKeeps_none

theorem execTicketFetch_keeps_tables (hs : s.tablesOk) : Keeps State.tablesOk (execTicketFetch s) := by
  have hserved := serve_keeps (P := State.tablesOk) (run := fun r => match r with
    | .ticketFetch n => ticketFetch n s.headTag s
    | _ => none) tablesOk_answers (fun r => by
      split
      · exact ruleKeeps_ite (ruleKeeps_refused hs) (ruleKeeps_ite (ruleKeeps_refused hs)
          (ruleKeeps_ite (ruleKeeps_refused hs) (ruleKeeps_replied hs)))
      · exact ruleKeeps_none) hs
  exact keeps_ite (tablesOk_fetchEndTest hserved) hserved

theorem execTicketTake_keeps_tables (hs : s.tablesOk) : Keeps State.tablesOk (execTicketTake s) :=
  keeps_serve tablesOk_answers hs fun r => by
    split
    · refine ruleKeeps_ite (ruleKeeps_refused hs) (ruleKeeps_ite (ruleKeeps_refused hs) (ruleKeeps_replied ?_))
      split
      · exact hs
      · exact wakeStore_closed tablesOk_closed (s := s.onStore _) hs
    · exact ruleKeeps_none

theorem ruleKeeps_onSources {P : State → Prop} {bs : List Byte} {f : BitVec 77 → Option (Option Answer × State)} (hs : P s)
    (hf : ∀ v, RuleKeeps P (f v)) : RuleKeeps P (onSourcesRequest bs s f) :=
  ruleKeeps_ite (hf _) (ruleKeeps_refused hs)

theorem execNoticeEnable_keeps_tables (hs : s.tablesOk) : Keeps State.tablesOk (execNoticeEnable s) :=
  keeps_serve tablesOk_answers hs fun r => by
    split
    · exact ruleKeeps_onSources hs fun _ => ruleKeeps_replied hs
    · exact ruleKeeps_none

theorem execNoticeClear_keeps_tables (hs : s.tablesOk) : Keeps State.tablesOk (execNoticeClear s) :=
  keeps_serve tablesOk_answers hs fun r => by
    split
    · exact ruleKeeps_onSources hs fun _ => ruleKeeps_replied hs
    · exact ruleKeeps_none

/-! ### Table writes -/

theorem tablesOk_discardStaging (hs : s.tablesOk) : (discardStaging s).tablesOk := by
  unfold discardStaging
  split
  · exact tablesOk_latch _ hs
  · exact hs

theorem tablesOk_recommitChannel (st ch : Nat) (described : Bool) (hs : s.tablesOk) :
    (recommitChannel st ch described s).tablesOk := by
  obtain ⟨_, _, hsamples, hstations, _⟩ := id hs
  unfold recommitChannel
  split
  · exact restartPollTimer_closed tablesOk_closed _ _ (State.tablesOk_putSample _ _ _ hs)
  · exact State.tablesOk_onChan hs ⟨tableWf_tableErase hsamples, hstations⟩

theorem tablesOk_commitStation (st : Nat) (e : StationEntry) (hs : s.tablesOk) : (commitStation st e s).tablesOk := by
  obtain ⟨_, _, hsamples, hstations, _⟩ := id hs
  refine foldl_closed _ (fun _ ch hs => tablesOk_deliver _ st ch _ hs) _ ?_
  refine foldl_closed _ (fun _ ch hs => tablesOk_recommitChannel st ch _ hs) _ ?_
  exact State.tablesOk_onChan hs ⟨hsamples, tableCanonical_tableSet hstations⟩

/-- A write that is taken leaves a property. -/
def WriteKeeps (P : State → Prop) (o : WriteOutcome) : Prop := ∀ t, o = .taken t → P t

section
variable {P : State → Prop}

theorem writeKeeps_refused {r : ResultCode} : WriteKeeps P (.refused r) := fun _ h => nomatch h

theorem writeKeeps_taken {t : State} (ht : P t) : WriteKeeps P (.taken t) := fun _ h => WriteOutcome.taken.inj h ▸ ht

theorem writeKeeps_ite {c : Prop} [Decidable c] {o q : WriteOutcome} (ho : WriteKeeps P o) (hq : WriteKeeps P q) :
    WriteKeeps P (if c then o else q) := by
  split
  · exact ho
  · exact hq

theorem writeKeeps_writeTaken {α : Type} {f : α → State} (hf : ∀ a, P (f a)) (e : Option α) : WriteKeeps P (writeTaken f e) := by
  cases e with
  | none => exact writeKeeps_refused
  | some a => exact writeKeeps_taken (hf a)

theorem writeKeeps_writeUnit {α : Type} {f : α → WriteOutcome} (hf : ∀ u, WriteKeeps P (f u)) (u : Option α) :
    WriteKeeps P (writeUnit f u) := by
  cases u with
  | none => exact writeKeeps_refused
  | some u => exact hf u

end

theorem writeStation_keeps_tables (n : Nat) (e : Option StationEntry) (hs : s.tablesOk) :
    WriteKeeps State.tablesOk (writeStation n e s) := by
  cases e with
  | none => exact writeKeeps_refused
  | some e =>
    exact writeKeeps_ite writeKeeps_refused
      (writeKeeps_ite writeKeeps_refused (writeKeeps_taken (tablesOk_commitStation n e hs)))

theorem writeKilnConfig_keeps_tables (k : KilnId) (c : Option KilnConfig) (hs : s.tablesOk) :
    WriteKeeps State.tablesOk (writeKilnConfig k c s) := by
  cases c with
  | none => exact writeKeeps_refused
  | some c => exact writeKeeps_ite writeKeeps_refused (writeKeeps_taken hs)

theorem tablesOk_writeWatch (n : Nat) (e : WatchEntry) (hs : s.tablesOk) : (writeWatch n e s).tablesOk := by
  unfold writeWatch
  have hput := State.tablesOk_putWatch n
    { entry := e, state := if e.enabled then .armed else .disabled, pendingStart := none, fireCount := 0, lastFire := none,
      lastOutcome := none } hs
  exact closed_ite (takeReading_closed tablesOk_closed n _ hput) hput

theorem plainWrite_keeps_tables (t : TableId) (n : Nat) (content : List Byte) (hs : s.tablesOk) :
    WriteKeeps State.tablesOk (plainWrite t n content s) := by
  cases t with
  | station => exact writeKeeps_ite (writeStation_keeps_tables n _ hs) writeKeeps_refused
  | pickerConfig => exact writeKeeps_writeUnit (fun p => writeKeeps_writeTaken (f := fun c => s.onPicker p _) (fun _ => hs) _) _
  | kilnConfig => exact writeKeeps_writeUnit (fun k => writeKilnConfig_keeps_tables k _ hs) _
  | schedule => exact writeKeeps_refused
  | pressConfig => exact writeKeeps_writeUnit (fun b => writeKeeps_writeTaken (f := fun c => s.onPress b _) (fun _ => hs) _) _
  | watch => exact writeKeeps_ite (writeKeeps_writeTaken (fun e => tablesOk_writeWatch n e hs) _) writeKeeps_refused
  | lineSettings => exact writeKeeps_ite (writeKeeps_writeTaken (f := fun c => s.onLine _) (fun _ => hs) _) writeKeeps_refused

theorem tableWritePlain_keeps_tables (table n : Nat) (content : List Byte) (hs : s.tablesOk) :
    RuleKeeps State.tablesOk (tableWritePlain table n content s) := by
  have hdiscard := tablesOk_discardStaging hs
  unfold tableWritePlain
  dsimp only
  split
  · exact ruleKeeps_refused hdiscard
  · split
    · exact ruleKeeps_refused hdiscard
    · rename_i htaken
      exact ruleKeeps_replied (tablesOk_countWrite _ _ (plainWrite_keeps_tables _ _ _ hdiscard _ htaken))

theorem writeSchedule_keeps_tables (n : Nat) (g : Option (List Stage)) (hs : s.tablesOk) :
    WriteKeeps State.tablesOk (writeSchedule n g s) := by
  cases g with
  | none => exact writeKeeps_refused
  | some g => exact writeKeeps_ite writeKeeps_refused (writeKeeps_taken (State.tablesOk_setSchedule n g hs))

theorem commitWrite_keeps_tables (t : TableId) (n : Nat) (content : List (List Byte)) (hs : s.tablesOk) :
    WriteKeeps State.tablesOk (commitWrite t n content s) := by
  unfold commitWrite
  split
  · exact writeStation_keeps_tables n _ hs
  · exact writeSchedule_keeps_tables n _ hs

theorem commitStaged_keeps_tables (g : Staging) (hs : s.tablesOk) : RuleKeeps State.tablesOk (commitStaged g s) := by
  have hopen : (s.onAgent fun a => { a with staging := some g }).tablesOk := hs
  unfold commitStaged
  dsimp only
  split
  · exact ruleKeeps_refused (tablesOk_discardStaging hopen)
  · rename_i htaken
    have hwritten := tablesOk_countWrite g.table g.index (commitWrite_keeps_tables _ _ _ hopen _ htaken)
    exact ruleKeeps_replied (P := State.tablesOk) hwritten

theorem takeSegment_keeps_tables (t : TableId) (n segment : Nat) (last : Bool) (content : List (List Byte))
    (hs : s.tablesOk) : RuleKeeps State.tablesOk (takeSegment t n segment last content s) :=
  ruleKeeps_ite (ruleKeeps_refused (tablesOk_discardStaging hs))
    (ruleKeeps_ite (commitStaged_keeps_tables _ hs) (ruleKeeps_replied hs))

theorem tableWriteStaged_keeps_tables (table n segment : Nat) (last : Bool) (bs : List Byte) (hs : s.tablesOk) :
    RuleKeeps State.tablesOk (tableWriteStaged table n segment last bs s) := by
  unfold tableWriteStaged
  split
  · exact ruleKeeps_refused hs
  · refine ruleKeeps_ite (ruleKeeps_refused hs) ?_
    split
    · exact ruleKeeps_ite (takeSegment_keeps_tables _ _ _ _ _ hs) (ruleKeeps_refused (tablesOk_discardStaging hs))
    · exact ruleKeeps_ite (takeSegment_keeps_tables _ _ _ _ _ hs) (ruleKeeps_refused hs)

theorem execTableWritePlain_keeps_tables (hs : s.tablesOk) : Keeps State.tablesOk (execTableWritePlain s) :=
  keeps_serve tablesOk_answers hs fun r => by
    split
    · exact tableWritePlain_keeps_tables _ _ _ hs
    · exact ruleKeeps_none

theorem execTableWriteStaged_keeps_tables (hs : s.tablesOk) : Keeps State.tablesOk (execTableWriteStaged s) :=
  keeps_serve tablesOk_answers hs fun r => by
    split
    · exact tableWriteStaged_keeps_tables _ _ _ _ _ hs
    · exact ruleKeeps_none

theorem execStagingTimeout_keeps_tables (hs : s.tablesOk) : Keeps State.tablesOk (execStagingTimeout s) := by
  unfold execStagingTimeout
  split
  · exact keeps_next hs
  · exact keeps_ite (tablesOk_discardStaging hs) hs

/-! ### Line Reset -/

theorem tablesOk_requeueEnds (removed : List OwnUp) (hs : s.tablesOk) : (requeueEnds removed s).tablesOk :=
  foldl_closed _ (fun _ _ hs => by split <;> exact hs) _ hs

theorem tablesOk_lineResetCore (f : Frame) (hs : s.tablesOk) : (lineResetCore f s).tablesOk := by
  refine clearOwed_closed tablesOk_closed ?_
  refine resetTransfer_closed tablesOk_closed (fun _ _ hs => hs) (tablesOk_requeueEnds _ ?_)
  exact restartAllTimers_closed tablesOk_closed (s := State.onChan _ _) hs

theorem execLineReset_keeps_tables (order : List UnitId) (hs : s.tablesOk) :
    Keeps State.tablesOk (execLineReset order s) := by
  unfold execLineReset
  split
  · exact keeps_next hs
  · exact keeps_ite (foldl_closed _ (fun _ u hs => restoreUnit_closed tablesOk_closed u hs) _ (tablesOk_lineResetCore _ hs)) hs

/-- R2: no command leaves a table out of its canonical form. -/
theorem exec_keeps_tables (c : Instr) (hs : s.tablesOk) : Keeps State.tablesOk (exec c s) := by
  have h := tablesOk_closed
  have ha := tablesOk_answers
  have hu {s : State} (f : Frame) (o : UpOrigin) (hs : s.tablesOk) : (queueUp f o s).tablesOk := hs
  have hp {s : State} (k : KilnId) (f : Permit → Permit) (hs : s.tablesOk) : (s.onPermit k f).tablesOk := hs
  cases c with
  | powerOn => exact keeps_next (by simp [State.tablesOk, State.reset, tableCanonical, tableWf])
  | yardReset order => exact execYardReset_keeps h hp hu order hs
  | uPortFrameReceived chars => exact execUPortFrameReceived_keeps_tables chars hs
  | fPortFrameReceived chars => exact keeps_ite hs (tablesOk_fieldChars chars hs)
  | staleExpiry st ch => exact execStaleExpiry_keeps_tables st ch hs
  | selfPollDue st ch => exact execSelfPollDue_keeps h st ch hs
  | fPortTransmit => exact keeps_ite (tablesOk_transmitDown hs) hs
  | pollWindowOpen => exact execPollWindowOpen_keeps_tables hs
  | noReplyPoll => exact execNoReplyPoll_keeps_tables hs
  | uPortTransmit => exact execUPortTransmit_keeps_tables hs
  | requestBadForm => exact execRequestBadForm_keeps ha hs
  | tableRead => exact execTableRead_keeps ha hs
  | tableWritePlain => exact execTableWritePlain_keeps_tables hs
  | tableWriteStaged => exact execTableWriteStaged_keeps_tables hs
  | stagingTimeout => exact execStagingTimeout_keeps_tables hs
  | lineStatus => exact execLineStatus_keeps_tables hs
  | lineReset order => exact execLineReset_keeps_tables order hs
  | identify => exact execIdentify_keeps ha hs
  | clockSet => exact execClockSet_keeps_tables hs
  | lotDeclare => exact execLotDeclare_keeps_tables hs
  | lotClose => exact execLotClose_keeps h ha hs
  | lotRemove => exact execLotRemove_keeps_tables hs
  | lotQuery => exact execLotQuery_keeps ha hs
  | sampleQuery => exact execSampleQuery_keeps ha hs
  | exceptionRead => exact execExceptionRead_keeps_tables hs
  | clearanceQuietEnd p => exact execClearanceQuietEnd_keeps h p hs
  | clearanceLimit p => exact execClearanceLimit_keeps h p hs
  | openingAttempt p offer => exact execOpeningAttempt_keeps h p offer hs
  | openingRetry p => exact execOpeningRetry_keeps h p hs
  | pickerStart => exact execPickerStart_keeps h ha hs
  | pickerStop => exact execPickerStop_keeps h ha hs
  | pickerHold => exact execPickerHold_keeps h ha hs
  | pickerRelease => exact execPickerRelease_keeps h ha hs
  | chargeClose => exact execChargeClose_keeps h ha hs
  | pickerAssign => exact execPickerAssign_keeps h ha hs
  | pickerQuery => exact execPickerQuery_keeps h ha hs
  | floorQuery => exact execFloorQuery_keeps ha hs
  | chargeQuery => exact execChargeQuery_keeps ha hs
  | dropStartRetry k => exact execDropStartRetry_keeps h k hs
  | pilefullRetry k => exact execPilefullRetry_keeps h k hs
  | dropTimeout k => exact execDropTimeout_keeps h k hs
  | gateCloseOwedQueued k => exact execGateCloseOwedQueued_keeps h k hs
  | awaitingOverdue k => exact execAwaitingOverdue_keeps h k hs
  | stageEnd k => exact execStageEnd_keeps h k hs
  | timedDryEnd k => exact execTimedDryEnd_keeps h k hs
  | injectionRefresh k => exact execInjectionRefresh_keeps h k hs
  | injectionOwedQueued k t => exact execInjectionOwedQueued_keeps h k t hs
  | bandExcursionDecided k => exact execBandExcursionDecided_keeps h k hs
  | cycleNow => exact execCycleNow_keeps h ha hs
  | kilnRelease => exact execKilnRelease_keeps h ha hs
  | kilnMode => exact execKilnMode_keeps h ha hs
  | cycleResume => exact execCycleResume_keeps h ha hs
  | kilnQuery => exact execKilnQuery_keeps ha hs
  | permitStage => exact execPermitStage_keeps ha hp hs
  | permitRenewOdd => exact execPermitRenewOdd_keeps h ha hp hs
  | permitRenewEven => exact execPermitRenewEven_keeps h ha hp hs
  | permitConfirm => exact execPermitConfirm_keeps h ha hp hs
  | permitWithdraw => exact execPermitWithdraw_keeps h ha hp hs
  | permitTimerExpiry k => exact execPermitTimerExpiry_keeps h hp k hs
  | fillStart b => exact execFillStart_keeps h b hs
  | pileFeedRunOwedQueued b => exact execPileFeedRunOwedQueued_keeps h b hs
  | coastEnd b => exact execCoastEnd_keeps h b hs
  | phaseOrderOwedQueued b => exact execPhaseOrderOwedQueued_keeps h b hs
  | phaseTimeout b => exact execPhaseTimeout_keeps h b hs
  | weighWindowEnd b => exact execWeighWindowEnd_keeps h hu b hs
  | pressNow => exact execPressNow_keeps h ha hs
  | pressClear => exact execPressClear_keeps h ha hs
  | pressAuto => exact execPressAuto_keeps h ha hs
  | pressReweigh => exact execPressReweigh_keeps h ha hs
  | reweighReplyQueued b => exact execReweighReplyQueued_keeps h hu b hs
  | pressQuery => exact execPressQuery_keeps h ha hs
  | ticketBase => exact execTicketBase_keeps_tables hs
  | ticketFetch => exact execTicketFetch_keeps_tables hs
  | ticketFrameQueue => exact execTicketFrameQueue_keeps h hu hs
  | fetchEndFrameQueued => exact execFetchEndFrameQueued_keeps h hu hs
  | ticketTake => exact execTicketTake_keeps_tables hs
  | ticketStatus => exact execTicketStatus_keeps ha hs
  | watchPersistenceEnd n => exact execWatchPersistenceEnd_keeps h n hs
  | noticeFrameQueue => exact keeps_ite hs hs
  | noticeEnable => exact execNoticeEnable_keeps_tables hs
  | noticeClear => exact execNoticeClear_keeps_tables hs
  | noticeRead => exact execNoticeRead_keeps ha hs
  | lineResetRestoreQueued u => exact execLineResetRestoreQueued_keeps h u hs
  | fPortTransmissionEnd => exact execFPortTransmissionEnd_keeps_tables hs

end

/-- Settles O7: a step is a second, which touches no table, or a command on the queue's rest. -/
theorem stepKeepsTables : Obligations.StepKeepsTables := by
  unfold Obligations.StepKeepsTables
  intro s t hs ht
  unfold step at ht
  split at ht
  · exact keeps_next (P := State.tablesOk) (s := tick s) hs t ht
  · rename_i c rest _
    exact exec_keeps_tables c (s := s.withPending rest) hs t ht

end Sys2Proof.Machine
end

section
namespace Sys2Proof.Machine

/-! ### Resets -/

/-- Settles O4: every clause reads the power-on state, field by field. -/
theorem powerOnState : Obligations.PowerOnState := by
  unfold Obligations.PowerOnState
  intro s
  refine ⟨_, rfl, rfl, rfl, rfl, rfl, fun _ _ => rfl, fun _ => rfl, fun _ _ => rfl, rfl, rfl, fun _ => rfl, rfl,
    fun _ => rfl, fun _ => rfl, rfl, ?picker, ?kiln, fun _ => rfl, ?press, rfl⟩
  case picker => intro p; cases p <;> rfl
  case kiln => intro k; cases k <;> rfl
  case press => intro b; cases b <;> rfl

/-- Every queue, run, list and counter is empty at power-on. -/
theorem reset_withinCapacity : State.reset.withinCapacity := by
  unfold State.withinCapacity
  decide

/-- Every keyed table is empty at power-on. -/
theorem reset_tablesOk : State.reset.tablesOk := by
  simp [State.tablesOk, State.reset, tableCanonical, tableWf]

theorem reset_timersStopped : State.reset.timersStopped := by
  intro k _
  cases k <;> rfl

theorem reset_droppingMatchesRing : State.reset.droppingMatchesRing := by
  intro k
  cases k <;> simp [State.reset, State.kiln, Kiln.reset, Ring.reset]

/-- Settles O5, one invariant at a time; a store with no next serial is ordered when it is empty. -/
theorem resetMeetsInvariants : Obligations.ResetMeetsInvariants :=
  ⟨reset_withinCapacity, reset_tablesOk, rfl, reset_timersStopped, reset_droppingMatchesRing⟩

end Sys2Proof.Machine
end

section
namespace Sys2Proof.Machine

/-! ### Lot Remove -/

/-- R5: what Lot Remove answers at the head of the request queue. -/
theorem exec_lotRemove {s t : State} {f : Frame} {n : Nat} {a : Answer} (hs : s.serves f (.lotRemove n))
    (h : lotRemove n s = some (some a, t)) (hu : t.line.ownUp = s.line.ownUp) :
    exec .lotRemove s = .next (t.reply f a) :=
  congrArg Host.Outcome.next (serve_eq_reply hs h hu)

/-- R5, test 3: a picker holds a lot number as its current or its pending lot. -/
theorem pickerHoldsLot_iff (s : State) (n : Nat) :
    s.pickerHoldsLot n = true ↔ ∃ p, (s.picker p).currentLot = some n ∨ (s.picker p).pendingLot = some n := by
  simp only [State.pickerHoldsLot, allPickers, List.any_cons, List.any_nil, Bool.or_false, Bool.or_eq_true, beq_iff_eq]
  exact ⟨fun h => h.elim (fun h => ⟨.p1, h⟩) fun h => ⟨.p2, h⟩, fun ⟨p, h⟩ => by cases p <;> simp [h]⟩

theorem lotRemove_of_none {s : State} {n : Nat} (h : s.lot n = none) : lotRemove n s = refused .notFound s := by
  rw [lotRemove, h]

theorem lotRemove_of_held {s : State} {n : Nat} {l : Lot} (h : s.lot n = some l)
    (hl : l.state = .active ∨ l.state = .closing ∨ s.pickerHoldsLot n = true) : lotRemove n s = refused .state s := by
  simp only [lotRemove, h]
  exact if_pos hl

theorem lotRemove_of_free {s : State} {n : Nat} {l : Lot} (h : s.lot n = some l)
    (hl : ¬(l.state = .active ∨ l.state = .closing ∨ s.pickerHoldsLot n = true)) :
    lotRemove n s = replied (.done []) (s.withLots (tableErase s.lots n)) := by
  simp only [lotRemove, h]
  exact if_neg hl

/-- Settles O32: each case is an equation of `lotRemove`, and the removal is the erasure of one key. -/
theorem lotRemoveFreesRecord : Obligations.LotRemoveFreesRecord := by
  unfold Obligations.LotRemoveFreesRecord
  intro s f n hs
  refine ⟨fun hnone => ?missing, fun l hl hheld => ?held, fun l hl hactive hclosing hpickers => ?freed⟩
  case missing => exact exec_lotRemove hs (lotRemove_of_none hnone) rfl
  case held =>
    rw [← pickerHoldsLot_iff] at hheld
    exact exec_lotRemove hs (lotRemove_of_held hl hheld) rfl
  case freed =>
    have hfree : ¬(l.state = .active ∨ l.state = .closing ∨ s.pickerHoldsLot n = true) := by
      rw [pickerHoldsLot_iff]
      rintro (h | h | ⟨p, h⟩)
      · exact hactive h
      · exact hclosing h
      · exact h.elim (hpickers p).1 (hpickers p).2
    exact ⟨_, exec_lotRemove hs (lotRemove_of_free hl hfree) rfl, tableGet_tableErase_self _ _,
      fun m hm => tableGet_tableErase_of_ne _ (Ne.symm hm), rfl⟩

end Sys2Proof.Machine
end

section
namespace Sys2Proof.Machine

/-! ### One unit written twice, and a write that changes nothing -/

theorem State.onPicker_congr {s : State} {p : PickerId} {f g : Picker → Picker} (h : f (s.picker p) = g (s.picker p)) :
    s.onPicker p f = s.onPicker p g := by
  cases p <;> simp only [State.onPicker, State.onPickers, State.picker] at * <;> rw [h]

theorem State.onKiln_congr {s : State} {k : KilnId} {f g : Kiln → Kiln} (h : f (s.kiln k) = g (s.kiln k)) :
    s.onKiln k f = s.onKiln k g := by
  cases k <;> simp only [State.onKiln, State.onKilns, State.kiln] at * <;> rw [h]

theorem State.onPress_congr {s : State} {b : PressId} {f g : Press → Press} (h : f (s.press b) = g (s.press b)) :
    s.onPress b f = s.onPress b g := by
  cases b <;> simp only [State.onPress, State.onPresses, State.press] at * <;> rw [h]

theorem State.onPicker_onPicker (s : State) (p : PickerId) (f g : Picker → Picker) :
    (s.onPicker p f).onPicker p g = s.onPicker p fun r => g (f r) := by cases p <;> rfl

theorem State.onKiln_onKiln (s : State) (k : KilnId) (f g : Kiln → Kiln) :
    (s.onKiln k f).onKiln k g = s.onKiln k fun r => g (f r) := by cases k <;> rfl

theorem State.onPress_onPress (s : State) (b : PressId) (f g : Press → Press) :
    (s.onPress b f).onPress b g = s.onPress b fun r => g (f r) := by cases b <;> rfl

theorem State.onPicker_id (s : State) (p : PickerId) : (s.onPicker p fun r => r) = s := by cases p <;> rfl

theorem State.onKiln_id (s : State) (k : KilnId) : (s.onKiln k fun r => r) = s := by cases k <;> rfl

theorem State.onPicker_eq_self {s : State} {p : PickerId} {f : Picker → Picker} (h : f (s.picker p) = s.picker p) :
    s.onPicker p f = s := (State.onPicker_congr h).trans (s.onPicker_id p)

/-! ### Writes to different parts in another order -/

theorem State.onLine_onLine (s : State) (f g : Line → Line) : (s.onLine f).onLine g = s.onLine fun l => g (f l) := rfl

theorem State.onLine_onPicker (s : State) (p : PickerId) (f : Picker → Picker) (g : Line → Line) :
    (s.onLine g).onPicker p f = (s.onPicker p f).onLine g := rfl

theorem State.onLine_onKiln (s : State) (k : KilnId) (f : Kiln → Kiln) (g : Line → Line) :
    (s.onLine g).onKiln k f = (s.onKiln k f).onLine g := rfl

theorem State.onKiln_onPicker (s : State) (k : KilnId) (p : PickerId) (f : Kiln → Kiln) (g : Picker → Picker) :
    (s.onKiln k f).onPicker p g = (s.onPicker p g).onKiln k f := rfl

/-! ### Operations that reach one part of the state -/

/-- A latch claim changes the Notice Latch alone. -/
theorem latch_eq_onNotice (n : Nat) (s : State) : ∃ g, latch n s = s.onNotice g := by
  unfold latch
  split
  · exact ⟨id, rfl⟩
  · exact ⟨_, rfl⟩

/-- A safety frame changes the line alone. -/
theorem safetyCommand_eq_onLine (role : Role) (unit : UnitId) (v : Int) (s : State) :
    ∃ g, safetyCommand role unit v s = s.onLine g := by
  unfold safetyCommand
  split
  · exact ⟨_, rfl⟩
  · exact ⟨id, rfl⟩

theorem feedStop_eq_onLine (p : PickerId) (s : State) : ∃ g, feedStop p s = s.onLine g :=
  safetyCommand_eq_onLine _ _ _ s

/-- A line changed in nothing but its Own queue down, which keeps what it held. -/
def GrowsDown (g : Line → Line) : Prop := ∀ l, ∃ more, g l = { l with ownDown := l.ownDown ++ more }

theorem growsDown_id : GrowsDown id := fun l => ⟨[], by rw [List.append_nil]; rfl⟩

theorem GrowsDown.comp {f g : Line → Line} (hf : GrowsDown f) (hg : GrowsDown g) : GrowsDown fun l => f (g l) := fun l => by
  obtain ⟨more, hmore⟩ := hg l
  obtain ⟨more', hmore'⟩ := hf (g l)
  exact ⟨more ++ more', hmore'.trans (by rw [hmore, List.append_assoc])⟩

/-- An ordinary frame joins the Own queue down; nothing else changes. -/
theorem queueDown_eq_onLine (f : Frame) (injected : Bool) (s : State) : ∃ g, GrowsDown g ∧ queueDown f injected s = s.onLine g := by
  refine ⟨_, fun l => ?_, rfl⟩
  split
  · exact ⟨_, rfl⟩
  · exact growsDown_id l

theorem queueDistributor_eq_onLine (p : PickerId) (k : KilnId) (s : State) :
    ∃ g, GrowsDown g ∧ queueDistributor p k s = s.onLine g := by
  unfold queueDistributor
  split
  · exact queueDown_eq_onLine _ _ s
  · exact ⟨id, growsDown_id, rfl⟩

theorem queueGate_eq_onLine (k : KilnId) (v : Int) (s : State) : ∃ g, GrowsDown g ∧ queueGate k v s = s.onLine g := by
  unfold queueGate
  split
  · exact queueDown_eq_onLine _ _ s
  · exact ⟨id, growsDown_id, rfl⟩

/-! ### Injections (R92) -/

/-- A kiln changed in nothing but what R92's injections keep: the owed marks and the last injection. -/
def OnlyInjection (f : Kiln → Kiln) : Prop := ∀ r, ∃ x y z, f r = { r with burnerOwed := x, fanOwed := y, lastInjection := z }

theorem OnlyInjection.comp {f g : Kiln → Kiln} (hf : OnlyInjection f) (hg : OnlyInjection g) :
    OnlyInjection fun r => f (g r) := fun r => by
  obtain ⟨_, _, _, h⟩ := hg r
  obtain ⟨x, y, z, h'⟩ := hf (g r)
  exact ⟨x, y, z, h'.trans (by rw [h])⟩

section
variable {f : Kiln → Kiln} (hf : OnlyInjection f) (r : Kiln)
include hf

theorem OnlyInjection.state : (f r).state = r.state := by obtain ⟨_, _, _, h⟩ := hf r; rw [h]
theorem OnlyInjection.ring : (f r).ring = r.ring := by obtain ⟨_, _, _, h⟩ := hf r; rw [h]
theorem OnlyInjection.dropOwed : (f r).dropOwed = r.dropOwed := by obtain ⟨_, _, _, h⟩ := hf r; rw [h]
theorem OnlyInjection.excursionStart : (f r).excursionStart = r.excursionStart := by obtain ⟨_, _, _, h⟩ := hf r; rw [h]
theorem OnlyInjection.bandLatched : (f r).bandLatched = r.bandLatched := by obtain ⟨_, _, _, h⟩ := hf r; rw [h]

end

theorem setOwed_eq_onKiln (k : KilnId) (t : HeatTarget) (b : Bool) (s : State) :
    ∃ f, OnlyInjection f ∧ setOwed k t b s = s.onKiln k f := by
  cases t <;> exact ⟨_, fun _ => ⟨_, _, _, rfl⟩, rfl⟩

theorem injectTo_eq (k : KilnId) (t : HeatTarget) (v : Int × Nat) (s : State) :
    ∃ f g, OnlyInjection f ∧ GrowsDown g ∧ injectTo k t v s = (s.onKiln k f).onLine g := by
  have owed (b : Bool) : ∃ f g, OnlyInjection f ∧ GrowsDown g ∧ setOwed k t b s = (s.onKiln k f).onLine g := by
    obtain ⟨f, hf, h⟩ := setOwed_eq_onKiln k t b s
    exact ⟨f, id, hf, growsDown_id, h⟩
  unfold injectTo
  split
  · exact owed false
  · split
    · exact owed true
    · rename_i st _ _
      obtain ⟨g, hg, hq⟩ := queueDown_eq_onLine (ownCommand st (injectionValue t v)) true s
      obtain ⟨f, hf, h⟩ := setOwed_eq_onKiln k t false (s.onLine g)
      exact ⟨f, g, hf, hg, by rw [hq, h]; rfl⟩

/-- R92: an injection changes its kiln's injection fields, and the Own queue down, which keeps what it held. -/
theorem inject_eq (k : KilnId) (s : State) :
    ∃ f g, OnlyInjection f ∧ GrowsDown g ∧ inject k s = (s.onKiln k f).onLine g := by
  unfold inject
  split
  · exact ⟨fun r => r, id, fun _ => ⟨_, _, _, rfl⟩, growsDown_id, (s.onKiln_id k).symm⟩
  · rename_i v _
    obtain ⟨f, g, hf, hg, hburner⟩ := injectTo_eq k .burner v s
    obtain ⟨f', g', hf', hg', hfan⟩ := injectTo_eq k .fan v ((s.onKiln k f).onLine g)
    refine ⟨fun r => { f' (f r) with lastInjection := some s.now }, fun l => g' (g l), ?_, hg'.comp hg, ?_⟩
    · exact OnlyInjection.comp (f := fun r => { r with lastInjection := some s.now }) (fun _ => ⟨_, _, _, rfl⟩)
        (hf'.comp hf)
    · rw [hburner, hfan]
      cases k <;> rfl

/-- An entry to a kiln state changes the state, the injection fields and the Own queue down, which keeps what it held. -/
theorem enterKiln_eq (k : KilnId) (st : KilnState) (s : State) :
    ∃ f g, OnlyInjection f ∧ GrowsDown g ∧ enterKiln k st s = (s.onKiln k fun r => f { r with state := st }).onLine g := by
  obtain ⟨f, g, hf, hg, h⟩ := inject_eq k (s.onKiln k fun r => { r with state := st })
  exact ⟨f, g, hf, hg, by rw [enterKiln, h, State.onKiln_onKiln]⟩

/-! ### Reservations (R133, R134, R136) -/

/-- A granted reservation raises its count and may latch notices. -/
theorem grantReservation_eq (kind : TicketKind) (s : State) :
    ∃ g, grantReservation kind s = (s.onStore fun t => t.onKind kind (· + 1)).onNotice g := by
  unfold grantReservation
  dsimp only
  obtain ⟨low, hlow⟩ := latch_eq_onNotice srcStoreLow (s.onStore fun t => t.onKind kind (· + 1))
  split
  · rw [hlow]
    split
    · obtain ⟨full, hfull⟩ := latch_eq_onNotice srcStoreFull ((s.onStore fun t => t.onKind kind (· + 1)).onNotice low)
      exact ⟨fun c => full (low c), hfull⟩
    · exact ⟨low, rfl⟩
  · split
    · exact latch_eq_onNotice srcStoreFull _
    · exact ⟨id, rfl⟩

theorem refuseReservation_eq (s : State) : ∃ g, refuseReservation s = s.onNotice g := by
  unfold refuseReservation
  split
  · exact latch_eq_onNotice _ s
  · exact ⟨id, rfl⟩

theorem askReservation_of_grants {s : State} (kind : TicketKind) (h : s.store.grants = true) :
    askReservation kind s = (true, grantReservation kind s) := if_pos h

theorem askReservation_of_not_grants {s : State} (kind : TicketKind) (h : s.store.grants = false) :
    askReservation kind s = (false, refuseReservation s) := if_neg (by simp [h])

/-- A picker that may have been woken (R47, R136). -/
def MaybeWoken (r t : Picker) : Prop := ∃ w, t = { r with woken := w }

theorem MaybeWoken.refl (r : Picker) : MaybeWoken r r := ⟨r.woken, rfl⟩

theorem MaybeWoken.trans {r t u : Picker} (h : MaybeWoken r t) (h' : MaybeWoken t u) : MaybeWoken r u := by
  obtain ⟨_, rfl⟩ := h
  obtain ⟨w, rfl⟩ := h'
  exact ⟨w, rfl⟩

theorem picker_wakeStore (s : State) (p : PickerId) : MaybeWoken (s.picker p) ((wakeStore s).picker p) := by
  have wake (r : Picker) : MaybeWoken r (if r.reasons.noTicketSlot then { r with woken := true } else r) := by
    split
    · exact ⟨true, rfl⟩
    · exact .refl r
  cases p
  · exact wake s.pickers.p1
  · exact wake s.pickers.p2

theorem picker_returnReservation (kind : TicketKind) (s : State) (p : PickerId) :
    MaybeWoken (s.picker p) ((returnReservation kind s).picker p) := by
  have h := picker_wakeStore (s.onStore fun t => t.onKind kind (· - 1)) p
  rwa [State.onStore_picker_keep] at h

end Sys2Proof.Machine
end

section
namespace Sys2Proof.Machine

/-! ### Lots and charges written -/

/-- A change of a lot changes the Lot Table alone. -/
theorem State.onLot_eq_withLots (s : State) (n : Nat) (f : Lot → Lot) : ∃ l, s.onLot n f = s.withLots l := by
  unfold State.onLot
  split
  · exact ⟨_, rfl⟩
  · exact ⟨s.lots, rfl⟩

theorem State.lot_onLot_same (s : State) (n : Nat) (f : Lot → Lot) : (s.onLot n f).lot n = (s.lot n).map f := by
  unfold State.onLot
  split
  · rename_i l h
    rw [h]
    exact tableGet_tablePut_self _ _ _
  · rename_i h
    rw [h]
    rfl

theorem State.lot_onLot_other (s : State) {n m : Nat} (f : Lot → Lot) (h : n ≠ m) : (s.onLot n f).lot m = s.lot m := by
  unfold State.onLot
  split
  · exact tableGet_tablePut_of_ne _ _ h
  · rfl

/-- A change of a charge changes the records of the Charge Pool alone. -/
theorem State.onCharge_eq_onPool (s : State) (n : Nat) (f : Charge → Charge) :
    ∃ l, s.onCharge n f = s.onPool fun p => { p with records := l } := by
  unfold State.onCharge
  split
  · exact ⟨_, rfl⟩
  · exact ⟨s.pool.records, rfl⟩

theorem State.charge_onCharge_same (s : State) (n : Nat) (f : Charge → Charge) :
    (s.onCharge n f).charge n = (s.charge n).map f := by
  unfold State.onCharge
  split
  · rename_i c h
    rw [h]
    exact tableGet_tablePut_self _ _ _
  · rename_i h
    rw [h]
    rfl

theorem State.charge_onCharge_other (s : State) {n m : Nat} (f : Charge → Charge) (h : n ≠ m) :
    (s.onCharge n f).charge m = s.charge m := by
  unfold State.onCharge
  split
  · exact tableGet_tablePut_of_ne _ _ h
  · rfl

/-! ### Floor slots -/

@[simp] theorem Ring.upper_setSlot_top (r : Ring) (v : Slot) : (r.setSlot r.top v).upper = v := by
  unfold Ring.setSlot
  split
  · simp [Ring.upper, Ring.slot, *]
  · split <;> simp [Ring.upper, Ring.slot, *]

/-! ### A completed opening (R48, step 6) -/

/-- The kiln of a completed opening, but for its injection. -/
def Kiln.opened (n : Nat) (r : Kiln) : Kiln :=
  { r with
    state := .loading
    capture := none
    awaitingStart := none
    overdue := false
    ring := { r.ring.setSlot r.ring.top (.loading n) with offered := false, declined := [] } }

theorem Kiln.opened_upper (n : Nat) (r : Kiln) : (r.opened n).ring.upper = .loading n := r.ring.upper_setSlot_top (.loading n)

/-- The picker of a completed opening. -/
def Picker.opened (n : Nat) (r : Picker) : Picker :=
  { r with
    state := .running
    loading := some n
    reasons := { r.reasons with noFloor := false, noTicketSlot := false }
    waitStart := none
    distributorOwed := false }

/-- The Distributor command of R48 waits in a line. -/
def State.distributed (s : State) (p : PickerId) (k : KilnId) (l : Line) : Prop :=
  ∀ st, s.bound .distributor (.picker p) = some st → ∃ e ∈ l.ownDown, e.frame = ownCommand st (kilnIndex k + 1)

theorem queueDistributor_waits (p : PickerId) (k : KilnId) {s : State} (h : s.downFree = true) :
    s.distributed p k (queueDistributor p k s).line := by
  intro st hst
  have hplace : s.line.ownDown.length < Config.ownDownPlaces :=
    Nat.lt_trans (of_decide_eq_true h) (by decide)
  refine ⟨{ frame := ownCommand st (kilnIndex k + 1), safety := false, injected := false }, ?_, rfl⟩
  simp only [queueDistributor, hst, queueDown, State.onLine_line, if_pos hplace]
  exact List.mem_append_right _ (List.mem_singleton_self _)

/-- What a completed opening changes: the Charge Pool, its lot, its picker, its kiln and the Own queue down, in which the
Distributor command waits. -/
theorem completeOpening_eq (p : PickerId) (k : KilnId) (lot : Nat) {s : State} (h : s.downFree = true) :
    ∃ f g, OnlyInjection f ∧ s.distributed p k (g s.line) ∧
      completeOpening p k lot s =
        ((((claimOpening lot (s.onPool fun t =>
          { records := tablePut t.records s.chargeNumber (.opened lot p k), next := nextNumber s.chargeNumber })).onPicker p
            (Picker.opened s.chargeNumber)).onKiln k fun r => f (r.opened s.chargeNumber)).onLine g) := by
  unfold completeOpening claimOpening
  obtain ⟨l, hl⟩ := State.onLot_eq_withLots (s.onPool fun t =>
    { records := tablePut t.records s.chargeNumber (.opened lot p k), next := nextNumber s.chargeNumber }) lot
    fun l => { l with opened := l.opened + 1, live := l.live + 1, state := .active }
  dsimp only
  rw [hl]
  generalize hu : State.onPicker (State.onRing _ k _) p _ = u
  have hdown : u.downFree = true := by subst hu; exact h
  have hwaits := queueDistributor_waits p k hdown
  obtain ⟨g, _, hg⟩ := queueDistributor_eq_onLine p k u
  obtain ⟨f, g', hf, hg', hk⟩ := enterKiln_eq k .loading ((enterRunning p (u.onLine g)).onKiln k fun r =>
    { r with capture := none, awaitingStart := none, overdue := false })
  refine ⟨f, fun l => g' (g l), hf, fun st hst => ?_, ?_⟩
  · obtain ⟨more, hmore⟩ := hg' (g s.line)
    obtain ⟨e, he, hframe⟩ := hwaits st (by subst hu; exact hst)
    refine ⟨e, ?_, hframe⟩
    rw [hg] at he
    subst hu
    show e ∈ (g' (g s.line)).ownDown
    rw [hmore]
    exact List.mem_append_left _ he
  · rw [hg, enterLoading, hk, ← hu]
    simp only [enterRunning, State.onRing, State.onLine_onPicker, State.onKiln_onPicker, State.onLine_onKiln,
      State.onPicker_onPicker, State.onKiln_onKiln, State.onLine_onLine]
    rfl

end Sys2Proof.Machine
end

section
namespace Sys2Proof.Machine

/-! ### Opening attempts (R47, R48) -/

/-- R47: an attempt ends a wake and a repeat still due. -/
def State.attempting (s : State) (p : PickerId) : State := s.onPicker p fun r => { r with woken := false, retryFrom := none }

/-- R48: an attempt whose steps 1 to 5 succeed. -/
theorem tryOpen_of_mayOpen {s : State} {p : PickerId} {k : KilnId} {lot : Nat} {target : OpeningTarget} (h : s.mayOpen p lot)
    (hk : s.floorFor p target = some k) (hfloor : (grantReservation .charge (s.attempting p)).floorFor p target = s.floorFor p target) :
    (tryOpen p target s).2 = completeOpening p k lot (grantReservation .charge (s.attempting p)) := by
  obtain ⟨hlot, hdown, hgrants, hrecords, husable⟩ := h
  have hask := askReservation_of_grants (s := s.attempting p) .charge hgrants
  obtain ⟨g, hg⟩ := grantReservation_eq .charge (s.attempting p)
  have hfree : (s.attempting p).downFree = true := decide_eq_true hdown
  have hpool : (grantReservation .charge (s.attempting p)).pool.records.length < Config.chargePlaces := by
    rw [hg]; exact hrecords
  have husable' : (grantReservation .charge (s.attempting p)).lotUsable lot = true := by rw [hg]; exact husable
  unfold tryOpen
  simp only [hlot]
  rw [← State.attempting, if_pos hfree, hask]
  simp only [if_pos hpool, hfloor, hk, if_pos husable']

/-- R48, R85: a completed attempt leaves the parts it reaches as the statements say. -/
theorem openedAs_of_mayOpen {s : State} {p : PickerId} {k : KilnId} {lot : Nat} (h : s.mayOpen p lot) :
    s.openedAs (completeOpening p k lot (grantReservation .charge (s.attempting p))) p k lot := by
  obtain ⟨_, hdown, _, _, _⟩ := h
  obtain ⟨n, hn⟩ := grantReservation_eq .charge (s.attempting p)
  have hfree : (grantReservation .charge (s.attempting p)).downFree = true := by rw [hn]; exact decide_eq_true hdown
  obtain ⟨f, g, hf, hwaits, heq⟩ := completeOpening_eq p k lot hfree
  rw [heq]
  have hlot := State.lot_onLot_same ((grantReservation .charge (s.attempting p)).onPool fun t =>
    { records := tablePut t.records s.chargeNumber (.opened lot p k), next := nextNumber s.chargeNumber }) lot
    fun l => { l with opened := l.opened + 1, live := l.live + 1, state := .active }
  obtain ⟨l, hl⟩ := State.onLot_eq_withLots ((grantReservation .charge (s.attempting p)).onPool fun t =>
    { records := tablePut t.records s.chargeNumber (.opened lot p k), next := nextNumber s.chargeNumber }) lot
    fun l => { l with opened := l.opened + 1, live := l.live + 1, state := .active }
  have hnumber : (grantReservation .charge (s.attempting p)).chargeNumber = s.chargeNumber := by rw [hn]; rfl
  rw [hnumber, claimOpening]
  rw [hl] at hlot ⊢
  rw [hn] at hlot hwaits ⊢
  simp only [State.openedAs]
  refine ⟨?_, ?_, ?_, ?_, ?_, ?charge, rfl, ?upper, ?kiln, rfl, hlot, hwaits⟩
  case charge => exact tableGet_tablePut_self _ _ _
  case upper => rw [State.onLine_kiln_keep, State.kiln_onKiln_same, hf.ring, Kiln.opened_upper]
  case kiln => rw [State.onLine_kiln_keep, State.kiln_onKiln_same, hf.state]; rfl
  all_goals simp [Picker.opened]

end Sys2Proof.Machine
end

section
namespace Sys2Proof.Machine

/-! ### Offers (R49) -/

/-- R49: a picker stands in the wait order of a kiln. -/
def State.waitsOn (s : State) (p : PickerId) (k : KilnId) : Bool := (s.picker p).waitsForFloor && inRoute (s.picker p).config k

/-- R49: the first of two in an order that waits and has not declined. -/
theorem find_filter_pair {α : Type} [DecidableEq α] {waits asks : α → Bool} {a b : α} (h : a ≠ b) :
    ((([a, b].filter waits).find? asks = some a ↔ waits a = true ∧ asks a = true) ∧
      (([a, b].filter waits).find? asks = some b ↔
        waits b = true ∧ asks b = true ∧ (waits a = false ∨ asks a = false))) := by
  cases ha : waits a <;> cases hb : waits b <;> cases hc : asks a <;> cases hd : asks b <;> simp [*, h.symm]

/-- R49: P2 stands before P1 in the wait order where its wait began earlier. -/
def State.secondFirst (s : State) : Prop := (s.picker .p2).waitStart.getD s.now < (s.picker .p1).waitStart.getD s.now

theorem waitOrder_of_secondFirst {s : State} (k : KilnId) (h : s.secondFirst) :
    s.waitOrder k = [.p2, .p1].filter fun p => s.waitsOn p k := by
  simp only [State.waitOrder, if_pos (show _ < _ from h)]
  rfl

theorem waitOrder_of_not_secondFirst {s : State} (k : KilnId) (h : ¬s.secondFirst) :
    s.waitOrder k = [.p1, .p2].filter fun p => s.waitsOn p k := by
  simp only [State.waitOrder, if_neg (show ¬_ < _ from h)]
  rfl

theorem passedOver_p1_iff (s : State) (k : KilnId) : s.passedOver .p1 k = true ↔ s.waitsOn .p2 k = true ∧ s.secondFirst := by
  unfold State.passedOver
  dsimp only [otherPicker]
  simp [State.waitsOn, State.secondFirst]

theorem passedOver_p2_iff (s : State) (k : KilnId) : s.passedOver .p2 k = true ↔ s.waitsOn .p1 k = true ∧ ¬s.secondFirst := by
  unfold State.passedOver
  dsimp only [otherPicker]
  simp only [State.waitsOn, State.secondFirst, Bool.and_eq_true, Bool.or_eq_true,
    decide_eq_true_eq, beq_self_eq_true, and_true, Nat.not_lt, Nat.le_iff_lt_or_eq]

/-- R49: the picker a kiln stands offered to: it waits for the kiln, its attempt has not failed, and no other that waits
stands before it but one whose attempt has failed. -/
theorem offerNext_eq_some_iff (s : State) (p : PickerId) (k : KilnId) :
    s.offerNext k = some p ↔ (s.kiln k).ring.offered = true ∧ p ∉ (s.kiln k).ring.declined ∧
      s.waitsOn p k = true ∧ (s.passedOver p k = false ∨ otherPicker p ∈ (s.kiln k).ring.declined) := by
  unfold State.offerNext
  split
  · rename_i hoffered
    by_cases h : s.secondFirst
    · obtain ⟨hp2, hp1⟩ := find_filter_pair (waits := fun p => s.waitsOn p k)
        (asks := fun p => !(s.kiln k).ring.declined.contains p) (a := PickerId.p2) (b := .p1) (by decide)
      rw [waitOrder_of_secondFirst k h]
      cases p with
      | p1 =>
        rw [hp1, ← Bool.not_eq_true (s.passedOver _ _), passedOver_p1_iff]
        simp [hoffered, h, otherPicker, and_left_comm]
      | p2 =>
        rw [hp2, ← Bool.not_eq_true (s.passedOver _ _), passedOver_p2_iff]
        simp [hoffered, h, and_comm]
    · obtain ⟨hp1, hp2⟩ := find_filter_pair (waits := fun p => s.waitsOn p k)
        (asks := fun p => !(s.kiln k).ring.declined.contains p) (a := PickerId.p1) (b := .p2) (by decide)
      rw [waitOrder_of_not_secondFirst k h]
      cases p with
      | p1 =>
        rw [hp1, ← Bool.not_eq_true (s.passedOver _ _), passedOver_p1_iff]
        simp [hoffered, h, and_comm]
      | p2 =>
        rw [hp2, ← Bool.not_eq_true (s.passedOver _ _), passedOver_p2_iff]
        simp [hoffered, h, otherPicker, and_left_comm]
  · rename_i hoffered
    simp [hoffered]

end Sys2Proof.Machine
end

section
namespace Sys2Proof.Machine

/-! ### The floor of an attempt (R48, step 4) -/

theorem allKilns_split (k : KilnId) :
    ∃ before after, allKilns = before ++ k :: after ∧ ∀ j ∈ before, kilnIndex j < kilnIndex k := by
  refine ⟨allKilns.take (kilnIndex k), allKilns.drop (kilnIndex k + 1), ?_, ?_⟩ <;> cases k <;> decide

/-- R48, R49: the lowest-numbered kiln the picker may claim. -/
theorem floorFor_own {s : State} {p : PickerId} {k : KilnId} (hroute : inRoute (s.picker p).config k = true)
    (hclaim : (s.kiln k).claimable = true) (hpass : s.passedOver p k = false)
    (hlower : ∀ j, kilnIndex j < kilnIndex k →
      inRoute (s.picker p).config j = false ∨ (s.kiln j).claimable = false ∨ s.passedOver p j = true) :
    s.floorFor p .own = some k := by
  obtain ⟨before, after, hsplit, hbefore⟩ := allKilns_split k
  refine List.find?_eq_some_iff_append.mpr ⟨by simp [hroute, hclaim, hpass], before, after, hsplit, fun j hj => ?_⟩
  rcases hlower j (hbefore j hj) with h | h | h <;> simp [h]

theorem floorFor_offered {s : State} {p : PickerId} {k : KilnId} (hroute : inRoute (s.picker p).config k = true)
    (hclaim : (s.kiln k).claimable = true) : s.floorFor p (.offered k) = some k := by
  simp [State.floorFor, hroute, hclaim]

/-- An attempt's reservation and the wake it ends do not bear on the floor it finds. -/
theorem floorFor_attempting (s : State) (p : PickerId) (target : OpeningTarget) :
    (grantReservation .charge (s.attempting p)).floorFor p target = s.floorFor p target := by
  obtain ⟨n, hn⟩ := grantReservation_eq .charge (s.attempting p)
  rw [hn]
  cases p <;> cases target <;> rfl

/-- R48: an attempt whose steps all succeed completes on the floor it finds. -/
theorem tryOpen_openedAs {s : State} {p : PickerId} {k : KilnId} {lot : Nat} {target : OpeningTarget} (h : s.mayOpen p lot)
    (hk : s.floorFor p target = some k) : s.openedAs (tryOpen p target s).2 p k lot := by
  rw [tryOpen_of_mayOpen h hk (floorFor_attempting s p target)]
  exact openedAs_of_mayOpen h

/-! ### Offers taken (R49) -/

/-- A ring changed in nothing but its offer. -/
def OnlyOffer (f : Ring → Ring) : Prop := ∀ r, ∃ x y, f r = { r with offered := x, declined := y }

/-- R49: the offer settled changes the offer of its kiln alone, and is over where no picker is left for it. -/
theorem settleOffer_eq (k : KilnId) (s : State) : ∃ f, OnlyOffer f ∧ settleOffer k s = s.onRing k f := by
  unfold settleOffer
  split
  · exact ⟨_, fun _ => ⟨_, _, rfl⟩, rfl⟩
  · exact ⟨fun r => r, fun r => ⟨r.offered, r.declined, rfl⟩, (s.onKiln_id k).symm⟩

/-- The end of an offer does not bear on an opening. -/
theorem openedAs_settleOffer {s t : State} {p : PickerId} {k : KilnId} {lot : Nat} (h : s.openedAs t p k lot) :
    s.openedAs (settleOffer k t) p k lot := by
  obtain ⟨f, hf, heq⟩ := settleOffer_eq k t
  obtain ⟨x, y, hring⟩ := hf (t.kiln k).ring
  have hkiln : (t.onRing k f).kiln k = { t.kiln k with ring := { (t.kiln k).ring with offered := x, declined := y } } := by
    rw [State.kiln_onRing_same, hring]
  have hpicker : (t.onRing k f).picker p = t.picker p := by simp [State.onRing]
  rw [heq, State.openedAs, hkiln, hpicker]
  exact h

/-- The mark of an attempt in the offer's list does not bear on what may be opened. -/
theorem openedAs_of_declined {s t : State} {p : PickerId} {k : KilnId} {lot : Nat} {f : Ring → Ring}
    (h : (s.onRing k f).openedAs t p k lot) : s.openedAs t p k lot := h

/-- R49: what taking an offer is, for the picker it stands offered to. -/
theorem takeOffer_of_offered {s : State} {p : PickerId} {k : KilnId} (h : s.offerNext k = some p) :
    takeOffer p k s = settleOffer k
      (if ((s.onRing k fun r => { r with declined := r.declined ++ [p] }).picker p).needsCharge then
        (tryOpen p (.offered k) (s.onRing k fun r => { r with declined := r.declined ++ [p] })).2
      else s.onRing k fun r => { r with declined := r.declined ++ [p] }) := if_pos h

theorem takeOffer_of_not_offered {s : State} {p : PickerId} {k : KilnId} (h : s.offerNext k ≠ some p) :
    takeOffer p k s = s := if_neg h

/-- R48, R49: an attempt at an offer completes on the kiln offered. -/
theorem takeOffer_openedAs {s : State} {p : PickerId} {k : KilnId} {lot : Nat} (h : s.mayOpen p lot)
    (hoffer : s.offerNext k = some p) (hneeds : (s.picker p).needsCharge = true)
    (hroute : inRoute (s.picker p).config k = true) (hclaim : (s.kiln k).claimable = true) :
    s.openedAs (takeOffer p k s) p k lot := by
  have hpicker : (s.onRing k fun r => { r with declined := r.declined ++ [p] }).picker p = s.picker p := by
    simp [State.onRing]
  have hmay : (s.onRing k fun r => { r with declined := r.declined ++ [p] }).mayOpen p lot := by
    rw [State.mayOpen, hpicker]
    exact h
  have hfloor : (s.onRing k fun r => { r with declined := r.declined ++ [p] }).floorFor p (.offered k) = some k := by
    refine floorFor_offered (by rw [hpicker]; exact hroute) ?_
    rw [State.kiln_onRing_same]
    exact hclaim
  rw [takeOffer_of_offered hoffer, hpicker, if_pos hneeds]
  exact openedAs_settleOffer (openedAs_of_declined (tryOpen_openedAs hmay hfloor))

end Sys2Proof.Machine
end

section
namespace Sys2Proof.Machine

/-! ### What an attempt can do (R48) -/

/-- R48: the state in which steps 3 to 6 of an attempt are taken, its reservation granted. -/
def State.reserved (s : State) (p : PickerId) : State := grantReservation .charge (s.attempting p)

/-- R48: every way an attempt for a current lot ends. It fails before its reservation or after it, completes on the floor it
finds, or is refused there for its lot. -/
theorem tryOpen_cases {s : State} {p : PickerId} {lot : Nat} (target : OpeningTarget)
    (hlot : (s.picker p).currentLot = some lot) :
    (∃ floor retry g, (tryOpen p target s).2 =
        failOpening p floor ((s.onPicker p fun r => { r with woken := false, retryFrom := retry }).onNotice g)) ∨
      (tryOpen p target s).2 = returnReservation .charge (failOpening p true (s.reserved p)) ∨
      (∃ k, s.floorFor p target = some k ∧ s.lotUsable lot = true ∧ s.downFree = true ∧
        (tryOpen p target s).2 = completeOpening p k lot (s.reserved p)) ∨
      ∃ k, s.floorFor p target = some k ∧ s.lotUsable lot = false ∧
        (tryOpen p target s).2 = refuseLot p k lot (s.reserved p) := by
  have husable : (s.reserved p).lotUsable lot = s.lotUsable lot := by
    obtain ⟨n, hn⟩ := grantReservation_eq .charge (s.attempting p)
    rw [State.reserved, hn]
    rfl
  unfold tryOpen
  simp only [hlot]
  rw [← State.attempting]
  by_cases hdown : (s.attempting p).downFree = true
  · rw [if_pos hdown]
    cases hgrants : (s.attempting p).store.grants with
    | false =>
      obtain ⟨g, hg⟩ := refuseReservation_eq (s.attempting p)
      rw [askReservation_of_not_grants _ hgrants, hg]
      exact .inl ⟨false, none, g, rfl⟩
    | true =>
      rw [askReservation_of_grants _ hgrants, ← State.reserved]
      dsimp only
      split
      · split
        · exact .inr (.inl rfl)
        · rename_i k hk
          rw [State.reserved, floorFor_attempting] at hk
          split
          · rename_i h
            exact .inr (.inr (.inl ⟨k, hk, husable ▸ h, hdown, rfl⟩))
          · rename_i h
            exact .inr (.inr (.inr ⟨k, hk, by rw [← husable]; simpa using h, rfl⟩))
      · exact .inr (.inl rfl)
  · rw [if_neg hdown]
    refine .inl ⟨true, some s.now, id, ?_⟩
    rw [State.attempting, State.onPicker_onPicker]
    rfl

/-! ### What an attempt makes of the pickers -/

/-- R39, R40: an entry to Held changes its picker's state, the Notice Latch and the line. -/
theorem enterHeld_eq (p : PickerId) (s : State) :
    ∃ g h, enterHeld p s = ((s.onPicker p fun r => { r with state := .held }).onNotice g).onLine h := by
  unfold enterHeld
  obtain ⟨g, hg⟩ := latch_eq_onNotice (srcHeld p) (s.onPicker p fun r => { r with state := .held })
  obtain ⟨h, hh⟩ := feedStop_eq_onLine p ((s.onPicker p fun r => { r with state := .held }).onNotice g)
  exact ⟨g, h, by rw [hg, hh]⟩

/-- A picker that holds, with the entry to Held where it is not Held yet. -/
theorem holdUnlessHeld_eq (p : PickerId) (s : State) :
    ∃ g h, (if (s.picker p).state = .held then s else enterHeld p s) =
      ((s.onPicker p fun r => { r with state := .held }).onNotice g).onLine h := by
  split
  · rename_i hheld
    refine ⟨id, id, ?_⟩
    rw [State.onPicker_eq_self (by rw [← hheld])]
    rfl
  · exact enterHeld_eq p s

/-- The picker of an attempt that fails with NoFloor or NoTicketSlot at a moment. -/
def Picker.openingFailed (floor : Bool) (now : Nat) (r : Picker) : Picker :=
  { r with
    state := .held
    reasons := { r.reasons with noFloor := floor, noTicketSlot := !floor }
    waitStart := some (r.waitStart.getD now) }

/-- R48: a failed attempt changes its picker, the Notice Latch and the line. -/
theorem failOpening_eq (p : PickerId) (floor : Bool) (s : State) :
    ∃ g h, failOpening p floor s = ((s.onPicker p (Picker.openingFailed floor s.now)).onNotice g).onLine h := by
  obtain ⟨g, h, heq⟩ := holdUnlessHeld_eq p (s.onPicker p fun r =>
    { r with
      reasons := { r.reasons with noFloor := floor, noTicketSlot := !floor }
      waitStart := some (r.waitStart.getD s.now) })
  exact ⟨g, h, by rw [failOpening, heq, State.onPicker_onPicker]; rfl⟩

/-- The picker of an attempt refused for its lot. -/
def Picker.lotRefused (lot : Nat) (r : Picker) : Picker :=
  { r with
    state := .held
    reasons := { r.reasons with noFloor := false, noTicketSlot := false, unknownLot := true }
    refusedLot := some lot }

/-- R48, R67, R134: an attempt refused for its lot changes its picker, the Notice Latch and the line, offers the kiln to the
other picker and returns its reservation. -/
theorem refuseLot_eq (p : PickerId) (k : KilnId) (lot : Nat) (s : State) :
    ∃ g h, refuseLot p k lot s = returnReservation .charge
      (offerToOthers k p (((s.onPicker p (Picker.lotRefused lot)).onNotice g).onLine h)) := by
  obtain ⟨g, hg⟩ := latch_eq_onNotice (srcUnknownLot p) (s.onPicker p fun r =>
    { r with
      reasons := { r.reasons with noFloor := false, noTicketSlot := false, unknownLot := true }
      refusedLot := some lot })
  obtain ⟨g', h, heq⟩ := holdUnlessHeld_eq p ((s.onPicker p fun r =>
    { r with
      reasons := { r.reasons with noFloor := false, noTicketSlot := false, unknownLot := true }
      refusedLot := some lot }).onNotice g)
  refine ⟨fun c => g' (g c), h, ?_⟩
  unfold refuseLot
  dsimp only
  rw [hg, heq]
  congr 2
  rw [show (State.onNotice _ g).onPicker p _ = (State.onPicker _ p _).onNotice g from rfl, State.onPicker_onPicker]
  rfl

end Sys2Proof.Machine
end

section
namespace Sys2Proof.Machine

/-! ### An offer whose attempt has failed (R49) -/

/-- R49: the picker stands in no offer of the kiln: its attempt has failed, or the offer is over. -/
def State.outOfOffer (s : State) (p : PickerId) (k : KilnId) : Prop :=
  p ∈ (s.kiln k).ring.declined ∨ (s.kiln k).ring.offered = false

theorem offerNext_ne_of_outOfOffer {s : State} {p : PickerId} {k : KilnId} (h : s.outOfOffer p k) : s.offerNext k ≠ some p := by
  rw [Ne, offerNext_eq_some_iff]
  rintro ⟨hoffered, hdeclined, _⟩
  rcases h with h | h
  · exact hdeclined h
  · simp [hoffered] at h

theorem settleOffer_outOfOffer {s : State} {p : PickerId} {k : KilnId} (h : s.outOfOffer p k) :
    (settleOffer k s).outOfOffer p k := by
  unfold settleOffer
  split
  · exact .inr (by rw [State.kiln_onRing_same])
  · exact h

theorem offerToOthers_outOfOffer (s : State) (p : PickerId) (k : KilnId) : (offerToOthers k p s).outOfOffer p k :=
  settleOffer_outOfOffer (.inl (by rw [State.kiln_onRing_same]; exact List.mem_singleton_self p))

theorem failOpening_kilns (p : PickerId) (floor : Bool) (s : State) : (failOpening p floor s).kilns = s.kilns := by
  obtain ⟨g, h, heq⟩ := failOpening_eq p floor s
  rw [heq]
  rfl

theorem returnReservation_kilns (kind : TicketKind) (s : State) : (returnReservation kind s).kilns = s.kilns := rfl

theorem State.reserved_kilns (s : State) (p : PickerId) : (s.reserved p).kilns = s.kilns := by
  obtain ⟨n, hn⟩ := grantReservation_eq .charge (s.attempting p)
  rw [State.reserved, hn]
  rfl

theorem State.outOfOffer_congr {s t : State} {p : PickerId} {k : KilnId} (h : t.kilns = s.kilns) (hs : s.outOfOffer p k) :
    t.outOfOffer p k := by
  have hk : t.kiln k = s.kiln k := by cases k <;> simp only [State.kiln, h]
  rwa [State.outOfOffer, hk]

/-- R48: the picker of a completed opening. -/
theorem picker_completeOpening (p : PickerId) (k : KilnId) (lot : Nat) {s : State} (h : s.downFree = true) :
    (completeOpening p k lot s).picker p = (s.picker p).opened s.chargeNumber := by
  obtain ⟨f, g, _, _, heq⟩ := completeOpening_eq p k lot h
  obtain ⟨l, hl⟩ := State.onLot_eq_withLots (s.onPool fun t =>
    { records := tablePut t.records s.chargeNumber (.opened lot p k), next := nextNumber s.chargeNumber }) lot
    fun l => { l with opened := l.opened + 1, live := l.live + 1, state := .active }
  rw [heq, claimOpening, hl]
  simp

theorem State.reserved_downFree (s : State) (p : PickerId) : (s.reserved p).downFree = s.downFree := by
  obtain ⟨n, hn⟩ := grantReservation_eq .charge (s.attempting p)
  rw [State.reserved, hn]
  rfl

/-- R49: an attempt at an offer that leaves its picker without a charge leaves it in the offer no longer. -/
theorem tryOpen_offered_outOfOffer {s : State} {p : PickerId} {k : KilnId} (hs : s.outOfOffer p k)
    (hloading : ((tryOpen p (.offered k) s).2.picker p).loading = none) : (tryOpen p (.offered k) s).2.outOfOffer p k := by
  cases hlot : (s.picker p).currentLot with
  | none =>
    have : (tryOpen p (.offered k) s).2 = s := by simp [tryOpen, hlot]
    rwa [this]
  | some lot =>
    rcases tryOpen_cases (.offered k) hlot with ⟨floor, retry, g, h⟩ | h | ⟨j, _, _, hdown, h⟩ | ⟨j, hj, _, h⟩
    · rw [h]
      refine State.outOfOffer_congr ?_ hs
      rw [failOpening_kilns, State.onNotice_kilns, State.onPicker_kilns]
    · rw [h]
      refine State.outOfOffer_congr ?_ hs
      rw [returnReservation_kilns, failOpening_kilns, State.reserved_kilns]
    · rw [h, picker_completeOpening p j lot ((s.reserved_downFree p).trans hdown)] at hloading
      simp [Picker.opened] at hloading
    · obtain rfl : k = j := by
        unfold State.floorFor at hj
        dsimp only at hj
        split at hj
        · exact Option.some.inj hj
        · cases hj
      obtain ⟨g, l, heq⟩ := refuseLot_eq p k lot (s.reserved p)
      rw [h, heq]
      exact State.outOfOffer_congr (returnReservation_kilns _ _) (offerToOthers_outOfOffer _ p k)

/-- R49: a picker whose attempt at an offer has failed stands first in it no longer. -/
theorem offerNext_takeOffer {s : State} {p : PickerId} {k : KilnId} (hoffer : s.offerNext k = some p)
    (hloading : ((takeOffer p k s).picker p).loading = none) : (takeOffer p k s).offerNext k ≠ some p := by
  have hdeclined : (s.onRing k fun r => { r with declined := r.declined ++ [p] }).outOfOffer p k :=
    .inl (by rw [State.kiln_onRing_same]; exact List.mem_append_right _ (List.mem_singleton_self p))
  have settled (t : State) : (settleOffer k t).picker p = t.picker p := by
    obtain ⟨f, _, heq⟩ := settleOffer_eq k t
    rw [heq]
    simp [State.onRing]
  rw [takeOffer_of_offered hoffer] at hloading ⊢
  rw [settled] at hloading
  refine offerNext_ne_of_outOfOffer (settleOffer_outOfOffer ?_)
  split
  · rename_i hneeds
    rw [if_pos hneeds] at hloading
    exact tryOpen_offered_outOfOffer hdeclined hloading
  · exact hdeclined

/-! ### Openings as commands -/

theorem standing_of_needsCharge {r : Picker} (h : r.needsCharge = true) (hfloor : r.reasons.noFloor = true) :
    r.waitsForFloor = true := by
  simp only [Picker.needsCharge, Bool.and_eq_true] at h
  obtain ⟨⟨⟨hheld, _⟩, _⟩, hstanding⟩ := h
  simp [Picker.waitsForFloor, hheld, hfloor, hstanding]

theorem execOpeningAttempt_own {s : State} {p : PickerId} (hwoken : (s.picker p).woken = true)
    (hneeds : (s.picker p).needsCharge = true) : exec (.openingAttempt p none) s = .next (tryOpen p .own s).2 :=
  congrArg Host.Outcome.next (if_pos (by rw [hwoken, hneeds]; rfl))

theorem execOpeningRetry_due {s : State} {p : PickerId} {n : Nat} (hretry : (s.picker p).retryFrom = some n)
    (hdue : n + 1 ≤ s.now) (hneeds : (s.picker p).needsCharge = true) :
    exec (.openingRetry p) s = .next (tryOpen p .own s).2 := by
  show execOpeningRetry p s = _
  unfold execOpeningRetry
  rw [hretry]
  exact congrArg Host.Outcome.next (if_pos ⟨hdue, hneeds⟩)

/-- Settles O34. An attempt whose guards all hold completes on the floor it finds (`tryOpen_openedAs`); which offer a picker
may take is `offerNext_eq_some_iff`, and a failed attempt marks it out of the offer (`offerNext_takeOffer`). -/
theorem openingCompletes : Obligations.OpeningCompletes := by
  unfold Obligations.OpeningCompletes
  refine ⟨fun s p k lot hmay hneeds hroute hclaim => ⟨fun hpass hlower => ?own, fun hoffered hdeclined hfloor hfirst => ?offer⟩,
    fun s p k => ⟨fun hout => ?other, fun t ht hnext hloading => ?failed⟩⟩
  case own =>
    have hopened := tryOpen_openedAs hmay (floorFor_own hroute hclaim hpass hlower)
    exact ⟨fun hwoken => ⟨_, execOpeningAttempt_own hwoken hneeds, hopened⟩,
      fun n hretry hdue => ⟨_, execOpeningRetry_due hretry hdue hneeds, hopened⟩⟩
  case offer =>
    have hwaits : s.waitsOn p k = true := by
      rw [State.waitsOn, standing_of_needsCharge hneeds hfloor, hroute]
      rfl
    exact ⟨_, rfl, takeOffer_openedAs hmay ((offerNext_eq_some_iff s p k).mpr ⟨hoffered, hdeclined, hwaits, hfirst⟩)
      hneeds hroute hclaim⟩
  case other =>
    refine congrArg Host.Outcome.next (takeOffer_of_not_offered fun hnext => ?_)
    obtain ⟨hoffered, hdeclined, hwaits, hfirst⟩ := (offerNext_eq_some_iff s p k).mp hnext
    rw [State.waitsOn, Bool.and_eq_true] at hwaits
    rcases hout with h | h | h | h | ⟨hpass, hother⟩
    · simp [hoffered] at h
    · exact hdeclined h
    · simp [hwaits.1] at h
    · simp [hwaits.2] at h
    · exact hfirst.elim (fun h => by simp [hpass] at h) hother
  case failed =>
    obtain rfl := Host.Outcome.next.inj ht
    exact offerNext_takeOffer hnext hloading

end Sys2Proof.Machine
end

section
namespace Sys2Proof.Machine

/-! ### Latched sources and issued tickets stay -/

@[simp] theorem latchedNow_latch (n : Nat) (s : State) (h : n < 77) : (latch n s).latchedNow n := by
  unfold latch State.latchedNow
  split
  · assumption
  · simp [h]

theorem latchedNow_latch_of_latchedNow {n : Nat} (m : Nat) {s : State} (h : s.latchedNow n) : (latch m s).latchedNow n := by
  unfold latch State.latchedNow at *
  split
  · exact h
  · simp [h]

theorem mem_tickets_issueTicket {k : Ticket} {s : State} (kind : TicketKind) (lot grower : Nat) (body : TicketBody)
    (h : k ∈ s.store.tickets) : k ∈ (issueTicket kind lot grower body s).store.tickets := by
  unfold issueTicket
  split
  · exact h
  · exact List.mem_append_left _ h

theorem latch_store (n : Nat) (s : State) : (latch n s).store = s.store := by
  obtain ⟨g, hg⟩ := latch_eq_onNotice n s
  rw [hg, State.onNotice_store]

theorem onLot_store (s : State) (n : Nat) (f : Lot → Lot) : (s.onLot n f).store = s.store := by
  obtain ⟨l, hl⟩ := State.onLot_eq_withLots s n f
  rw [hl, State.withLots_store]

theorem onLot_notice (s : State) (n : Nat) (f : Lot → Lot) : (s.onLot n f).notice = s.notice := by
  obtain ⟨l, hl⟩ := State.onLot_eq_withLots s n f
  rw [hl, State.withLots_notice]

theorem onCharge_store (s : State) (n : Nat) (f : Charge → Charge) : (s.onCharge n f).store = s.store := by
  obtain ⟨l, hl⟩ := State.onCharge_eq_onPool s n f
  rw [hl, State.onPool_store]

theorem onCharge_notice (s : State) (n : Nat) (f : Charge → Charge) : (s.onCharge n f).notice = s.notice := by
  obtain ⟨l, hl⟩ := State.onCharge_eq_onPool s n f
  rw [hl, State.onPool_notice]

/-- A self-poll timer started changes the channels alone. -/
theorem startPollTimer_eq_onChan (st ch i : Nat) (s : State) : ∃ g, startPollTimer st ch i s = s.onChan g := by
  unfold startPollTimer
  split
  · exact ⟨_, rfl⟩
  · exact ⟨id, rfl⟩

/-- An issue changes the Ticket Store alone. -/
theorem issueTicket_eq_onStore (kind : TicketKind) (lot grower : Nat) (body : TicketBody) (s : State) :
    ∃ g, issueTicket kind lot grower body s = s.onStore g := by
  unfold issueTicket
  split
  · exact ⟨id, rfl⟩
  · exact ⟨_, rfl⟩

/-- R141: only Ticket Take removes a ticket, so no operation of a unit does. -/
theorem mem_tickets_closed (k : Ticket) : Closed fun s => k ∈ s.store.tickets where
  kiln _ _ _ hs := hs
  picker _ _ _ hs := hs
  press _ _ _ hs := hs
  reserve kind _ hs := by cases kind <;> exact hs
  issued kind lot grower body hs := mem_tickets_issueTicket kind lot grower body hs
  transfer _ hs := hs
  ended hs := hs
  lot n f hs := by rwa [onLot_store]
  charge n f hs := by rwa [onCharge_store]
  opened _ _ _ hs := hs
  freed _ hs := hs
  watch _ _ hs := hs
  latched n hs := by rwa [latch_store]
  timer st ch i hs := by
    obtain ⟨g, hg⟩ := startPollTimer_eq_onChan st ch i _
    rwa [hg]
  down _ _ hs := hs
  safety _ hs := hs

/-- R157: only the host clears a latched source, so no operation of a unit does. -/
theorem latchedNow_closed (n : Nat) : Closed fun s => s.latchedNow n where
  kiln _ _ _ hs := hs
  picker _ _ _ hs := hs
  press _ _ _ hs := hs
  reserve _ _ hs := hs
  issued kind lot grower body hs := by
    obtain ⟨g, hg⟩ := issueTicket_eq_onStore kind lot grower body _
    rwa [hg]
  transfer _ hs := hs
  ended hs := hs
  lot n f hs := by rwa [State.latchedNow, onLot_notice]
  charge n f hs := by rwa [State.latchedNow, onCharge_notice]
  opened _ _ _ hs := hs
  freed _ hs := hs
  watch _ _ hs := hs
  latched m hs := latchedNow_latch_of_latchedNow m hs
  timer st ch i hs := by
    obtain ⟨g, hg⟩ := startPollTimer_eq_onChan st ch i _
    rwa [hg]
  down _ _ hs := hs
  safety _ hs := hs

/-! ### A feed stop waits (R40, R161) -/

theorem commandValue_ownCommand_zero (st : Nat) : commandValue (ownCommand st 0) = 0 := by
  have h := intOfBytes_fieldInt (n := 4) (v := 0) (by decide) (by decide) (by decide)
  rwa [commandValue, ownCommand, List.take_of_length_le (by simp)]

/-- R161, step 2: a waiting safety frame to the station takes the value of the new one. -/
theorem takeValue_waits {st : Nat} {e : OwnDown} (h : (e.safety && sameAddress (ownCommand st 0) e) = true) :
    (takeValue (ownCommand st 0) e).safety = true ∧ (takeValue (ownCommand st 0) e).frame.dest = st ∧
      (takeValue (ownCommand st 0) e).frame.channel = 0 ∧ commandValue (takeValue (ownCommand st 0) e).frame = 0 := by
  have haddress := h
  simp only [Bool.and_eq_true, sameAddress, beq_iff_eq] at haddress
  obtain ⟨hsafety, hdest, hchannel⟩ := haddress
  rw [takeValue, if_pos h]
  exact ⟨hsafety, hdest, hchannel, commandValue_ownCommand_zero st⟩

/-- R161: a safety frame queued waits with its value, in a place of its own or in the place of one it replaces. -/
theorem safetyWaits_queueSafety (st : Nat) (s : State) : (queueSafety (ownCommand st 0) s).safetyWaits st 0 := by
  have hnew : ∃ e : OwnDown, e = { frame := ownCommand st 0, safety := true, injected := false } ∧ e.safety = true ∧
      e.frame.dest = st ∧ e.frame.channel = 0 ∧ commandValue e.frame = 0 :=
    ⟨_, rfl, rfl, rfl, rfl, commandValue_ownCommand_zero st⟩
  obtain ⟨e, rfl, hwaits⟩ := hnew
  unfold queueSafety State.safetyWaits
  simp only [State.onLine_line]
  split
  · rename_i hany
    rcases Bool.or_eq_true_iff.mp hany with h | h
    · obtain ⟨e, he, hmatch⟩ := List.any_eq_true.mp h
      exact ⟨_, List.mem_append_left _ (List.mem_map_of_mem he), takeValue_waits hmatch⟩
    · obtain ⟨e, he, hmatch⟩ := List.any_eq_true.mp h
      exact ⟨_, List.mem_append_right _ (List.mem_map_of_mem he), takeValue_waits hmatch⟩
  · split
    · exact ⟨_, List.mem_append_left _ (List.mem_append_right _ (List.mem_singleton_self _)), hwaits⟩
    · exact ⟨_, List.mem_append_right _ (List.mem_append_right _ (List.mem_singleton_self _)), hwaits⟩

/-- R40: a feed stop waits for the FeedDrive bound to its picker. -/
theorem feedStopWaits_feedStop (p : PickerId) (s : State) : s.feedStopWaits (feedStop p s) p := by
  intro st hst
  simp only [feedStop, safetyCommand, hst]
  exact safetyWaits_queueSafety st s

/-- R39, R40: an entry to Held latches Held and stops the feed. -/
theorem enterHeld_waits (p : PickerId) (s : State) :
    s.feedStopWaits (enterHeld p s) p ∧ (enterHeld p s).latchedNow (srcHeld p) := by
  obtain ⟨g, hg⟩ := latch_eq_onNotice (srcHeld p) (s.onPicker p fun r => { r with state := .held })
  refine ⟨?_, ?_⟩
  · have h := feedStopWaits_feedStop p (latch (srcHeld p) (s.onPicker p fun r => { r with state := .held }))
    intro st hst
    exact h st (by rw [hg]; exact hst)
  · exact feedStop_closed (latchedNow_closed (srcHeld p)) p (latchedNow_latch _ _ (by cases p <;> decide))

/-! ### What an attempt makes of the pickers -/

/-- R48: what an attempt makes of its picker: it completes, fails, or is refused for a lot that is not usable. -/
inductive Attempted (lot : Nat) (usable : Bool) (r : Picker) : Picker → Prop
  | opened (n : Nat) : Attempted lot usable r { r.opened n with woken := false, retryFrom := none }
  | failed (floor : Bool) (now : Nat) (w : Bool) (retry : Option Nat) :
      Attempted lot usable r { r.openingFailed floor now with woken := w, retryFrom := retry }
  | refused (w : Bool) (h : usable = false) :
      Attempted lot usable r { r.lotRefused lot with woken := w, retryFrom := none }

theorem State.picker_reserved_same (s : State) (p : PickerId) :
    (s.reserved p).picker p = { s.picker p with woken := false, retryFrom := none } := by
  obtain ⟨n, hn⟩ := grantReservation_eq .charge (s.attempting p)
  rw [State.reserved, hn]
  simp [State.attempting]

theorem State.picker_reserved_other (s : State) {p q : PickerId} (h : q ≠ p) : (s.reserved p).picker q = s.picker q := by
  obtain ⟨n, hn⟩ := grantReservation_eq .charge (s.attempting p)
  rw [State.reserved, hn]
  simp [State.attempting, h]

theorem picker_failOpening_same (p : PickerId) (floor : Bool) (s : State) :
    (failOpening p floor s).picker p = (s.picker p).openingFailed floor s.now := by
  obtain ⟨g, h, heq⟩ := failOpening_eq p floor s
  rw [heq]
  simp

theorem picker_failOpening_other {p q : PickerId} (floor : Bool) (s : State) (h : q ≠ p) :
    (failOpening p floor s).picker q = s.picker q := by
  obtain ⟨g, l, heq⟩ := failOpening_eq p floor s
  rw [heq]
  simp [h]

theorem picker_offerToOthers (k : KilnId) (p q : PickerId) (s : State) : (offerToOthers k p s).picker q = s.picker q := by
  obtain ⟨f, _, heq⟩ := settleOffer_eq k (s.onRing k fun r => { r with offered := true, declined := [p] })
  rw [offerToOthers, openOffer, heq]
  simp [State.onRing]

theorem picker_refuseLot_same (p : PickerId) (k : KilnId) (lot : Nat) (s : State) :
    MaybeWoken ((s.picker p).lotRefused lot) ((refuseLot p k lot s).picker p) := by
  obtain ⟨g, l, heq⟩ := refuseLot_eq p k lot s
  have h := picker_returnReservation .charge (offerToOthers k p (((s.onPicker p (Picker.lotRefused lot)).onNotice g).onLine l)) p
  rw [picker_offerToOthers] at h
  rw [heq]
  simpa using h

theorem picker_refuseLot_other {p q : PickerId} (k : KilnId) (lot : Nat) (s : State) (hq : q ≠ p) :
    MaybeWoken (s.picker q) ((refuseLot p k lot s).picker q) := by
  obtain ⟨g, l, heq⟩ := refuseLot_eq p k lot s
  have h := picker_returnReservation .charge (offerToOthers k p (((s.onPicker p (Picker.lotRefused lot)).onNotice g).onLine l)) q
  rw [picker_offerToOthers] at h
  rw [heq]
  simpa [hq] using h

theorem picker_completeOpening_other {p q : PickerId} (k : KilnId) (lot : Nat) {s : State} (h : s.downFree = true)
    (hq : q ≠ p) : (completeOpening p k lot s).picker q = s.picker q := by
  obtain ⟨f, g, _, _, heq⟩ := completeOpening_eq p k lot h
  obtain ⟨l, hl⟩ := State.onLot_eq_withLots (s.onPool fun t =>
    { records := tablePut t.records s.chargeNumber (.opened lot p k), next := nextNumber s.chargeNumber }) lot
    fun l => { l with opened := l.opened + 1, live := l.live + 1, state := .active }
  rw [heq, claimOpening, hl]
  simp [hq]

/-- R48: what an attempt makes of its picker. -/
theorem tryOpen_attempted {s : State} {p : PickerId} {lot : Nat} (target : OpeningTarget)
    (hlot : (s.picker p).currentLot = some lot) :
    Attempted lot (s.lotUsable lot) (s.picker p) ((tryOpen p target s).2.picker p) := by
  rcases tryOpen_cases target hlot with ⟨floor, retry, g, h⟩ | h | ⟨k, _, _, hdown, h⟩ | ⟨k, _, husable, h⟩
  · rw [h, picker_failOpening_same]
    simp only [State.onNotice_picker_keep, State.picker_onPicker_same]
    exact .failed floor _ false retry
  · obtain ⟨w, hw⟩ := picker_returnReservation .charge (failOpening p true (s.reserved p)) p
    rw [h, hw, picker_failOpening_same, State.picker_reserved_same]
    exact .failed true _ w none
  · rw [h, picker_completeOpening p k lot ((s.reserved_downFree p).trans hdown), State.picker_reserved_same]
    exact .opened _
  · obtain ⟨w, hw⟩ := picker_refuseLot_same p k lot (s.reserved p)
    rw [h, hw, State.picker_reserved_same]
    exact .refused w husable

/-- R48: an attempt does no more to the other picker than wake it. -/
theorem tryOpen_picker_other {s : State} {p q : PickerId} (target : OpeningTarget) (hq : q ≠ p) :
    MaybeWoken (s.picker q) ((tryOpen p target s).2.picker q) := by
  cases hlot : (s.picker p).currentLot with
  | none =>
    rw [show (tryOpen p target s).2 = s by simp [tryOpen, hlot]]
    exact .refl _
  | some lot =>
    rcases tryOpen_cases target hlot with ⟨floor, retry, g, h⟩ | h | ⟨k, _, _, hdown, h⟩ | ⟨k, _, _, h⟩
    · rw [h, picker_failOpening_other floor _ hq]
      simpa [hq] using MaybeWoken.refl (s.picker q)
    · have hw := picker_returnReservation .charge (failOpening p true (s.reserved p)) q
      rwa [picker_failOpening_other true _ hq, s.picker_reserved_other hq, ← h] at hw
    · rw [h, picker_completeOpening_other k lot ((s.reserved_downFree p).trans hdown) hq, s.picker_reserved_other hq]
      exact .refl _
    · have hw := picker_refuseLot_other k lot (s.reserved p) hq
      rwa [s.picker_reserved_other hq, ← h] at hw

end Sys2Proof.Machine
end

section
namespace Sys2Proof.Machine

/-! ### What an attempt keeps of its picker -/

section
variable {lot : Nat} {usable : Bool} {r t : Picker} (h : Attempted lot usable r t)
include h

/-- An attempt keeps what the cards and the requests have left at its picker. -/
theorem Attempted.keeps : t.currentLot = r.currentLot ∧ t.pendingLot = r.pendingLot ∧
    t.reasons.sensorLost = r.reasons.sensorLost := by
  cases h <;> exact ⟨rfl, rfl, rfl⟩

/-- An attempt for a usable lot adds no UnknownLot. -/
theorem Attempted.keeps_unknownLot (husable : usable = true) :
    t.reasons.unknownLot = r.reasons.unknownLot ∧ t.refusedLot = r.refusedLot := by
  cases h with
  | opened n => exact ⟨rfl, rfl⟩
  | failed floor now w retry => exact ⟨rfl, rfl⟩
  | refused w hlot => simp [husable] at hlot

/-- An attempt leaves its picker Running with a charge, or Held with what it had loading. -/
theorem Attempted.state : (t.state = .running ∧ t.loading ≠ none) ∨ (t.state = .held ∧ t.loading = r.loading) := by
  cases h with
  | opened n => exact .inl ⟨rfl, Option.some_ne_none n⟩
  | failed floor now w retry => exact .inr ⟨rfl, rfl⟩
  | refused w hlot => exact .inr ⟨rfl, rfl⟩

end

/-! ### A picker that may go on (R39) -/

/-- R47: without a current lot an attempt does nothing. -/
theorem openOwn_of_none {s : State} {p : PickerId} (h : (s.picker p).currentLot = none) : openOwn p s = s := by
  simp [openOwn, tryOpen, h]

/-- R39: a Held picker without a charge goes on with one, or stays Held without. -/
theorem openOwn_state {s : State} {p : PickerId} (hheld : (s.picker p).state = .held) (hloading : (s.picker p).loading = none) :
    (((openOwn p s).picker p).state = .running ∧ ((openOwn p s).picker p).loading ≠ none) ∨
      (((openOwn p s).picker p).state = .held ∧ ((openOwn p s).picker p).loading = none) := by
  cases hlot : (s.picker p).currentLot with
  | none => rw [openOwn_of_none hlot]; exact .inr ⟨hheld, hloading⟩
  | some lot =>
    have h := (tryOpen_attempted .own hlot).state
    rwa [hloading] at h

theorem openOwn_keeps (s : State) (p : PickerId) :
    ((openOwn p s).picker p).currentLot = (s.picker p).currentLot ∧
      ((openOwn p s).picker p).pendingLot = (s.picker p).pendingLot ∧
      ((openOwn p s).picker p).reasons.sensorLost = (s.picker p).reasons.sensorLost := by
  cases hlot : (s.picker p).currentLot with
  | none => rw [openOwn_of_none hlot]; exact ⟨hlot, rfl, rfl⟩
  | some lot => exact hlot ▸ (tryOpen_attempted .own hlot).keeps

theorem openOwn_keeps_unknownLot {s : State} {p : PickerId} {lot : Nat} (hlot : (s.picker p).currentLot = some lot)
    (husable : s.lotUsable lot = true) :
    ((openOwn p s).picker p).reasons.unknownLot = (s.picker p).reasons.unknownLot ∧
      ((openOwn p s).picker p).refusedLot = (s.picker p).refusedLot :=
  (tryOpen_attempted .own hlot).keeps_unknownLot husable

section
variable {s : State} {p : PickerId}

theorem afterRemoval_of_not_held (h : (s.picker p).state ≠ .held) : afterRemoval p s = s := if_neg h

theorem afterRemoval_of_empty (hheld : (s.picker p).state = .held) (hloading : (s.picker p).loading ≠ none)
    (hempty : (s.picker p).reasons.isEmpty = true) : afterRemoval p s = enterRunning p s := by
  simp only [afterRemoval, if_pos hheld, if_pos (Option.isSome_iff_ne_none.mpr hloading), if_pos hempty]

theorem afterRemoval_of_not_empty (hheld : (s.picker p).state = .held) (hloading : (s.picker p).loading ≠ none)
    (hempty : (s.picker p).reasons.isEmpty = false) : afterRemoval p s = s := by
  simp [afterRemoval, hheld, Option.isSome_iff_ne_none.mpr hloading, hempty]

theorem afterRemoval_of_standing (hheld : (s.picker p).state = .held) (hloading : (s.picker p).loading = none)
    (hstanding : (s.picker p).reasons.standing = true) : afterRemoval p s = s := by
  simp [afterRemoval, hheld, hloading, hstanding]

theorem afterRemoval_of_free (hheld : (s.picker p).state = .held) (hloading : (s.picker p).loading = none)
    (hstanding : (s.picker p).reasons.standing = false) : afterRemoval p s = openOwn p s := by
  simp [afterRemoval, hheld, hloading, hstanding]

end

/-- R39: every way a picker goes on, or does not. -/
theorem afterRemoval_cases (p : PickerId) (s : State) :
    afterRemoval p s = s ∨ afterRemoval p s = enterRunning p s ∨ afterRemoval p s = openOwn p s := by
  unfold afterRemoval
  dsimp only
  split
  · split
    · split
      · exact .inr (.inl rfl)
      · exact .inl rfl
    · split
      · exact .inl rfl
      · exact .inr (.inr rfl)
  · exact .inl rfl

theorem afterRemoval_keeps_sensorLost (p : PickerId) (s : State) :
    ((afterRemoval p s).picker p).reasons.sensorLost = (s.picker p).reasons.sensorLost := by
  rcases afterRemoval_cases p s with h | h | h
  · rw [h]
  · rw [h]
    simp [enterRunning]
  · rw [h]
    exact (openOwn_keeps s p).2.2

/-- R39: the reasons are gone. -/
theorem HoldReasons.isEmpty_iff (h : HoldReasons) : h.isEmpty = true ↔ h = .none := by
  obtain ⟨noFloor, unknownLot, noTicketSlot, sensorLost, disabled, operator⟩ := h
  simp only [HoldReasons.isEmpty, HoldReasons.standing, HoldReasons.none, HoldReasons.mk.injEq, Bool.and_eq_true,
    Bool.not_eq_true', Bool.or_eq_false_iff]
  tauto

/-! ### Holding a Running picker -/

theorem holdIfRunning_of_not_running {s : State} {p : PickerId} (h : (s.picker p).state ≠ .running) : holdIfRunning p s = s :=
  if_neg h

theorem holdIfRunning_of_running {s : State} {p : PickerId} (h : (s.picker p).state = .running) :
    holdIfRunning p s = enterHeld p s := if_pos h

theorem picker_enterHeld_same (p : PickerId) (s : State) :
    (enterHeld p s).picker p = { s.picker p with state := .held } := by
  obtain ⟨g, h, heq⟩ := enterHeld_eq p s
  rw [heq]
  simp

/-- What a hold leaves of its picker but for the state. -/
theorem picker_holdIfRunning_same (p : PickerId) (s : State) :
    (holdIfRunning p s).picker p =
      { s.picker p with state := if (s.picker p).state = .running then .held else (s.picker p).state } := by
  unfold holdIfRunning
  split
  · exact picker_enterHeld_same p s
  · rfl

end Sys2Proof.Machine
end

section
namespace Sys2Proof.Machine

/-! ### A card naming a lot that is not usable (R41) -/

/-- R41: the picker after such a card, but for its hold. -/
def Picker.lotUnknown (lot : Nat) (r : Picker) : Picker :=
  { r with reasons := { r.reasons with unknownLot := true }, refusedLot := some lot }

/-- R41: an unusable lot's card changes the Notice Latch and the picker, and holds it. -/
theorem takeUnusable_eq (p : PickerId) (lot : Nat) (s : State) :
    ∃ g, takeUnusable p lot s = holdIfRunning p ((s.onNotice g).onPicker p (Picker.lotUnknown lot)) ∧
      ((s.picker p).reasons.unknownLot = false ∨ (s.picker p).refusedLot ≠ some lot →
        (s.onNotice g).latchedNow (srcUnknownLot p)) ∧
      ((s.picker p).reasons.unknownLot = true → (s.picker p).refusedLot = some lot → s.onNotice g = s) := by
  unfold takeUnusable
  dsimp only
  split
  · rename_i hseen
    rw [Bool.and_eq_true, beq_iff_eq] at hseen
    exact ⟨id, rfl, fun h => h.elim (fun h => by simp [hseen.1] at h) (absurd hseen.2), fun _ _ => rfl⟩
  · rename_i hseen
    obtain ⟨g, hg⟩ := latch_eq_onNotice (srcUnknownLot p) s
    refine ⟨g, by rw [hg]; rfl, fun _ => hg ▸ latchedNow_latch _ _ (by cases p <;> decide), fun hu hl => ?_⟩
    simp [hu, hl] at hseen

theorem Picker.lotUnknown_eq_self {lot : Nat} {r : Picker} (hu : r.reasons.unknownLot = true) (hl : r.refusedLot = some lot) :
    r.lotUnknown lot = r := by
  unfold Picker.lotUnknown
  rw [← hu, ← hl]

/-- R41: what a card naming an unusable lot leaves. -/
theorem takeUnusable_spec (p : PickerId) (lot : Nat) (s : State) :
    let r := s.picker p
    let t := takeUnusable p lot s
    (t.picker p).reasons = { r.reasons with unknownLot := true } ∧ (t.picker p).refusedLot = some lot ∧
      (t.picker p).currentLot = r.currentLot ∧ (t.picker p).pendingLot = r.pendingLot ∧
      (t.picker p).loading = r.loading ∧
      (r.state = .running → (t.picker p).state = .held ∧ s.feedStopWaits t p ∧ t.latchedNow (srcHeld p)) ∧
      (r.state ≠ .running → (t.picker p).state = r.state) ∧
      (r.reasons.unknownLot = false ∨ r.refusedLot ≠ some lot → t.latchedNow (srcUnknownLot p)) ∧
      (r.reasons.unknownLot = true → r.refusedLot = some lot → r.state ≠ .running → t = s) := by
  dsimp only
  obtain ⟨g, heq, hlatch, hsame⟩ := takeUnusable_eq p lot s
  have hpicker : ((s.onNotice g).onPicker p (Picker.lotUnknown lot)).picker p = (s.picker p).lotUnknown lot := by simp
  have hresult : (takeUnusable p lot s).picker p = { (s.picker p).lotUnknown lot with
      state := if (s.picker p).state = .running then .held else (s.picker p).state } := by
    rw [heq, picker_holdIfRunning_same, hpicker]
    rfl
  rw [hresult]
  refine ⟨rfl, rfl, rfl, rfl, rfl, fun hrun => ⟨if_pos hrun, ?_⟩, fun hrun => if_neg hrun, fun hnew => ?_, fun hu hl hrun => ?_⟩
  · rw [heq, holdIfRunning_of_running (by rw [hpicker]; exact hrun)]
    exact enterHeld_waits p ((s.onNotice g).onPicker p (Picker.lotUnknown lot))
  · rw [heq]
    exact holdIfRunning_closed (latchedNow_closed _) p (hlatch hnew)
  · rw [heq, holdIfRunning_of_not_running (by rw [hpicker]; exact hrun), hsame hu hl]
    exact State.onPicker_eq_self (Picker.lotUnknown_eq_self hu hl)

/-! ### A card naming a usable lot (R42) -/

/-- R42: the picker with UnknownLot and the refused lot cleared. -/
def Picker.lotCleared (r : Picker) : Picker :=
  { r with reasons := { r.reasons with unknownLot := false }, refusedLot := none }

theorem Picker.lotCleared_eq_self {r : Picker} (hu : r.reasons.unknownLot = false) (hl : r.refusedLot = none) :
    r.lotCleared = r := by
  unfold Picker.lotCleared
  rw [← hu, ← hl]

section
variable {s : State} {p : PickerId} {lot : Nat}

theorem takeUsable_of_current (h : (s.picker p).currentLot = some lot) :
    takeUsable p lot s = if (s.picker p).reasons.unknownLot then afterRemoval p (s.onPicker p Picker.lotCleared)
      else s.onPicker p Picker.lotCleared :=
  if_pos (by simpa using h)

theorem takeUsable_of_new (h : (s.picker p).currentLot ≠ some lot) :
    takeUsable p lot s = takeNewLot p lot (s.onPicker p Picker.lotCleared) :=
  if_neg (by simpa using h)

/-- R42: the table's rows that start a clearance. -/
theorem takeNewLot_of_clearance (h : (s.picker p).state = .running ∨ ((s.picker p).state = .held ∧ (s.picker p).loading ≠ none)) :
    takeNewLot p lot s = startClearance p (s.onPicker p fun r => { r with pendingLot := some lot }) := by
  unfold takeNewLot
  rcases h with h | ⟨h, hloading⟩
  · simp only [h]
  · simp only [h, Option.isSome_iff_ne_none.mpr hloading]

/-- R42: the table's row for a Held picker without a loading charge. -/
theorem takeNewLot_of_held (h : (s.picker p).state = .held) (hloading : (s.picker p).loading = none) :
    takeNewLot p lot s = if (s.picker p).reasons.standing then s.onPicker p fun r => { r with currentLot := some lot }
      else openOwn p (s.onPicker p fun r => { r with currentLot := some lot }) := by
  unfold takeNewLot
  simp only [h, hloading, Option.isSome_none]

/-- R42: the table's rows that keep the lot pending. -/
theorem takeNewLot_of_pending (h : (s.picker p).state = .clearing ∨ ((s.picker p).state = .stopped ∧ (s.picker p).loading ≠ none)) :
    takeNewLot p lot s = s.onPicker p fun r => { r with pendingLot := some lot } := by
  unfold takeNewLot
  rcases h with h | ⟨h, hloading⟩
  · simp only [h]
  · simp only [h, Option.isSome_iff_ne_none.mpr hloading]

/-- R42: the table's row for a Stopped picker without a loading charge. -/
theorem takeNewLot_of_stopped (h : (s.picker p).state = .stopped) (hloading : (s.picker p).loading = none) :
    takeNewLot p lot s = s.onPicker p fun r => { r with currentLot := some lot, pendingLot := none } := by
  unfold takeNewLot
  simp only [h, hloading, Option.isSome_none]

end

/-- R43: the picker that enters Clearing at a moment. -/
def Picker.clearingFrom (now : Nat) (r : Picker) : Picker :=
  { r with
    state := .clearing
    clearanceStart := some now
    quietStart := some now
    inForce := some (r.config.quiet, r.config.limit) }

/-- R32, R43: a clearance changes its picker, the line and a self-poll timer, and stops the feed. -/
theorem startClearance_eq (p : PickerId) (s : State) :
    ∃ g h, startClearance p s = ((s.onPicker p (Picker.clearingFrom s.now)).onLine g).onChan h ∧
      s.feedStopWaits (startClearance p s) p := by
  have hwaits := feedStopWaits_feedStop p (s.onPicker p (Picker.clearingFrom s.now))
  obtain ⟨g, hg⟩ := feedStop_eq_onLine p (s.onPicker p (Picker.clearingFrom s.now))
  have htimer (u : State) : ∃ h, beltPollTimer p true u = u.onChan h := by
    unfold beltPollTimer
    split
    · exact startPollTimer_eq_onChan _ _ _ _
    · exact ⟨id, rfl⟩
  obtain ⟨h, hh⟩ := htimer ((s.onPicker p (Picker.clearingFrom s.now)).onLine g)
  have heq : startClearance p s = ((s.onPicker p (Picker.clearingFrom s.now)).onLine g).onChan h := by
    rw [← hh, ← hg]
    rfl
  refine ⟨g, h, heq, fun st hst => ?_⟩
  rw [hg] at hwaits
  rw [heq]
  exact hwaits st hst

end Sys2Proof.Machine
end

section
namespace Sys2Proof.Machine

section
variable {s : State} {p : PickerId} {lot : Nat}

/-- R42: the state in which a usable lot's card is looked up in the table. -/
theorem picker_lotCleared (s : State) (p : PickerId) : (s.onPicker p Picker.lotCleared).picker p = (s.picker p).lotCleared :=
  s.picker_onPicker_same p _

/-- R41, R42: a usable lot's card ends UnknownLot. -/
theorem takeNewLot_keeps_unknownLot (husable : s.lotUsable lot = true) :
    ((takeNewLot p lot s).picker p).reasons.unknownLot = (s.picker p).reasons.unknownLot ∧
      ((takeNewLot p lot s).picker p).refusedLot = (s.picker p).refusedLot := by
  cases hstate : (s.picker p).state with
  | running =>
    obtain ⟨g, h, heq, _⟩ := startClearance_eq p (s.onPicker p fun r => { r with pendingLot := some lot })
    rw [takeNewLot_of_clearance (.inl hstate), heq]
    simp [Picker.clearingFrom]
  | clearing =>
    rw [takeNewLot_of_pending (.inl hstate)]
    simp
  | stopped =>
    by_cases hloading : (s.picker p).loading = none
    · rw [takeNewLot_of_stopped hstate hloading]
      simp
    · rw [takeNewLot_of_pending (.inr ⟨hstate, hloading⟩)]
      simp
  | held =>
    by_cases hloading : (s.picker p).loading = none
    · rw [takeNewLot_of_held hstate hloading]
      split
      · simp
      · have h := openOwn_keeps_unknownLot (s := s.onPicker p fun r => { r with currentLot := some lot }) (p := p)
          (lot := lot) (by simp) husable
        simpa using h
    · obtain ⟨g, h, heq, _⟩ := startClearance_eq p (s.onPicker p fun r => { r with pendingLot := some lot })
      rw [takeNewLot_of_clearance (.inr ⟨hstate, hloading⟩), heq]
      simp [Picker.clearingFrom]

theorem takeUsable_clears (husable : s.lotUsable lot = true) :
    ((takeUsable p lot s).picker p).reasons.unknownLot = false ∧ ((takeUsable p lot s).picker p).refusedLot = none := by
  have hcleared : ((s.onPicker p Picker.lotCleared).picker p).reasons.unknownLot = false ∧
      ((s.onPicker p Picker.lotCleared).picker p).refusedLot = none := by
    rw [picker_lotCleared]
    exact ⟨rfl, rfl⟩
  by_cases hcurrent : (s.picker p).currentLot = some lot
  · rw [takeUsable_of_current hcurrent]
    split
    · rcases afterRemoval_cases p (s.onPicker p Picker.lotCleared) with h | h | h
      · rwa [h]
      · rw [h]
        simp [enterRunning, Picker.lotCleared]
      · have hopen := openOwn_keeps_unknownLot (s := s.onPicker p Picker.lotCleared) (p := p) (lot := lot)
          (by rw [picker_lotCleared]; exact hcurrent) husable
        rwa [h, hopen.1, hopen.2]
    · exact hcleared
  · have hnew := takeNewLot_keeps_unknownLot (s := s.onPicker p Picker.lotCleared) (p := p) (lot := lot) husable
    rwa [takeUsable_of_new hcurrent, hnew.1, hnew.2]

theorem standing_lotCleared (r : Picker) : r.lotCleared.reasons.standing = true ↔
    r.reasons.operator = true ∨ r.reasons.disabled = true ∨ r.reasons.sensorLost = true := by
  simp [Picker.lotCleared, HoldReasons.standing, or_assoc]

theorem not_standing_lotCleared {r : Picker} (ho : r.reasons.operator = false) (hd : r.reasons.disabled = false)
    (hs : r.reasons.sensorLost = false) : r.lotCleared.reasons.standing = false := by
  simp [Picker.lotCleared, HoldReasons.standing, ho, hd, hs]

/-- R42, R39: a card for the current lot. -/
theorem takeUsable_current_spec (hcurrent : (s.picker p).currentLot = some lot) :
    let r := s.picker p
    let t := takeUsable p lot s
    let cleared : HoldReasons := { r.reasons with unknownLot := false }
    (r.reasons.unknownLot = false → r.refusedLot = none → t = s) ∧
      (r.reasons.unknownLot = false ∨ r.state ≠ .held →
        t = s.onPicker p fun r => { r with refusedLot := none, reasons := cleared }) ∧
      (r.reasons.unknownLot = true → r.state = .held → r.loading ≠ none →
        (cleared = HoldReasons.none →
          t = s.onPicker p fun r => { r with state := .running, refusedLot := none, reasons := cleared }) ∧
        (cleared ≠ HoldReasons.none → t = s.onPicker p fun r => { r with refusedLot := none, reasons := cleared })) ∧
      (r.reasons.unknownLot = true → r.state = .held → r.loading = none →
        (t.picker p).currentLot = r.currentLot ∧ (t.picker p).pendingLot = r.pendingLot ∧
        (r.reasons.operator = true ∨ r.reasons.disabled = true ∨ r.reasons.sensorLost = true →
          t = s.onPicker p fun r => { r with refusedLot := none, reasons := cleared }) ∧
        (r.reasons.operator = false → r.reasons.disabled = false → r.reasons.sensorLost = false →
          ((t.picker p).state = .running ∧ (t.picker p).loading ≠ none) ∨
            ((t.picker p).state = .held ∧ (t.picker p).loading = none))) := by
  dsimp only
  have hpicker := picker_lotCleared s p
  have hcongr : s.onPicker p Picker.lotCleared =
      s.onPicker p fun r => { r with refusedLot := none, reasons := { (s.picker p).reasons with unknownLot := false } } :=
    State.onPicker_congr rfl
  rw [takeUsable_of_current hcurrent, ← hcongr]
  refine ⟨fun hu hl => ?same, fun hstays => ?stays, fun hu hheld hloading => ⟨fun hnone => ?runs, fun hnone => ?waits⟩,
    fun hu hheld hloading => ?empty⟩
  case same =>
    rw [if_neg (by simp [hu])]
    exact State.onPicker_eq_self (Picker.lotCleared_eq_self hu hl)
  case stays =>
    split
    · rename_i hu
      exact afterRemoval_of_not_held (by rw [hpicker]; exact hstays.resolve_left (by simp [hu]))
    · rfl
  case runs =>
    rw [if_pos hu, afterRemoval_of_empty (by rw [hpicker]; exact hheld) (by rw [hpicker]; exact hloading)
      (by rw [hpicker]; exact (HoldReasons.isEmpty_iff _).mpr hnone), enterRunning, State.onPicker_onPicker]
    exact State.onPicker_congr rfl
  case waits =>
    rw [if_pos hu, afterRemoval_of_not_empty (by rw [hpicker]; exact hheld) (by rw [hpicker]; exact hloading)
      (by rw [hpicker]; exact Bool.eq_false_iff.mpr fun h => hnone ((HoldReasons.isEmpty_iff _).mp h))]
  case empty =>
    rw [if_pos hu]
    have hheld' : ((s.onPicker p Picker.lotCleared).picker p).state = .held := by rw [hpicker]; exact hheld
    have hloading' : ((s.onPicker p Picker.lotCleared).picker p).loading = none := by rw [hpicker]; exact hloading
    by_cases hstanding : (s.picker p).lotCleared.reasons.standing = true
    · rw [afterRemoval_of_standing hheld' hloading' (by rwa [hpicker]), hpicker]
      refine ⟨rfl, rfl, fun _ => rfl, fun ho hd hs => ?_⟩
      simp [not_standing_lotCleared ho hd hs] at hstanding
    · rw [afterRemoval_of_free hheld' hloading' (by rw [hpicker]; exact Bool.eq_false_iff.mpr hstanding)]
      obtain ⟨hcur, hpend, _⟩ := openOwn_keeps (s.onPicker p Picker.lotCleared) p
      rw [hpicker] at hcur hpend
      exact ⟨hcur, hpend, fun h => absurd ((standing_lotCleared _).mpr h) hstanding,
        fun _ _ _ => openOwn_state hheld' hloading'⟩

/-- R42, R43: a card for a lot that is not the current one. -/
theorem takeUsable_new_spec (hnew : (s.picker p).currentLot ≠ some lot) :
    let r := s.picker p
    let t := takeUsable p lot s
    (r.state = .running ∨ (r.state = .held ∧ r.loading ≠ none) →
        (t.picker p).state = .clearing ∧ (t.picker p).pendingLot = some lot ∧ (t.picker p).currentLot = r.currentLot ∧
        (t.picker p).clearanceStart = some s.now ∧ (t.picker p).quietStart = some s.now ∧
        (t.picker p).inForce = some (r.config.quiet, r.config.limit) ∧ s.feedStopWaits t p) ∧
      (r.state = .held → r.loading = none → (t.picker p).currentLot = some lot ∧
        (t.picker p).pendingLot = r.pendingLot ∧
        (r.reasons.operator = true ∨ r.reasons.disabled = true ∨ r.reasons.sensorLost = true →
          (t.picker p).state = .held ∧ (t.picker p).loading = none) ∧
        (r.reasons.operator = false → r.reasons.disabled = false → r.reasons.sensorLost = false →
          (t.picker p).state = .running ∨ (t.picker p).state = .held)) ∧
      (r.state = .clearing ∨ (r.state = .stopped ∧ r.loading ≠ none) →
        t = s.onPicker p fun r => { r with
          pendingLot := some lot, refusedLot := none, reasons := { r.reasons with unknownLot := false } }) ∧
      (r.state = .stopped → r.loading = none →
        t = s.onPicker p fun r => { r with
          currentLot := some lot, pendingLot := none, refusedLot := none,
          reasons := { r.reasons with unknownLot := false } }) := by
  dsimp only
  have hpicker := picker_lotCleared s p
  rw [takeUsable_of_new hnew]
  refine ⟨fun h => ?clearance, fun hheld hloading => ?held, fun h => ?pending, fun hstopped hloading => ?stopped⟩
  case clearance =>
    obtain ⟨g, c, heq, hwaits⟩ := startClearance_eq p ((s.onPicker p Picker.lotCleared).onPicker p fun r =>
      { r with pendingLot := some lot })
    rw [takeNewLot_of_clearance (by rw [hpicker]; exact h)]
    have hresult : (startClearance p ((s.onPicker p Picker.lotCleared).onPicker p fun r =>
        { r with pendingLot := some lot })).picker p =
        Picker.clearingFrom s.now { (s.picker p).lotCleared with pendingLot := some lot } := by
      rw [heq]
      simp
    rw [hresult]
    exact ⟨rfl, rfl, rfl, rfl, rfl, rfl, hwaits⟩
  case held =>
    have hlot : (((s.onPicker p Picker.lotCleared).onPicker p fun r => { r with currentLot := some lot }).picker p) =
        { (s.picker p).lotCleared with currentLot := some lot } := by simp
    rw [takeNewLot_of_held (by rw [hpicker]; exact hheld) (by rw [hpicker]; exact hloading), hpicker]
    split
    · rename_i hstanding
      rw [hlot]
      refine ⟨rfl, rfl, fun _ => ⟨hheld, hloading⟩, fun ho hd hs => ?_⟩
      simp [not_standing_lotCleared ho hd hs] at hstanding
    · rename_i hstanding
      obtain ⟨hcur, hpend, _⟩ := openOwn_keeps
        ((s.onPicker p Picker.lotCleared).onPicker p fun r => { r with currentLot := some lot }) p
      have hstate := openOwn_state (s := (s.onPicker p Picker.lotCleared).onPicker p fun r =>
        { r with currentLot := some lot }) (p := p) (by rw [hlot]; exact hheld) (by rw [hlot]; exact hloading)
      rw [hlot] at hcur hpend
      exact ⟨hcur, hpend, fun h => absurd ((standing_lotCleared _).mpr h) hstanding,
        fun _ _ _ => hstate.imp And.left And.left⟩
  case pending =>
    rw [takeNewLot_of_pending (by rw [hpicker]; exact h), State.onPicker_onPicker]
    rfl
  case stopped =>
    rw [takeNewLot_of_stopped (by rw [hpicker]; exact hstopped) (by rw [hpicker]; exact hloading), State.onPicker_onPicker]
    rfl

end

/-- R41: a fresh Normal view of the WagonReader is a card read. -/
theorem unitTakes_wagonReader (s : State) (p : PickerId) (v : Int) (settled : Bool) :
    unitTakes .wagonReader (.picker p)
      { view := { cls := .normal, value := some v, substituted := false }, report := true, settled := settled } s =
      takeCard p (cardLot v) s := rfl

theorem takeCard_of_unusable {s : State} {p : PickerId} {lot : Nat} (h : s.lotUsable lot = false) :
    takeCard p lot s = takeUnusable p lot s := if_neg (by simp [h])

theorem takeCard_of_usable {s : State} {p : PickerId} {lot : Nat} (h : s.lotUsable lot = true) :
    takeCard p lot s = takeUsable p lot s := if_pos h

end Sys2Proof.Machine
end

section
namespace Sys2Proof.Machine

/-! ### Tickets issued (R135) -/

/-- R135: an issue of a seeded store is a ticket of it. -/
theorem issued_issueTicket {s : State} (kind : TicketKind) (lot grower : Nat) (body : TicketBody) (h : s.store.nextSerial ≠ none) :
    s.issued (issueTicket kind lot grower body s) lot grower body := by
  obtain ⟨n, hn⟩ := Option.ne_none_iff_exists'.mp h
  refine ⟨n, hn, ?_⟩
  unfold issueTicket
  rw [hn]
  exact List.mem_append_right _ (List.mem_singleton_self _)

/-- R141: a ticket issued stays while the store's tickets do. -/
theorem State.issued_mono {s t u : State} {lot grower : Nat} {body : TicketBody} (h : s.issued t lot grower body)
    (hstays : ∀ k, k ∈ t.store.tickets → k ∈ u.store.tickets) : s.issued u lot grower body := by
  obtain ⟨n, hn, hmem⟩ := h
  exact ⟨n, hn, hstays _ hmem⟩

/-- A ticket issued from a state is issued from every state with its serial and its clock. -/
theorem State.issued_congr {s s' t : State} {lot grower : Nat} {body : TicketBody} (hserial : s'.store.nextSerial = s.store.nextSerial)
    (hclock : s'.clock = s.clock) (h : s.issued t lot grower body) : s'.issued t lot grower body := by
  obtain ⟨n, hn, hmem⟩ := h
  exact ⟨n, hserial.trans hn, by rwa [hclock]⟩

/-! ### The loading charge (R53) -/

theorem State.loadingCharge_eq_some_iff {s : State} {p : PickerId} {n : Nat} {c : Charge} :
    s.loadingCharge p = some (n, c) ↔ (s.picker p).loading = some n ∧ s.charge n = some c := by
  simp [State.loadingCharge, Option.bind_eq_some_iff]

/-- R53, steps 1 to 4: the charge that closes leaves a ticket. -/
theorem closeCore_issued {s : State} (p : PickerId) (n : Nat) (c : Charge) (reason : CloseReason)
    (h : s.store.nextSerial ≠ none) :
    s.issued (closeCore p n c reason s) c.lot (s.growerOf c.lot) (chargeBody n c reason) := by
  obtain ⟨l, hl⟩ := State.onCharge_eq_onPool s n fun r => { r with reason := some reason, state := .loaded }
  unfold closeCore
  dsimp only
  rw [hl]
  exact issued_issueTicket (s := (s.onPool fun p => { p with records := l }).onRing c.kiln fun r => r.setSlot r.top (.loaded n))
    .charge c.lot (s.growerOf c.lot) (chargeBody n c reason) h

/-- R53: a close with the picker's response leaves the ticket of the charge. -/
theorem closeCharge_issued {s : State} {p : PickerId} {n : Nat} {c : Charge} (reason : CloseReason)
    (hcharge : s.loadingCharge p = some (n, c)) (h : s.store.nextSerial ≠ none) :
    s.issued (closeCharge p reason s) c.lot (s.growerOf c.lot) (chargeBody n c reason) := by
  refine State.issued_mono (closeCore_issued p n c reason h) fun k hk => ?_
  unfold closeCharge closeToReady
  rw [hcharge]
  exact pickerAfterClose_closed (mem_tickets_closed k) p (leaveLoading_closed (mem_tickets_closed k) c.kiln hk)

/-! ### Bookings of the belt (R9, R50) -/

/-- R50, R9: an increment booked to a charge and its lot, without the test against the capacity. -/
def State.booked (s : State) (n : Nat) (c : Charge) (v : Int) (substituted : Bool) : State :=
  addGreen c.lot v (s.onCharge n fun r => { r with green := addMass r.green v, substituted := r.substituted || substituted })

section
variable (s : State) (n : Nat) (c : Charge) (v : Int) (substituted : Bool)

/-- A booking changes the Charge Pool and the Lot Table alone. -/
theorem State.booked_eq : ∃ l m, s.booked n c v substituted = (s.onPool fun p => { p with records := l }).withLots m := by
  unfold State.booked addGreen
  obtain ⟨l, hl⟩ := State.onCharge_eq_onPool s n fun r =>
    { r with green := addMass r.green v, substituted := r.substituted || substituted }
  obtain ⟨m, hm⟩ := State.onLot_eq_withLots (s.onPool fun p => { p with records := l }) c.lot fun l =>
    { l with green := addMass l.green v }
  exact ⟨l, m, by rw [hl, hm]⟩

theorem State.booked_pickers : (s.booked n c v substituted).pickers = s.pickers := by
  obtain ⟨l, m, h⟩ := s.booked_eq n c v substituted
  rw [h]
  rfl

theorem State.booked_picker (p : PickerId) : (s.booked n c v substituted).picker p = s.picker p := by
  cases p <;> simp only [State.picker, State.booked_pickers]

theorem State.booked_kilns : (s.booked n c v substituted).kilns = s.kilns := by
  obtain ⟨l, m, h⟩ := s.booked_eq n c v substituted
  rw [h]
  rfl

theorem State.booked_kiln (k : KilnId) : (s.booked n c v substituted).kiln k = s.kiln k := by
  cases k <;> simp only [State.kiln, State.booked_kilns]

theorem State.booked_store : (s.booked n c v substituted).store = s.store := by
  obtain ⟨l, m, h⟩ := s.booked_eq n c v substituted
  rw [h]
  rfl

theorem State.booked_line : (s.booked n c v substituted).line = s.line := by
  obtain ⟨l, m, h⟩ := s.booked_eq n c v substituted
  rw [h]
  rfl

theorem State.booked_clock : (s.booked n c v substituted).clock = s.clock := by
  obtain ⟨l, m, h⟩ := s.booked_eq n c v substituted
  rw [h]
  rfl

variable {s n c}

theorem State.charge_booked (h : s.charge n = some c) : (s.booked n c v substituted).charge n =
    some { c with green := c.green + BitVec.ofInt 32 v, substituted := c.substituted || substituted } := by
  have hcharge := s.charge_onCharge_same n fun r =>
    { r with green := addMass r.green v, substituted := r.substituted || substituted }
  obtain ⟨l, hl⟩ := State.onLot_eq_withLots (s.onCharge n fun r =>
    { r with green := addMass r.green v, substituted := r.substituted || substituted }) c.lot fun l =>
    { l with green := addMass l.green v }
  rw [h] at hcharge
  rw [State.booked, addGreen, hl]
  exact hcharge

theorem State.lot_booked {l : Lot} (h : s.lot c.lot = some l) :
    (s.booked n c v substituted).lot c.lot = some { l with green := l.green + BitVec.ofInt 32 v } := by
  obtain ⟨r, hr⟩ := State.onCharge_eq_onPool s n fun r =>
    { r with green := addMass r.green v, substituted := r.substituted || substituted }
  have hlot := (s.onPool fun p => { p with records := r }).lot_onLot_same c.lot fun l => { l with green := addMass l.green v }
  rw [State.booked, addGreen, hr, hlot, show (State.onPool s _).lot c.lot = s.lot c.lot from rfl, h]
  rfl

theorem State.growerOf_booked {l : Lot} (h : s.lot c.lot = some l) : (s.booked n c v substituted).growerOf c.lot = l.grower := by
  rw [State.growerOf, State.lot_booked v substituted h]
  rfl

variable {p : PickerId}

theorem bookBelt_of_none (h : s.loadingCharge p = none) :
    bookBelt p v substituted s = s.onPicker p fun r => { r with unattributed := r.unattributed + BitVec.ofInt 32 v } := by
  unfold bookBelt
  rw [h]
  rfl

theorem bookBelt_of_room (h : s.loadingCharge p = some (n, c))
    (hroom : (s.picker p).state = .clearing ∨ (c.green + BitVec.ofInt 32 v).toNat < (s.kiln c.kiln).config.capacity) :
    bookBelt p v substituted s = s.booked n c v substituted := by
  unfold bookBelt
  rw [h]
  refine if_neg ?_
  rw [← State.booked, State.booked_picker, State.booked_kiln]
  rintro ⟨hstate, hfull⟩
  exact hroom.elim hstate (Nat.not_lt.mpr hfull)

theorem bookBelt_of_full (h : s.loadingCharge p = some (n, c)) (hstate : (s.picker p).state ≠ .clearing)
    (hfull : (s.kiln c.kiln).config.capacity ≤ (c.green + BitVec.ofInt 32 v).toNat) :
    bookBelt p v substituted s = closeCharge p .full (s.booked n c v substituted) := by
  unfold bookBelt
  rw [h]
  refine if_pos ?_
  rw [← State.booked, State.booked_picker, State.booked_kiln]
  exact ⟨hstate, hfull⟩

/-- R50, R53: an increment that fills its charge leaves the charge's ticket. -/
theorem bookBelt_issued {l : Lot} (h : s.loadingCharge p = some (n, c)) (hlot : s.lot c.lot = some l)
    (hstate : (s.picker p).state ≠ .clearing)
    (hfull : (s.kiln c.kiln).config.capacity ≤ (c.green + BitVec.ofInt 32 v).toNat) (hserial : s.store.nextSerial ≠ none) :
    s.issued (bookBelt p v substituted s) c.lot l.grower (.charge n c.picker c.kiln (c.green + BitVec.ofInt 32 v) .full
      (c.substituted || substituted) c.timedOut) := by
  obtain ⟨hloading, hcharge⟩ := State.loadingCharge_eq_some_iff.mp h
  have hbooked : (s.booked n c v substituted).loadingCharge p =
      some (n, { c with green := c.green + BitVec.ofInt 32 v, substituted := c.substituted || substituted }) :=
    State.loadingCharge_eq_some_iff.mpr ⟨by rw [State.booked_picker]; exact hloading, State.charge_booked v substituted hcharge⟩
  have hissued := closeCharge_issued .full hbooked (by rw [State.booked_store]; exact hserial)
  rw [bookBelt_of_full v substituted h hstate hfull]
  have hgrower := State.growerOf_booked (n := n) v substituted hlot
  dsimp only at hissued
  rw [hgrower] at hissued
  exact State.issued_congr (by rw [State.booked_store]) (by rw [State.booked_clock]) hissued

end

end Sys2Proof.Machine
end

section
namespace Sys2Proof.Machine

section
variable {s : State} {p : PickerId} {u : Update}

/-! ### The quiet interval (R44) -/

/-- R44: a Report of a fresh Zero. -/
def Update.freshZero (u : Update) : Prop := u.report = true ∧ u.view.cls = .zero ∧ u.view.substituted = false

/-- R44: an update changes quiet start alone, to the moment, and in Clearing alone; a fresh Zero keeps it. -/
theorem beltQuiet_eq (p : PickerId) (u : Update) (s : State) :
    ∃ q, beltQuiet p u s = s.onPicker p (fun r => { r with quietStart := q }) ∧
      (u.freshZero → q = (s.picker p).quietStart) ∧ (¬u.freshZero → (s.picker p).state = .clearing → q = some s.now) := by
  unfold beltQuiet
  split
  · rename_i h
    exact ⟨_, rfl, fun hfresh => absurd hfresh h.2, fun _ _ => rfl⟩
  · rename_i h
    refine ⟨(s.picker p).quietStart, (State.onPicker_eq_self rfl).symm, fun _ => rfl, fun hfresh hstate => ?_⟩
    exact absurd ⟨hstate, hfresh⟩ h

theorem beltQuiet_of_not_clearing (h : (s.picker p).state ≠ .clearing) : beltQuiet p u s = s :=
  if_neg fun hquiet => h hquiet.1

theorem beltQuiet_of_freshZero (h : u.freshZero) : beltQuiet p u s = s := if_neg fun hquiet => hquiet.2 h

/-! ### SensorLost (R51) -/

theorem beltSensor_of_raised (hraised : isRaised u.view.cls = true) (h : u.view.substituted = false) :
    beltSensor p u s = holdIfRunning p (onReasons p (fun h => { h with sensorLost := true }) s) := if_pos ⟨hraised, h⟩

theorem not_raised_of_isGood {v : View} (h : v.isGood = true) : isRaised v.cls = false := by
  unfold View.isGood at h
  cases hcls : v.cls <;> simp_all [isRaised]

theorem beltSensor_of_recovered (hreport : u.report = true) (hgood : u.view.isGood = true) (h : u.view.substituted = false)
    (hlost : (s.picker p).reasons.sensorLost = true) :
    beltSensor p u s = afterRemoval p (onReasons p (fun h => { h with sensorLost := false }) s) := by
  unfold beltSensor
  rw [if_neg (by simp [not_raised_of_isGood hgood]), if_pos ⟨hreport, hgood, h, hlost⟩]

theorem beltSensor_of_not_raised (hraised : isRaised u.view.cls = false)
    (h : u.view.isGood = false ∨ u.view.substituted = true ∨ (s.picker p).reasons.sensorLost = false) : beltSensor p u s = s := by
  unfold beltSensor
  rw [if_neg (by simp [hraised]), if_neg]
  rintro ⟨_, hgood, hsub, hlost⟩
  simp [hgood, hsub, hlost] at h

/-- R51: in Clearing SensorLost alone changes. -/
theorem beltSensor_of_clearing (h : (s.picker p).state = .clearing) :
    ∃ x, beltSensor p u s = s.onPicker p fun r => { r with reasons := x } := by
  have hreasons (f : HoldReasons → HoldReasons) : onReasons p f s = s.onPicker p fun r => { r with reasons := f (s.picker p).reasons } :=
    State.onPicker_congr rfl
  have hstate (f : HoldReasons → HoldReasons) : ((onReasons p f s).picker p).state = .clearing := by
    rw [onReasons, State.picker_onPicker_same]
    exact h
  unfold beltSensor
  split
  · exact ⟨_, (holdIfRunning_of_not_running (by rw [hstate]; decide)).trans (hreasons _)⟩
  · split
    · exact ⟨_, (afterRemoval_of_not_held (by rw [hstate]; decide)).trans (hreasons _)⟩
    · exact ⟨_, (State.onPicker_eq_self rfl).symm⟩

/-- R51: a Report of a good view that is not substituted ends SensorLost. -/
theorem beltSensor_keeps_no_sensorLost (s : State) (p : PickerId) (hreport : u.report = true) (hgood : u.view.isGood = true)
    (h : u.view.substituted = false) : ((beltSensor p u s).picker p).reasons.sensorLost = false := by
  cases hlost : (s.picker p).reasons.sensorLost with
  | false => rw [beltSensor_of_not_raised (not_raised_of_isGood hgood) (.inr (.inr hlost)), hlost]
  | true =>
    rw [beltSensor_of_recovered hreport hgood h hlost, afterRemoval_keeps_sensorLost]
    simp [onReasons]

/-! ### What an update books (R50) -/

theorem beltBooking_of_booked {v : Int} (hreport : u.report = true) (hv : u.view.value = some v)
    (h : u.view.cls = .normal ∨ (u.view.cls = .zero ∧ u.view.substituted = true)) : beltBooking u = some v := by
  rw [beltBooking, if_pos ⟨hreport, h⟩, hv]

theorem beltBooking_of_not_booked (h : u.view.cls ≠ .normal)
    (hzero : u.view.cls ≠ .zero ∨ u.view.substituted = false) : beltBooking u = none := by
  refine if_neg ?_
  rintro ⟨_, hcls | ⟨hcls, hsub⟩⟩
  · exact h hcls
  · simp [hcls, hsub] at hzero

/-- R50: what an update does before SensorLost: its booking, where it has one. -/
theorem beltUpdate_of_booking {v : Int} (h : beltBooking u = some v) :
    beltUpdate p u s = beltSensor p u (bookBelt p v u.view.substituted (beltQuiet p u s)) := by
  simp only [beltUpdate, h]

theorem beltUpdate_of_no_booking (h : beltBooking u = none) : beltUpdate p u s = beltSensor p u (beltQuiet p u s) := by
  simp only [beltUpdate, h]

theorem beltUpdate_cases (p : PickerId) (u : Update) (s : State) : ∃ t, beltUpdate p u s = beltSensor p u t := by
  cases h : beltBooking u with
  | none => exact ⟨_, beltUpdate_of_no_booking h⟩
  | some v => exact ⟨_, beltUpdate_of_booking h⟩

/-- R50: outside Clearing and without SensorLost to end, an update is its booking. -/
theorem beltUpdate_of_booked_outside {v : Int} (hreport : u.report = true) (hv : u.view.value = some v)
    (h : u.view.cls = .normal ∨ (u.view.cls = .zero ∧ u.view.substituted = true)) (hstate : (s.picker p).state ≠ .clearing) :
    beltUpdate p u s = beltSensor p u (bookBelt p v u.view.substituted s) := by
  rw [beltUpdate_of_booking (beltBooking_of_booked hreport hv h), beltQuiet_of_not_clearing hstate]

theorem not_raised_of_booked (h : u.view.cls = .normal ∨ (u.view.cls = .zero ∧ u.view.substituted = true)) :
    isRaised u.view.cls = false := by
  rcases h with h | ⟨h, _⟩ <;> rw [h] <;> rfl

end

end Sys2Proof.Machine
end

section
namespace Sys2Proof.Machine

theorem State.onCharge_onPicker (s : State) (n : Nat) (g : Charge → Charge) (p : PickerId) (f : Picker → Picker) :
    (s.onPicker p f).onCharge n g = (s.onCharge n g).onPicker p f := by
  cases h : s.charge n with
  | none => simp only [State.onCharge, State.onPicker_charge_keep, h]
  | some c => simp only [State.onCharge, State.onPicker_charge_keep, h]; rfl

theorem State.onLot_onPicker (s : State) (n : Nat) (g : Lot → Lot) (p : PickerId) (f : Picker → Picker) :
    (s.onPicker p f).onLot n g = (s.onLot n g).onPicker p f := by
  cases h : s.lot n with
  | none => simp only [State.onLot, State.onPicker_lot_keep, h]
  | some c => simp only [State.onLot, State.onPicker_lot_keep, h]; rfl

theorem State.booked_onPicker (s : State) (n : Nat) (c : Charge) (v : Int) (substituted : Bool) (p : PickerId)
    (f : Picker → Picker) : (s.onPicker p f).booked n c v substituted = (s.booked n c v substituted).onPicker p f := by
  rw [State.booked, State.booked, State.onCharge_onPicker, addGreen, State.onLot_onPicker]
  rfl

section
variable {s : State} {p : PickerId} {u : Update}

/-! ### Bookings outside Clearing (R50, R51) -/

theorem beltUpdate_of_no_charge {v : Int} (hreport : u.report = true) (hv : u.view.value = some v)
    (h : u.view.cls = .normal ∨ (u.view.cls = .zero ∧ u.view.substituted = true)) (hstate : (s.picker p).state ≠ .clearing)
    (hlost : u.view.substituted = true ∨ (s.picker p).reasons.sensorLost = false) (hcharge : s.loadingCharge p = none) :
    beltUpdate p u s = s.onPicker p fun r => { r with unattributed := r.unattributed + BitVec.ofInt 32 v } := by
  rw [beltUpdate_of_booked_outside hreport hv h hstate, bookBelt_of_none v _ hcharge]
  refine beltSensor_of_not_raised (not_raised_of_booked h) (.inr ?_)
  rwa [State.picker_onPicker_same]

theorem beltUpdate_of_room {v : Int} {n : Nat} {c : Charge} (hreport : u.report = true) (hv : u.view.value = some v)
    (h : u.view.cls = .normal ∨ (u.view.cls = .zero ∧ u.view.substituted = true)) (hstate : (s.picker p).state ≠ .clearing)
    (hlost : u.view.substituted = true ∨ (s.picker p).reasons.sensorLost = false) (hcharge : s.loadingCharge p = some (n, c))
    (hroom : (c.green + BitVec.ofInt 32 v).toNat < (s.kiln c.kiln).config.capacity) :
    beltUpdate p u s = s.booked n c v u.view.substituted := by
  rw [beltUpdate_of_booked_outside hreport hv h hstate, bookBelt_of_room v _ hcharge (.inr hroom)]
  refine beltSensor_of_not_raised (not_raised_of_booked h) (.inr ?_)
  rwa [State.booked_picker]

theorem beltUpdate_issued {v : Int} {n : Nat} {c : Charge} {l : Lot} (hreport : u.report = true) (hv : u.view.value = some v)
    (h : u.view.cls = .normal ∨ (u.view.cls = .zero ∧ u.view.substituted = true)) (hstate : (s.picker p).state ≠ .clearing)
    (hcharge : s.loadingCharge p = some (n, c)) (hlot : s.lot c.lot = some l)
    (hfull : (s.kiln c.kiln).config.capacity ≤ (c.green + BitVec.ofInt 32 v).toNat) (hserial : s.store.nextSerial ≠ none) :
    s.issued (beltUpdate p u s) c.lot l.grower (.charge n c.picker c.kiln (c.green + BitVec.ofInt 32 v) .full
      (c.substituted || u.view.substituted) c.timedOut) := by
  rw [beltUpdate_of_booked_outside hreport hv h hstate]
  exact State.issued_mono (bookBelt_issued v _ hcharge hlot hstate hfull hserial)
    fun k hk => beltSensor_closed (mem_tickets_closed k) p u hk

/-! ### Updates in Clearing (R44, R50, R51) -/

/-- The picker in Clearing after an update: its quiet start, its reasons and the mass it booked to no charge. -/
def Picker.quieted (q : Option Nat) (x : HoldReasons) (m : Word) (r : Picker) : Picker :=
  { r with quietStart := q, reasons := x, unattributed := m }

/-- R44: what an update in Clearing makes of quiet start. -/
def State.quietAfter (s : State) (p : PickerId) (u : Update) (q : Option Nat) : Prop :=
  (u.freshZero → q = (s.picker p).quietStart) ∧ (¬u.freshZero → q = some s.now)

/-- R44, R51: in Clearing an update that books nothing, or that finds no charge to book to, changes its picker alone. -/
theorem beltUpdate_of_clearing (hstate : (s.picker p).state = .clearing)
    (h : beltBooking u = none ∨ s.loadingCharge p = none) :
    ∃ q x m, s.quietAfter p u q ∧ beltUpdate p u s = s.onPicker p (Picker.quieted q x m) := by
  obtain ⟨q, hq, hfresh, hother⟩ := beltQuiet_eq p u s
  have hquiet : s.quietAfter p u q := ⟨hfresh, fun h => hother h hstate⟩
  cases hbook : beltBooking u with
  | none =>
    obtain ⟨x, hx⟩ := beltSensor_of_clearing (u := u) (s := beltQuiet p u s) (p := p) (by rw [hq]; simpa using hstate)
    refine ⟨q, x, (s.picker p).unattributed, hquiet, ?_⟩
    rw [beltUpdate_of_no_booking hbook, hx, hq, State.onPicker_onPicker]
    exact State.onPicker_congr rfl
  | some v =>
    have hcharge : (s.onPicker p fun r => { r with quietStart := q }).loadingCharge p = none := by
      have := h.resolve_left (by simp [hbook])
      rwa [State.loadingCharge, State.picker_onPicker_same]
    have hbooked := bookBelt_of_none v u.view.substituted hcharge
    rw [State.onPicker_onPicker] at hbooked
    obtain ⟨x, hx⟩ := beltSensor_of_clearing (u := u) (s := s.onPicker p fun r =>
      { r with quietStart := q, unattributed := r.unattributed + BitVec.ofInt 32 v }) (p := p) (by simpa using hstate)
    refine ⟨q, x, (s.picker p).unattributed + BitVec.ofInt 32 v, hquiet, ?_⟩
    rw [beltUpdate_of_booking hbook, hq, hbooked, hx, State.onPicker_onPicker]
    exact State.onPicker_congr rfl

/-- R50: in Clearing an increment is booked without the test against the capacity. -/
theorem beltUpdate_of_clearing_booked {v : Int} {n : Nat} {c : Charge} (hstate : (s.picker p).state = .clearing)
    (hbook : beltBooking u = some v) (hcharge : s.loadingCharge p = some (n, c)) :
    ∃ q x m, s.quietAfter p u q ∧
      beltUpdate p u s = (s.booked n c v u.view.substituted).onPicker p (Picker.quieted q x m) := by
  obtain ⟨q, hq, hfresh, hother⟩ := beltQuiet_eq p u s
  obtain ⟨l, m, heq⟩ := s.booked_eq n c v u.view.substituted
  have hcharge' : (s.onPicker p fun r => { r with quietStart := q }).loadingCharge p = some (n, c) := by
    rwa [State.loadingCharge, State.picker_onPicker_same]
  have hbooked : (s.onPicker p fun r => { r with quietStart := q }).booked n c v u.view.substituted =
      (s.booked n c v u.view.substituted).onPicker p fun r => { r with quietStart := q } :=
    s.booked_onPicker n c v u.view.substituted p _
  have hroom := bookBelt_of_room v u.view.substituted hcharge' (.inl (by simpa using hstate))
  rw [hbooked] at hroom
  obtain ⟨x, hx⟩ := beltSensor_of_clearing (u := u) (s := (s.booked n c v u.view.substituted).onPicker p fun r =>
    { r with quietStart := q }) (p := p) (by rw [State.picker_onPicker_same, State.booked_picker]; exact hstate)
  refine ⟨q, x, (s.picker p).unattributed, ⟨hfresh, fun h => hother h hstate⟩, ?_⟩
  rw [beltUpdate_of_booking hbook, hq, hroom, hx, State.onPicker_onPicker]
  refine State.onPicker_congr ?_
  rw [State.booked_picker]
  rfl

end

end Sys2Proof.Machine
end

section
namespace Sys2Proof.Machine

section
variable {s : State} {p : PickerId} {u : Update}

/-! ### SensorLost (R51, R39) -/

theorem isRaised_iff (cls : SampleClass) : isRaised cls = true ↔ cls = .low ∨ cls = .high ∨ cls = .fault ∨ cls = .stale := by
  cases cls <;> simp [isRaised]

/-- R51: a raised view adds SensorLost and holds a Running picker. -/
theorem beltUpdate_of_raised (hraised : isRaised u.view.cls = true) (hsub : u.view.substituted = false) :
    let r := s.picker p
    let t := beltUpdate p u s
    (t.picker p).reasons = { r.reasons with sensorLost := true } ∧ (t.picker p).loading = r.loading ∧ t.pool = s.pool ∧
      t.lots = s.lots ∧ (r.state ≠ .running → (t.picker p).state = r.state) ∧
      (r.state = .running → (t.picker p).state = .held ∧ t.latchedNow (srcHeld p) ∧ s.feedStopWaits t p) := by
  dsimp only
  obtain ⟨q, hq, _⟩ := beltQuiet_eq p u s
  have hbook : beltBooking u = none :=
    beltBooking_of_not_booked (fun h => by rw [h] at hraised; cases hraised) (.inr hsub)
  have heq : beltUpdate p u s = holdIfRunning p (s.onPicker p fun r =>
      { r with quietStart := q, reasons := { r.reasons with sensorLost := true } }) := by
    rw [beltUpdate_of_no_booking hbook, hq, beltSensor_of_raised hraised hsub, onReasons, State.onPicker_onPicker]
  rw [heq]
  by_cases hrun : (s.picker p).state = .running
  · rw [holdIfRunning_of_running (by simpa using hrun)]
    obtain ⟨hwaits, hlatched⟩ := enterHeld_waits p (s.onPicker p fun r =>
      { r with quietStart := q, reasons := { r.reasons with sensorLost := true } })
    obtain ⟨g, h, hheld⟩ := enterHeld_eq p (s.onPicker p fun r =>
      { r with quietStart := q, reasons := { r.reasons with sensorLost := true } })
    have hpicker := picker_enterHeld_same p (s.onPicker p fun r =>
      { r with quietStart := q, reasons := { r.reasons with sensorLost := true } })
    rw [State.picker_onPicker_same] at hpicker
    refine ⟨by rw [hpicker], by rw [hpicker], by rw [hheld]; rfl, by rw [hheld]; rfl, fun h => absurd hrun h,
      fun _ => ⟨by rw [hpicker], hlatched, hwaits⟩⟩
  · rw [holdIfRunning_of_not_running (by simpa using hrun), State.picker_onPicker_same]
    exact ⟨rfl, rfl, rfl, rfl, fun _ => rfl, fun h => absurd h hrun⟩

/-- R51: an Absent view changes quiet start at most. -/
theorem beltUpdate_of_absent (habsent : u.view.cls = .absent) :
    ((beltUpdate p u s).picker p).reasons = (s.picker p).reasons ∧
      ((beltUpdate p u s).picker p).state = (s.picker p).state := by
  obtain ⟨q, hq, _⟩ := beltQuiet_eq p u s
  rw [beltUpdate_of_no_booking (beltBooking_of_not_booked (by simp [habsent]) (.inl (by simp [habsent]))), hq,
    beltSensor_of_not_raised (by rw [habsent]; rfl) (.inl (by simp [View.isGood, habsent])), State.picker_onPicker_same]
  exact ⟨rfl, rfl⟩

/-- R39: what a Held picker does where one of its reasons is gone, by what is left of them. -/
theorem afterRemoval_state :
    let r := s.picker p
    let t := afterRemoval p s
    (r.state ≠ .held → (t.picker p).state = r.state) ∧
      (r.state = .held → r.loading ≠ none →
        (r.reasons = HoldReasons.none → (t.picker p).state = .running) ∧
        (r.reasons ≠ HoldReasons.none → (t.picker p).state = .held)) ∧
      (r.state = .held → r.loading = none →
        (r.reasons.standing = true → (t.picker p).state = .held ∧ (t.picker p).loading = none) ∧
        (r.reasons.standing = false → ((t.picker p).state = .running ∧ (t.picker p).loading ≠ none) ∨
          ((t.picker p).state = .held ∧ (t.picker p).loading = none))) := by
  dsimp only
  refine ⟨fun h => by rw [afterRemoval_of_not_held h], fun hheld hloading => ⟨fun hnone => ?_, fun hnone => ?_⟩,
    fun hheld hloading => ⟨fun hstanding => ?_, fun hstanding => ?_⟩⟩
  · rw [afterRemoval_of_empty hheld hloading ((HoldReasons.isEmpty_iff _).mpr hnone), enterRunning,
      State.picker_onPicker_same]
  · rw [afterRemoval_of_not_empty hheld hloading (Bool.eq_false_iff.mpr fun h => hnone ((HoldReasons.isEmpty_iff _).mp h))]
    exact hheld
  · rw [afterRemoval_of_standing hheld hloading hstanding]
    exact ⟨hheld, hloading⟩
  · rw [afterRemoval_of_free hheld hloading hstanding]
    exact openOwn_state hheld hloading

theorem HoldReasons.standing_of_recovered (h : HoldReasons) : ({ h with sensorLost := false } : HoldReasons).standing = true ↔
    h.operator = true ∨ h.disabled = true ∨ h.unknownLot = true := by
  simp [HoldReasons.standing]
  tauto

/-- R51, R39: a Report of a fresh Zero that ends SensorLost. -/
theorem beltUpdate_of_zero (hfresh : u.freshZero) (hlost : (s.picker p).reasons.sensorLost = true) :
    beltUpdate p u s = afterRemoval p (onReasons p (fun h => { h with sensorLost := false }) s) := by
  obtain ⟨hreport, hcls, hsub⟩ := hfresh
  rw [beltUpdate_of_no_booking (beltBooking_of_not_booked (by simp [hcls]) (.inr hsub)),
    beltQuiet_of_freshZero ⟨hreport, hcls, hsub⟩, beltSensor_of_recovered hreport (by simp [View.isGood, hcls]) hsub hlost]

theorem picker_onReasons_same (f : HoldReasons → HoldReasons) (s : State) (p : PickerId) :
    (onReasons p f s).picker p = { s.picker p with reasons := f (s.picker p).reasons } := s.picker_onPicker_same p _

end

theorem unitTakes_beltScale (s : State) (p : PickerId) (u : Update) :
    unitTakes .beltScale (.picker p) u s = beltUpdate p u s := rfl

/-- Settles O33. A card is `takeUnusable_spec`, `takeUsable_current_spec` or `takeUsable_new_spec`; a Report of the belt scale
is its booking and then its part in SensorLost, each by the lemmas on `beltUpdate`. -/
theorem pickerTakesUpdates : Obligations.PickerTakesUpdates := by
  unfold Obligations.PickerTakesUpdates
  refine ⟨fun s p v settled lot hcard => ?card, fun s p u v hreport hv hcls hstate hlost => ⟨fun hcharge => ?none,
    fun n c l hcharge hlot hloading => ⟨fun hroom => ?room, fun hfull hserial => ?full⟩⟩, fun s p u hstate => ?clearing,
    fun s p u hsub => ⟨fun hraised => ?raised, fun habsent => ?absent, fun hreport hcls hlost => ?ended,
      fun hreport hcls hlost => ?zero⟩⟩
  case card =>
    obtain rfl : lot = cardLot v := hcard
    dsimp only
    rw [unitTakes_wagonReader]
    refine ⟨fun h => ?_, fun h => ?_, fun h hcurrent => ?_, fun h hnew => ?_⟩
    · rw [takeCard_of_unusable h]
      exact takeUnusable_spec p (cardLot v) s
    · rw [takeCard_of_usable h]
      exact takeUsable_clears h
    · rw [takeCard_of_usable h]
      exact takeUsable_current_spec hcurrent
    · rw [takeCard_of_usable h]
      exact takeUsable_new_spec hnew
  case none => exact beltUpdate_of_no_charge hreport hv hcls hstate hlost hcharge
  case room =>
    obtain ⟨_, hrecord⟩ := State.loadingCharge_eq_some_iff.mp hcharge
    rw [unitTakes_beltScale, beltUpdate_of_room hreport hv hcls hstate hlost hcharge hroom]
    exact ⟨State.charge_booked v _ hrecord, State.lot_booked v _ hlot, s.booked_pickers n c v _, s.booked_kilns n c v _,
      s.booked_store n c v _, s.booked_line n c v _⟩
  case full => exact beltUpdate_issued hreport hv hcls hstate hcharge hlot hfull hserial
  case clearing =>
    dsimp only
    rw [unitTakes_beltScale]
    by_cases h : beltBooking u = none ∨ s.loadingCharge p = none
    · obtain ⟨q, x, m, ⟨hfresh, hother⟩, heq⟩ := beltUpdate_of_clearing hstate h
      rw [heq, State.picker_onPicker_same]
      refine ⟨hstate, rfl, rfl, hfresh, hother, fun v n c l hreport hv hcls hcharge _ => ?_⟩
      simp [beltBooking_of_booked hreport hv hcls, hcharge] at h
    · obtain ⟨hbooking, hloading⟩ := not_or.mp h
      obtain ⟨v, hv⟩ := Option.ne_none_iff_exists'.mp hbooking
      obtain ⟨⟨n, c⟩, hcharge⟩ := Option.ne_none_iff_exists'.mp hloading
      obtain ⟨q, x, m, ⟨hfresh, hother⟩, heq⟩ := beltUpdate_of_clearing_booked hstate hv hcharge
      rw [heq, State.picker_onPicker_same, State.booked_picker]
      refine ⟨hstate, rfl, rfl, hfresh, hother, fun v' n' c' l hreport hv' hcls hcharge' hlot => ?_⟩
      obtain rfl : v = v' := Option.some.inj (hv.symm.trans (beltBooking_of_booked hreport hv' hcls))
      obtain ⟨rfl, rfl⟩ := Prod.mk.inj (Option.some.inj (hcharge.symm.trans hcharge'))
      obtain ⟨_, hrecord⟩ := State.loadingCharge_eq_some_iff.mp hcharge
      exact ⟨State.charge_booked v _ hrecord, State.lot_booked v _ hlot, s.booked_store n c v _, s.booked_kilns n c v _⟩
  case raised => exact beltUpdate_of_raised ((isRaised_iff _).mpr hraised) hsub
  case absent => exact beltUpdate_of_absent habsent
  case ended =>
    obtain ⟨t, ht⟩ := beltUpdate_cases p u s
    rw [unitTakes_beltScale, ht]
    exact beltSensor_keeps_no_sensorLost t p hreport (by simpa [View.isGood] using hcls) hsub
  case zero =>
    have hpicker := picker_onReasons_same (fun h => { h with sensorLost := false }) s p
    obtain ⟨hother, hcharge, hempty⟩ := afterRemoval_state (s := onReasons p (fun h => { h with sensorLost := false }) s) (p := p)
    rw [hpicker] at hother hcharge hempty
    rw [unitTakes_beltScale, beltUpdate_of_zero ⟨hreport, hcls, hsub⟩ hlost]
    refine ⟨hother, hcharge, fun hheld hloading => ?_⟩
    obtain ⟨hstanding, hfree⟩ := hempty hheld hloading
    refine ⟨fun h => hstanding ((HoldReasons.standing_of_recovered _).mpr h), fun ho hd hu => hfree ?_⟩
    refine Bool.eq_false_iff.mpr fun h => ?_
    simpa [ho, hd, hu] using (HoldReasons.standing_of_recovered _).mp h

end Sys2Proof.Machine
end

section
namespace Sys2Proof.Machine

/-! ### Lots that stay usable (R7, R8) -/

theorem State.lotUsable_iff {s : State} {n : Nat} :
    s.lotUsable n = true ↔ ∃ l, s.lot n = some l ∧ (l.state = .declared ∨ l.state = .active) := by
  unfold State.lotUsable
  cases s.lot n <;> simp

theorem State.lotUsable_congr {s t : State} {n : Nat} (h : t.lots = s.lots) : t.lotUsable n = s.lotUsable n := by
  rw [State.lotUsable, State.lotUsable, State.lot, State.lot, h]

/-- R8: a claim leaves its lot Active, and the others as they are. -/
theorem lotUsable_claimOpening {s : State} {n : Nat} (lot : Nat) (h : s.lotUsable n = true) :
    (claimOpening lot s).lotUsable n = true := by
  obtain ⟨l, hl, hstate⟩ := State.lotUsable_iff.mp h
  rw [State.lotUsable_iff, claimOpening]
  by_cases hlot : lot = n
  · subst hlot
    exact ⟨_, by rw [State.lot_onLot_same, hl]; rfl, .inr rfl⟩
  · exact ⟨l, by rw [State.lot_onLot_other _ _ hlot, hl], hstate⟩

theorem lots_failOpening (p : PickerId) (floor : Bool) (s : State) : (failOpening p floor s).lots = s.lots := by
  obtain ⟨g, h, heq⟩ := failOpening_eq p floor s
  rw [heq, State.onLine_lots, State.onNotice_lots, State.onPicker_lots]

theorem lots_returnReservation (kind : TicketKind) (s : State) : (returnReservation kind s).lots = s.lots := rfl

theorem lots_reserved (s : State) (p : PickerId) : (s.reserved p).lots = s.lots := by
  obtain ⟨g, h⟩ := grantReservation_eq .charge (s.attempting p)
  rw [State.reserved, h, State.onNotice_lots, State.onStore_lots, State.attempting, State.onPicker_lots]

theorem lots_refuseLot (p : PickerId) (k : KilnId) (lot : Nat) (s : State) : (refuseLot p k lot s).lots = s.lots := by
  obtain ⟨g, h, heq⟩ := refuseLot_eq p k lot s
  obtain ⟨f, _, hoffer⟩ := settleOffer_eq k
    ((((s.onPicker p (Picker.lotRefused lot)).onNotice g).onLine h).onRing k fun r => { r with offered := true, declined := [p] })
  rw [heq, lots_returnReservation, offerToOthers, openOffer, hoffer]
  rfl

theorem lotUsable_completeOpening {s : State} {n : Nat} (p : PickerId) (k : KilnId) (lot : Nat) (hdown : s.downFree = true)
    (h : s.lotUsable n = true) : (completeOpening p k lot s).lotUsable n = true := by
  obtain ⟨f, g, _, _, heq⟩ := completeOpening_eq p k lot hdown
  rw [heq]
  exact lotUsable_claimOpening lot h

/-- R8, R48: an attempt leaves every usable lot usable. -/
theorem lotUsable_tryOpen {s : State} {n : Nat} (p : PickerId) (target : OpeningTarget) (h : s.lotUsable n = true) :
    (tryOpen p target s).2.lotUsable n = true := by
  cases hlot : (s.picker p).currentLot with
  | none => simpa [tryOpen, hlot] using h
  | some lot =>
    rcases tryOpen_cases target hlot with ⟨floor, retry, g, heq⟩ | heq | ⟨k, _, _, hdown, heq⟩ | ⟨k, _, _, heq⟩
    · rwa [heq, State.lotUsable_congr (lots_failOpening p floor _)]
    · rwa [heq, State.lotUsable_congr (lots_returnReservation .charge _),
        State.lotUsable_congr ((lots_failOpening p true _).trans (lots_reserved s p))]
    · rw [heq]
      exact lotUsable_completeOpening p k lot ((s.reserved_downFree p).trans hdown)
        ((State.lotUsable_congr (lots_reserved s p)).trans h)
    · rwa [heq, State.lotUsable_congr ((lots_refuseLot p k lot _).trans (lots_reserved s p))]

/-! ### What a card at one picker leaves of the other -/

section
variable {s : State} {p : PickerId} {lot : Nat}

theorem openOwn_other {q : PickerId} (hq : q ≠ p) : MaybeWoken (s.picker q) ((openOwn p s).picker q) :=
  tryOpen_picker_other .own hq

/-- R42: all that a usable lot's card does: changes of its picker, an attempt of its own, or a clearance. -/
theorem takeUsable_cases (p : PickerId) (lot : Nat) (s : State) : ∃ f, takeUsable p lot s = s.onPicker p f ∨
    takeUsable p lot s = openOwn p (s.onPicker p f) ∨ takeUsable p lot s = startClearance p (s.onPicker p f) := by
  by_cases hcurrent : (s.picker p).currentLot = some lot
  · rw [takeUsable_of_current hcurrent]
    split
    · rcases afterRemoval_cases p (s.onPicker p Picker.lotCleared) with h | h | h
      · exact ⟨_, .inl h⟩
      · exact ⟨_, .inl (h.trans (State.onPicker_onPicker ..))⟩
      · exact ⟨_, .inr (.inl h)⟩
    · exact ⟨_, .inl rfl⟩
  · rw [takeUsable_of_new hcurrent]
    unfold takeNewLot
    dsimp only
    split
    · exact ⟨_, .inr (.inr (congrArg (startClearance p) (State.onPicker_onPicker ..)))⟩
    · exact ⟨_, .inr (.inr (congrArg (startClearance p) (State.onPicker_onPicker ..)))⟩
    · split
      · exact ⟨_, .inl (State.onPicker_onPicker ..)⟩
      · exact ⟨_, .inr (.inl (congrArg (openOwn p) (State.onPicker_onPicker ..)))⟩
    · exact ⟨_, .inl (State.onPicker_onPicker ..)⟩
    · exact ⟨_, .inl (State.onPicker_onPicker ..)⟩
    · exact ⟨_, .inl (State.onPicker_onPicker ..)⟩

theorem takeUsable_picker_other {q : PickerId} (hq : q ≠ p) : MaybeWoken (s.picker q) ((takeUsable p lot s).picker q) := by
  obtain ⟨f, h | h | h⟩ := takeUsable_cases p lot s
  · rw [h, State.picker_onPicker_other _ _ _ _ hq]
    exact .refl _
  · have hother := openOwn_other (s := s.onPicker p f) hq
    rwa [State.picker_onPicker_other _ _ _ _ hq, ← h] at hother
  · obtain ⟨g, c, heq, _⟩ := startClearance_eq p (s.onPicker p f)
    rw [h, heq]
    simpa [hq] using MaybeWoken.refl (s.picker q)

theorem lotUsable_takeUsable {n : Nat} (h : s.lotUsable n = true) : (takeUsable p lot s).lotUsable n = true := by
  obtain ⟨f, heq | heq | heq⟩ := takeUsable_cases p lot s
  · rw [heq]
    exact h
  · rw [heq]
    exact lotUsable_tryOpen p .own h
  · obtain ⟨g, c, hclear, _⟩ := startClearance_eq p (s.onPicker p f)
    rw [heq, hclear]
    exact h

end

/-! ### What an answer finds in place -/

/-- No operation of a unit queues a frame for the host or touches the request queue. -/
theorem ownUp_agent_closed (u : List OwnUp) (a : Agent) : Closed fun s => s.line.ownUp = u ∧ s.agent = a where
  kiln _ _ _ hs := hs
  picker _ _ _ hs := hs
  press _ _ _ hs := hs
  reserve _ _ hs := hs
  issued kind lot grower body hs := by
    obtain ⟨g, hg⟩ := issueTicket_eq_onStore kind lot grower body _
    rwa [hg]
  transfer _ hs := hs
  ended hs := hs
  lot n f hs := by
    obtain ⟨l, hl⟩ := State.onLot_eq_withLots _ n f
    rwa [hl]
  charge n f hs := by
    obtain ⟨l, hl⟩ := State.onCharge_eq_onPool _ n f
    rwa [hl]
  opened _ _ _ hs := hs
  freed _ hs := hs
  watch _ _ hs := hs
  latched n hs := by
    obtain ⟨g, hg⟩ := latch_eq_onNotice n _
    rwa [hg]
  timer st ch i hs := by
    obtain ⟨g, hg⟩ := startPollTimer_eq_onChan st ch i _
    rwa [hg]
  down f b hs := by
    obtain ⟨g, hg, h⟩ := queueDown_eq_onLine f b _
    obtain ⟨more, hmore⟩ := hg _
    rw [h, State.onLine_line, hmore]
    exact hs
  safety f hs := by
    unfold queueSafety
    rw [State.onLine_line]
    dsimp only
    split
    · exact hs
    · split <;> exact hs

/-- An answer to a rule that queues nothing for the host. -/
theorem State.answeredAs_reply {s t : State} (f : Frame) (a : Answer) (hup : t.line.ownUp = s.line.ownUp)
    (hagent : t.agent = s.agent) : s.answeredAs (t.reply f a) f a := by
  rw [State.answeredAs, ← hup, ← hagent]
  exact ⟨rfl, rfl⟩

/-- A lot's record stays: only Lot Remove frees one (R5). -/
theorem lot_isSome_closed (n : Nat) : Closed fun s => (s.lot n).isSome = true where
  kiln _ _ _ hs := hs
  picker _ _ _ hs := hs
  press _ _ _ hs := hs
  reserve _ _ hs := hs
  issued kind lot grower body hs := by
    obtain ⟨g, hg⟩ := issueTicket_eq_onStore kind lot grower body _
    rwa [hg]
  transfer _ hs := hs
  ended hs := hs
  lot {s} m f hs := by
    by_cases h : m = n
    · subst h
      rw [State.lot_onLot_same, Option.isSome_map]
      exact hs
    · rwa [State.lot_onLot_other _ _ h]
  charge n f hs := by
    obtain ⟨l, hl⟩ := State.onCharge_eq_onPool _ n f
    rwa [hl]
  opened _ _ _ hs := hs
  freed _ hs := hs
  watch _ _ hs := hs
  latched n hs := by
    obtain ⟨g, hg⟩ := latch_eq_onNotice n _
    rwa [hg]
  timer st ch i hs := by
    obtain ⟨g, hg⟩ := startPollTimer_eq_onChan st ch i _
    rwa [hg]
  down _ _ hs := hs
  safety _ hs := hs

end Sys2Proof.Machine
end

section
namespace Sys2Proof.Machine

/-! ### A declared lot releases the pickers held for it (R3, R41) -/

/-- R41: a picker holds UnknownLot for a lot number. -/
def Picker.heldFor (r : Picker) (n : Nat) : Prop := r.reasons.unknownLot = true ∧ r.refusedLot = some n

/-- R41: a picker holds UnknownLot for no lot. -/
def Picker.knowsLot (r : Picker) : Prop := r.reasons.unknownLot = false ∧ r.refusedLot = none

theorem MaybeWoken.heldFor {r t : Picker} {n : Nat} (h : MaybeWoken r t) (hr : r.heldFor n) : t.heldFor n := by
  obtain ⟨w, rfl⟩ := h
  exact hr

theorem MaybeWoken.knowsLot {r t : Picker} (h : MaybeWoken r t) (hr : r.knowsLot) : t.knowsLot := by
  obtain ⟨w, rfl⟩ := h
  exact hr

section
variable {s : State} {p : PickerId} {n : Nat}

theorem releaseUnknown_of_held (husable : s.lotUsable n = true) (h : (s.picker p).heldFor n) :
    releaseUnknown p n s = takeUsable p n s := (if_pos h).trans (takeCard_of_usable husable)

theorem releaseUnknown_of_not_held (h : ¬(s.picker p).heldFor n) : releaseUnknown p n s = s := if_neg h

theorem releaseUnknown_cases (p : PickerId) (husable : s.lotUsable n = true) :
    releaseUnknown p n s = s ∨ releaseUnknown p n s = takeUsable p n s := by
  by_cases h : (s.picker p).heldFor n
  · exact .inr (releaseUnknown_of_held husable h)
  · exact .inl (releaseUnknown_of_not_held h)

theorem releaseUnknown_knowsLot (husable : s.lotUsable n = true) (h : (s.picker p).heldFor n) :
    ((releaseUnknown p n s).picker p).knowsLot := by
  rw [releaseUnknown_of_held husable h]
  exact takeUsable_clears husable

theorem releaseUnknown_other {q : PickerId} (husable : s.lotUsable n = true) (hq : q ≠ p) :
    MaybeWoken (s.picker q) ((releaseUnknown p n s).picker q) := by
  rcases releaseUnknown_cases p husable with h | h
  · rw [h]
    exact .refl _
  · rw [h]
    exact takeUsable_picker_other hq

theorem lotUsable_releaseUnknown (husable : s.lotUsable n = true) : (releaseUnknown p n s).lotUsable n = true := by
  rcases releaseUnknown_cases p husable with h | h
  · rwa [h]
  · rw [h]
    exact lotUsable_takeUsable husable

/-- R3: both pickers, one after the other. -/
theorem releaseUnknown_both (husable : s.lotUsable n = true) (h : (s.picker p).heldFor n) :
    ((releaseUnknown .p2 n (releaseUnknown .p1 n s)).picker p).knowsLot := by
  have husable' : (releaseUnknown .p1 n s).lotUsable n = true := lotUsable_releaseUnknown husable
  cases p with
  | p1 => exact (releaseUnknown_other husable' (by decide)).knowsLot (releaseUnknown_knowsLot husable h)
  | p2 => exact releaseUnknown_knowsLot husable' ((releaseUnknown_other husable (by decide)).heldFor h)

end

/-! ### Lot Declare (R3) -/

/-- R3: what Lot Declare answers at the head of the request queue. -/
theorem exec_lotDeclare {s t : State} {f : Frame} {n grower variety : Nat} {m : Option Nat} {a : Answer}
    (hs : s.serves f (.lotDeclare n grower variety m)) (h : lotDeclare n grower variety m s = some (some a, t))
    (hu : t.line.ownUp = s.line.ownUp) : exec .lotDeclare s = .next (t.reply f a) :=
  congrArg Host.Outcome.next (serve_eq_reply hs h hu)

/-- R3, test 1: the arguments are sound. -/
theorem lotArgumentsOk_iff (n grower : Nat) (m : Option Nat) :
    lotArgumentsOk n grower m = true ↔ 1 ≤ n ∧ n ≤ 65534 ∧ 1 ≤ grower ∧ ∀ x, m = some x → x ≤ 1000 := by
  cases m <;> simp [lotArgumentsOk, and_assoc]

section
variable {s : State} {n grower variety : Nat} {m : Option Nat}

theorem lotDeclare_of_unsound (h : lotArgumentsOk n grower m = false ∨ (s.lot n).isSome = true) :
    lotDeclare n grower variety m s = refused .badArgument s := if_pos h

theorem lotDeclare_of_full (hargs : lotArgumentsOk n grower m = true) (hlot : s.lot n = none) (hfull : Config.lotPlaces ≤ s.lots.length) :
    lotDeclare n grower variety m s = refused .full s := by
  rw [lotDeclare, if_neg (by simp [hargs, hlot]), if_pos hfull]

/-- R3: the state of a lot just declared, before the pickers are released. -/
def State.declaring (s : State) (n grower variety : Nat) (m : Option Nat) : State :=
  s.withLots (tablePut s.lots n (.declared grower variety m))

theorem lotDeclare_of_room (hargs : lotArgumentsOk n grower m = true) (hlot : s.lot n = none) (hroom : s.lots.length < Config.lotPlaces) :
    lotDeclare n grower variety m s =
      replied (.done []) (releaseUnknown .p2 n (releaseUnknown .p1 n (s.declaring n grower variety m))) := by
  rw [lotDeclare, if_neg (by simp [hargs, hlot]), if_neg (Nat.not_le.mpr hroom)]
  rfl

theorem lot_declaring (s : State) (n grower variety : Nat) (m : Option Nat) :
    (s.declaring n grower variety m).lot n = some (.declared grower variety m) := tableGet_tablePut_self _ _ _

theorem lotUsable_declaring (s : State) (n grower variety : Nat) (m : Option Nat) :
    (s.declaring n grower variety m).lotUsable n = true :=
  State.lotUsable_iff.mpr ⟨_, lot_declaring s n grower variety m, .inl rfl⟩

end

/-- R3: whatever the pickers make of a declaration, the record and the answer stand. -/
theorem releaseUnknown_both_closed {P : State → Prop} (h : Closed P) (n : Nat) {s : State} (hs : P s) :
    P (releaseUnknown .p2 n (releaseUnknown .p1 n s)) := releaseUnknown_closed h .p2 n (releaseUnknown_closed h .p1 n hs)

/-- Settles O30: the refusals are equations of `lotDeclare`; a picker held for the lot takes its card (`releaseUnknown_both`). -/
theorem lotDeclareCreatesRecord : Obligations.LotDeclareCreatesRecord := by
  unfold Obligations.LotDeclareCreatesRecord
  intro s f n grower variety m hs
  have arguments (h : 1 ≤ n ∧ n ≤ 65534 ∧ 1 ≤ grower ∧ (∀ x, m = some x → x ≤ 1000) ∧ s.lot n = none) :
      lotArgumentsOk n grower m = true ∧ s.lot n = none := by
    obtain ⟨hn, hmax, hgrower, hm, hlot⟩ := h
    exact ⟨(lotArgumentsOk_iff n grower m).mpr ⟨hn, hmax, hgrower, hm⟩, hlot⟩
  dsimp only
  refine ⟨fun hunsound => ?unsound, fun hsound hfull => ?full, fun hsound hroom hnone => ?declared,
    fun p hsound hroom hunknown hrefused => ?released⟩
  case unsound =>
    refine exec_lotDeclare hs (lotDeclare_of_unsound ?_) rfl
    by_contra h
    rw [not_or, Bool.not_eq_false, lotArgumentsOk_iff, Option.not_isSome_iff_eq_none] at h
    obtain ⟨⟨hn, hmax, hgrower, hm⟩, hlot⟩ := h
    exact hunsound ⟨hn, hmax, hgrower, hm, hlot⟩
  case full =>
    obtain ⟨hargs, hlot⟩ := arguments hsound
    exact exec_lotDeclare hs (lotDeclare_of_full hargs hlot hfull) rfl
  case declared =>
    obtain ⟨hargs, hlot⟩ := arguments hsound
    have hfree (p : PickerId) : ¬((s.declaring n grower variety m).picker p).heldFor n := by
      rintro ⟨hunknown, hrefused⟩
      exact (hnone p).elim (fun h => by simp [State.declaring, h] at hunknown) (absurd hrefused)
    have heq := lotDeclare_of_room (variety := variety) hargs hlot hroom
    rw [releaseUnknown_of_not_held (hfree .p1), releaseUnknown_of_not_held (hfree .p2)] at heq
    exact exec_lotDeclare hs heq rfl
  case released =>
    obtain ⟨hargs, hlot⟩ := arguments hsound
    have hknows := releaseUnknown_both (p := p) (lotUsable_declaring s n grower variety m) ⟨hunknown, hrefused⟩
    obtain ⟨hup, hagent⟩ := releaseUnknown_both_closed (ownUp_agent_closed s.line.ownUp s.agent) n
      (s := s.declaring n grower variety m) ⟨rfl, rfl⟩
    have hrecord := releaseUnknown_both_closed (lot_isSome_closed n) n
      (s := s.declaring n grower variety m) (by rw [lot_declaring]; rfl)
    exact ⟨_, exec_lotDeclare hs (lotDeclare_of_room hargs hlot hroom) hup, State.answeredAs_reply f _ hup hagent, hrecord,
      hknows⟩

end Sys2Proof.Machine
end

section
namespace Sys2Proof.Machine

/-! ### A latch claim (R154) -/

/-- R154: what a latch claim makes of the Notice Latch. -/
theorem latch_claimed {n : Nat} (hn : n < 77) (s : State) : s.notice.claimed (latch n s).notice n := by
  unfold NoticeLatch.claimed latch
  split
  · rename_i hlatched
    exact ⟨hlatched, fun _ => rfl, fun h => by simp [hlatched] at h, rfl, rfl, fun _ _ => ⟨rfl, rfl⟩⟩
  · rename_i hlatched
    refine ⟨by simp [hn], fun h => absurd h hlatched, fun _ => by simp [hn], rfl, rfl, fun m hm => ⟨?_, ?_⟩⟩
    · simp [BitVec.getLsbD_twoPow, Ne.symm hm]
    · have hsent : s.notice.sent.getLsbD m = true → m < 77 := s.notice.sent.lt_of_getLsbD
      simpa [BitVec.getLsbD_twoPow, Ne.symm hm] using hsent

/-! ### The settlement test (R15) -/

section
variable {s : State} {n : Nat} {l : Lot}

theorem settleTest_of_open (h : s.lot n = some l) (hopen : ¬(l.state = .closing ∧ l.live = 0 ∧ l.bales = 0)) :
    settleTest n s = s := by
  simp only [settleTest, h]
  exact if_neg hopen

theorem settleTest_of_done (h : s.lot n = some l) (hdone : l.state = .closing ∧ l.live = 0 ∧ l.bales = 0) :
    settleTest n s = (issueTicket .settlement n l.grower (settlementBody l) s).onLot n fun l =>
      { l with reserved := false, state := .settled } := by
  simp only [settleTest, h]
  exact if_pos hdone

/-- R15, R16: what a settlement leaves: the lot Settled and its ticket. -/
theorem settleTest_settles (h : s.lot n = some l) (hdone : l.state = .closing ∧ l.live = 0 ∧ l.bales = 0) :
    (settleTest n s).lot n = some { l with reserved := false, state := .settled } ∧
      (s.store.nextSerial ≠ none → s.issued (settleTest n s) n l.grower (settlementBody l)) ∧
      (settleTest n s).store = (issueTicket .settlement n l.grower (settlementBody l) s).store := by
  obtain ⟨g, hg⟩ := issueTicket_eq_onStore .settlement n l.grower (settlementBody l) s
  rw [settleTest_of_done h hdone]
  refine ⟨?_, fun hserial => ?_, onLot_store _ _ _⟩
  · rw [State.lot_onLot_same, hg, State.onStore_lot_keep, h]
    rfl
  · refine State.issued_mono (issued_issueTicket .settlement n l.grower (settlementBody l) hserial) fun k hk => ?_
    rwa [onLot_store]

/-- The settlement test changes the Ticket Store and the Lot Table alone. -/
theorem settleTest_eq (n : Nat) (s : State) : ∃ g m, settleTest n s = (s.onStore g).withLots m := by
  cases hlot : s.lot n with
  | none => exact ⟨id, s.lots, by simp only [settleTest, hlot]; rfl⟩
  | some l =>
    by_cases hdone : l.state = .closing ∧ l.live = 0 ∧ l.bales = 0
    · obtain ⟨g, hg⟩ := issueTicket_eq_onStore .settlement n l.grower (settlementBody l) s
      obtain ⟨m, hm⟩ := State.onLot_eq_withLots (s.onStore g) n fun l => { l with reserved := false, state := .settled }
      exact ⟨g, m, by rw [settleTest_of_done hlot hdone, hg, hm]⟩
    · exact ⟨id, s.lots, settleTest_of_open hlot hdone⟩

end

/-! ### Lot Close (R4) -/

theorem exec_lotClose {s t : State} {f : Frame} {n : Nat} {a : Answer} (hs : s.serves f (.lotClose n))
    (h : lotClose n s = some (some a, t)) (hu : t.line.ownUp = s.line.ownUp) :
    exec .lotClose s = .next (t.reply f a) :=
  congrArg Host.Outcome.next (serve_eq_reply hs h hu)

/-- R133: a store that grants is Seeded. -/
theorem Store.seeded_of_grants {t : Store} (h : t.grants = true) : t.nextSerial ≠ none := by
  intro hnone
  simp [Store.grants, Store.room, hnone] at h

section
variable {s : State} {n : Nat} {l : Lot}

theorem lotClose_of_none (h : s.lot n = none) : lotClose n s = refused .notFound s := by
  simp only [lotClose, h]

theorem lotClose_of_closed (h : s.lot n = some l) (hl : l.state = .closing ∨ l.state = .settled) :
    lotClose n s = refused .state s := by
  simp only [lotClose, h]
  exact if_pos hl

theorem lotClose_of_unseeded (h : s.lot n = some l) (hl : ¬(l.state = .closing ∨ l.state = .settled))
    (hserial : s.store.nextSerial = none) : lotClose n s = refused .unseeded s := by
  simp only [lotClose, h, if_neg hl, hserial, Option.isNone_none, if_true]

theorem lotClose_of_full (h : s.lot n = some l) (hl : ¬(l.state = .closing ∨ l.state = .settled))
    (hserial : s.store.nextSerial ≠ none) (hgrants : s.store.grants = false) :
    lotClose n s = refused .full (latch srcStoreFull s) := by
  have hseeded : s.store.nextSerial.isSome = true := Option.isSome_iff_ne_none.mpr hserial
  simp only [lotClose, h, if_neg hl, askReservation_of_not_grants .settlement hgrants, refuseReservation, if_pos hseeded]
  exact if_neg (by simpa using hserial)

theorem lotClose_of_granted (h : s.lot n = some l) (hl : ¬(l.state = .closing ∨ l.state = .settled))
    (hgrants : s.store.grants = true) {t : State} {l' : Lot} (ht : closeLot n (grantReservation .settlement s) = t)
    (hlot : t.lot n = some l') : lotClose n s = replied (.done (byte1 (lotStateCode l'.state))) t := by
  simp only [lotClose, h, if_neg hl, askReservation_of_grants .settlement hgrants, ht, hlot]
  exact if_neg (by simpa using Store.seeded_of_grants hgrants)

end

/-- R116: no Starved press has a bale of the lot. -/
def State.noneStarvedFor (s : State) (n : Nat) : Prop :=
  ∀ b y, (s.press b).state = .starved → (s.press b).bale = some y → y.lot ≠ n

theorem lotEndTestOf_of_noneStarvedFor {s : State} {n : Nat} (b : PressId) (h : s.noneStarvedFor n) : lotEndTestOf n b s = s := by
  unfold lotEndTestOf
  split
  · rename_i hlot
    obtain ⟨y, hy, hyn⟩ := Option.map_eq_some_iff.mp hlot
    have hstate : (s.press b).state ≠ .starved := fun hstarved => h b y hstarved hy hyn
    unfold lotEndTest
    split
    · rename_i hstarved _
      exact absurd hstarved hstate
    · rfl
  · rfl

/-- R4: the lot marked Closing with its reservation. -/
def State.closingLot (s : State) (n : Nat) : State :=
  (grantReservation .settlement s).onLot n fun l => { l with reserved := true, state := .closing }

section
variable {s : State} {n : Nat} {l : Lot}

theorem closeLot_of_noneStarvedFor (h : s.noneStarvedFor n) :
    closeLot n (grantReservation .settlement s) = settleTest n (s.closingLot n) := by
  have hpress : (settleTest n (s.closingLot n)).noneStarvedFor n := by
    obtain ⟨g, hg⟩ := grantReservation_eq .settlement s
    obtain ⟨m, hm⟩ := State.onLot_eq_withLots (grantReservation .settlement s) n fun l => { l with reserved := true, state := .closing }
    obtain ⟨g', m', heq⟩ := settleTest_eq n (s.closingLot n)
    intro b
    rw [heq, State.closingLot, hm, hg]
    simpa using h b
  rw [closeLot, ← State.closingLot, lotEndTestOf_of_noneStarvedFor .b1 hpress, lotEndTestOf_of_noneStarvedFor .b2 hpress]

theorem lot_closingLot (h : s.lot n = some l) : (s.closingLot n).lot n = some { l with reserved := true, state := .closing } := by
  obtain ⟨g, hg⟩ := grantReservation_eq .settlement s
  rw [State.closingLot, State.lot_onLot_same, hg, State.onNotice_lot_keep, State.onStore_lot_keep, h]
  rfl

theorem store_closingLot (s : State) (n : Nat) :
    (s.closingLot n).store = { s.store with settlementRes := s.store.settlementRes + 1 } := by
  obtain ⟨g, hg⟩ := grantReservation_eq .settlement s
  rw [State.closingLot, onLot_store, hg]
  rfl

theorem clock_closingLot (s : State) (n : Nat) : (s.closingLot n).clock = s.clock := by
  obtain ⟨g, hg⟩ := grantReservation_eq .settlement s
  obtain ⟨m, hm⟩ := State.onLot_eq_withLots (grantReservation .settlement s) n fun l => { l with reserved := true, state := .closing }
  rw [State.closingLot, hm, hg]
  rfl

/-- R4, R15: what a close with a reservation leaves, where nothing or something of the lot is live. -/
theorem settleTest_closingLot_keeps (s : State) (n : Nat) : (settleTest n (s.closingLot n)).line.ownUp = s.line.ownUp ∧
    (settleTest n (s.closingLot n)).agent = s.agent :=
  have h := ownUp_agent_closed s.line.ownUp s.agent
  settleTest_closed h n (h.lot n _ (grantReservation_closed h .settlement ⟨rfl, rfl⟩))

theorem lot_reply (s : State) (f : Frame) (a : Answer) (n : Nat) : (s.reply f a).lot n = s.lot n := rfl

theorem store_reply (s : State) (f : Frame) (a : Answer) : (s.reply f a).store = s.store := rfl

theorem settlementRes_issueTicket (s : State) (lot grower : Nat) (body : TicketBody) (h : s.store.nextSerial ≠ none) :
    (issueTicket .settlement lot grower body s).store.settlementRes = s.store.settlementRes - 1 := by
  obtain ⟨m, hm⟩ := Option.ne_none_iff_exists'.mp h
  simp only [issueTicket, hm]
  rfl

end

/-- Settles O31: the refusals are equations of `lotClose`; a granted close is the settlement test of the Closing lot
(`closeLot_of_noneStarvedFor`). -/
theorem lotCloseReservesOrSettles : Obligations.LotCloseReservesOrSettles := by
  unfold Obligations.LotCloseReservesOrSettles
  refine fun s f n hs => ⟨fun hnone => ?missing, fun l hl => ⟨fun hclosed => ?closed, fun hstate => ?_⟩⟩
  case missing => exact exec_lotClose hs (lotClose_of_none hnone) rfl
  case closed => exact exec_lotClose hs (lotClose_of_closed hl hclosed) rfl
  have hopen : ¬(l.state = .closing ∨ l.state = .settled) := by rcases hstate with h | h <;> simp [h]
  refine ⟨fun hserial => ?unseeded, fun hserial hgrants => ?full, fun hgrants hstarved => ?_⟩
  case unseeded => exact exec_lotClose hs (lotClose_of_unseeded hl hopen hserial) rfl
  case full =>
    obtain ⟨g, hg⟩ := latch_eq_onNotice srcStoreFull s
    have hclaimed := latch_claimed (n := srcStoreFull) (by decide) s
    refine ⟨_, exec_lotClose hs (lotClose_of_full hl hopen hserial hgrants) (by rw [hg]; rfl), ?_, hclaimed⟩
    rw [hg]
    rfl
  obtain ⟨hup, hagent⟩ := settleTest_closingLot_keeps s n
  have hclose := closeLot_of_noneStarvedFor hstarved
  have hlot := lot_closingLot hl
  refine ⟨fun hlive => ?kept, fun hlive hbales => ?settled⟩
  case kept =>
    have hsame : settleTest n (s.closingLot n) = s.closingLot n :=
      settleTest_of_open hlot fun ⟨_, hlive', hbales'⟩ => hlive.elim (Nat.ne_of_gt · hlive') (Nat.ne_of_gt · hbales')
    rw [hsame] at hclose hup hagent
    refine ⟨_, exec_lotClose hs (lotClose_of_granted hl hopen hgrants hclose hlot) hup, State.answeredAs_reply f _ hup hagent,
      ?_, ?_⟩
    · rw [lot_reply, hlot]
    · rw [store_reply, store_closingLot]
  case settled =>
    obtain ⟨hsettled, hissued, hstore⟩ := settleTest_settles hlot ⟨rfl, hlive, hbales⟩
    have hkeeps : (s.closingLot n).store.nextSerial = s.store.nextSerial := by rw [store_closingLot]
    have hserial : (s.closingLot n).store.nextSerial ≠ none := hkeeps ▸ Store.seeded_of_grants hgrants
    refine ⟨_, exec_lotClose hs (lotClose_of_granted hl hopen hgrants hclose hsettled) hup, State.answeredAs_reply f _ hup hagent,
      ?_, ?_, ?_⟩
    · rw [lot_reply, hsettled]
    · exact State.issued_mono (State.issued_congr hkeeps.symm (clock_closingLot s n).symm (hissued hserial)) fun k hk => by
        rwa [store_reply]
    · rw [store_reply, hstore, settlementRes_issueTicket _ _ _ _ hserial, store_closingLot]
      rfl

end Sys2Proof.Machine
end

section
namespace Sys2Proof.Machine

/-! ### The Run order (R112) -/

/-- R112: a Run order changes its press and the line: it is queued, owed where no place is free, or has no PileFeed. -/
theorem giveRun_eq (b : PressId) (s : State) : ∃ owed g,
    giveRun b s = (s.onPress b fun r => { r with feedRun := true, runOwed := owed }).onLine g ∧
      (s.bound .pileFeed (.press b) = none → owed = false ∧ g s.line = s.line) ∧
      ∀ st, s.bound .pileFeed (.press b) = some st →
        (s.line.ownDown.length < 6 → owed = false ∧ (g s.line).ownDown = s.line.ownDown ++
          [{ frame := ownCommand st 1, safety := false, injected := false }]) ∧
        (6 ≤ s.line.ownDown.length → owed = true ∧ g s.line = s.line) := by
  unfold giveRun
  simp only [State.onPress_bound_keep, State.onPress_downFree_keep]
  cases hbound : s.bound .pileFeed (.press b) with
  | none => exact ⟨false, id, rfl, fun _ => ⟨rfl, rfl⟩, fun st h => by cases h⟩
  | some st =>
    by_cases hplaces : s.line.ownDown.length < 6
    · have hqueued : s.line.ownDown.length < Config.ownDownPlaces := Nat.lt_trans hplaces (by decide)
      refine ⟨false, _, if_pos (decide_eq_true hplaces), fun h => (Option.some_ne_none st h).elim,
        fun st' hst => ⟨fun _ => ⟨rfl, ?_⟩, fun hfull => absurd hplaces (Nat.not_lt.mpr hfull)⟩⟩
      obtain rfl := Option.some.inj hst
      rw [if_pos hqueued]
    · refine ⟨true, id, ?_, fun h => (Option.some_ne_none st h).elim,
        fun st' _ => ⟨fun h => absurd h hplaces, fun _ => ⟨rfl, rfl⟩⟩⟩
      exact (if_neg fun h => hplaces (of_decide_eq_true h)).trans (State.onPress_onPress ..)

/-! ### The fill start (R111, R12) -/

/-- R111, R110: the press whose fill starts with a charge at the head of its pile. -/
def Press.startedWith (c : Nat) (r : Charge) (x : Press) : Press :=
  { x with
    state := .filling
    reservationWait := false
    nextBale := nextNumber x.nextBale
    bale := some { number := x.nextBale, lot := r.lot, contents := [{ charge := c, drawn := 0 }], fill := 0, endReason := none,
                   short := false, overdraw := false, estimated := r.source == some .estimated, faulted := false, gross := none,
                   net := none, moisture := none } }

section
variable {s : State} {b : PressId} {c : Nat} {rest : List Nat} {r : Charge}

theorem beginFill_eq (hentries : (s.press b).entries = c :: rest) (hcharge : s.charge c = some r) :
    beginFill b s = giveRun b (startBaleOfLot r.lot (s.onPress b (Press.startedWith c r))) := by
  unfold beginFill appendContent State.onBale
  simp only [hentries, hcharge, State.onPress_charge_keep, Option.map_some, Option.getD_some, Option.bind_some,
    State.onPress_onPress, Bool.false_or, List.nil_append]
  rfl

theorem askFill_of_grants (h : s.store.grants = true) :
    askFill b s = beginFill b (grantReservation .bale (s.onPress b fun x => { x with fillDue := false })) := by
  unfold askFill
  dsimp only
  rw [askReservation_of_grants .bale (s := s.onPress b fun x => { x with fillDue := false }) h]

theorem askFill_of_not_grants (h : s.store.grants = false) :
    askFill b s = (refuseReservation (s.onPress b fun x => { x with fillDue := false })).onPress b fun x =>
      { x with reservationWait := true } := by
  unfold askFill
  dsimp only
  rw [askReservation_of_not_grants .bale (s := s.onPress b fun x => { x with fillDue := false }) h]

theorem tryFill_of_mayFill (h : (s.press b).mayFill = true) : tryFill b s = askFill b s := if_pos h

theorem tryFill_of_not_mayFill (h : (s.press b).mayFill = false) : tryFill b s = s := if_neg (by simp [h])

/-- R111: the conditions of a fill start at a press with an entry in its pile. -/
theorem Press.mayFill_iff {x : Press} (h : x.entries = c :: rest) :
    x.mayFill = true ↔ x.state = .idle ∧ x.auto = true ∧ x.slot = none := by
  simp [Press.mayFill, h, and_assoc]

/-- R133: what a refusal makes of the Notice Latch. -/
theorem refuseReservation_spec (s : State) : ∃ g, refuseReservation s = s.onNotice g ∧
    (s.store.nextSerial ≠ none → s.notice.claimed (g s.notice) srcStoreFull) ∧
    (s.store.nextSerial = none → g s.notice = s.notice) := by
  unfold refuseReservation
  split
  · rename_i hseeded
    obtain ⟨g, hg⟩ := latch_eq_onNotice srcStoreFull s
    have hclaimed := latch_claimed (n := srcStoreFull) (by decide) s
    rw [hg] at hclaimed
    exact ⟨g, hg, fun _ => hclaimed, fun hnone => by simp [hnone] at hseeded⟩
  · rename_i hseeded
    exact ⟨id, rfl, fun hserial => absurd (Option.isSome_iff_ne_none.mpr hserial) hseeded, fun _ => rfl⟩

/-- R111, R133: a press refused its reservation waits for the store. -/
theorem askFill_refused (b : PressId) (h : s.store.grants = false) :
    (s.store.nextSerial ≠ none → s.notice.claimed (askFill b s).notice srcStoreFull) ∧
      (s.store.nextSerial = none → (askFill b s).notice = s.notice) ∧
      askFill b s = { s.onPress b fun x => { x with fillDue := false, reservationWait := true } with
        notice := (askFill b s).notice } := by
  obtain ⟨g, hg, hseeded, hunseeded⟩ := refuseReservation_spec (s.onPress b fun x => { x with fillDue := false })
  have heq : askFill b s = (s.onPress b fun x => { x with fillDue := false, reservationWait := true }).onNotice g := by
    rw [askFill_of_not_grants h, hg, show (State.onNotice _ g).onPress b _ = (State.onPress _ b _).onNotice g from rfl,
      State.onPress_onPress]
  rw [heq]
  exact ⟨hseeded, hunseeded, rfl⟩

/-- R111, R133: the state of a fill start with its reservation, before the lot's count and the Run order. -/
def State.fillStarted (s : State) (b : PressId) (c : Nat) (r : Charge) (n : NoticeLatch → NoticeLatch) : State :=
  ((s.onStore fun t => { t with baleRes := t.baleRes + 1 }).onNotice n).onPress b fun x =>
    { x with fillDue := false }.startedWith c r

/-- R111, R12, R133: the fill that starts with the reservation. -/
theorem askFill_started (hentries : (s.press b).entries = c :: rest) (hcharge : s.charge c = some r)
    (h : s.store.grants = true) : ∃ n, askFill b s = giveRun b (startBaleOfLot r.lot (s.fillStarted b c r n)) := by
  obtain ⟨n, hn⟩ := grantReservation_eq .bale (s.onPress b fun x => { x with fillDue := false })
  refine ⟨n, ?_⟩
  rw [askFill_of_grants h, hn]
  have hbegin := beginFill_eq (s := ((s.onPress b fun x => { x with fillDue := false }).onStore fun t =>
    t.onKind .bale (· + 1)).onNotice n) (b := b) (by simpa using hentries) (show _ = some r from hcharge)
  rw [hbegin, show (State.onNotice (State.onStore (s.onPress b _) _) n).onPress b _ =
    ((State.onPress (s.onPress b fun x => { x with fillDue := false }) b (Press.startedWith c r)).onStore fun t =>
      t.onKind .bale (· + 1)).onNotice n from rfl, State.onPress_onPress]
  rfl

end

/-- Settles O49: a fill start is the reservation asked for (`askFill_refused`, `askFill_started`) and the Run order
(`giveRun_eq`). -/
theorem fillStartTakesHead : Obligations.FillStartTakesHead := by
  unfold Obligations.FillStartTakesHead
  intro s b c rest r hdue hentries hcharge
  have hexec : exec (.fillStart b) s = .next (tryFill b s) := congrArg Host.Outcome.next (if_pos hdue)
  refine ⟨fun hno => ?notMet, fun hidle hauto hslot => ?_⟩
  case notMet =>
    rw [hexec, tryFill_of_not_mayFill]
    refine Bool.eq_false_iff.mpr fun hmay => ?_
    obtain ⟨hidle, hauto, hslot⟩ := (Press.mayFill_iff hentries).mp hmay
    simp [hidle, hauto, hslot] at hno
  rw [hexec, tryFill_of_mayFill ((Press.mayFill_iff hentries).mpr ⟨hidle, hauto, hslot⟩)]
  refine ⟨fun hgrants => ⟨_, rfl, askFill_refused b hgrants⟩, fun hgrants => ⟨_, rfl, ?_⟩⟩
  obtain ⟨n, hstart⟩ := askFill_started hentries hcharge hgrants
  obtain ⟨l, hl⟩ := State.onLot_eq_withLots (s.fillStarted b c r n) r.lot fun l => { l with bales := l.bales + 1 }
  have hlot := (s.fillStarted b c r n).lot_onLot_same r.lot fun l => { l with bales := l.bales + 1 }
  rw [hstart, startBaleOfLot]
  rw [hl] at hlot ⊢
  obtain ⟨owed, g, hrun, hunbound, hbound⟩ := giveRun_eq b ((s.fillStarted b c r n).withLots l)
  have hpress : (giveRun b ((s.fillStarted b c r n).withLots l)).press b =
      { { s.press b with fillDue := false }.startedWith c r with feedRun := true, runOwed := owed } := by
    rw [hrun]
    simp [State.fillStarted]
  rw [hpress, hrun]
  exact ⟨rfl, rfl, rfl, rfl, rfl, rfl, hentries, rfl, hlot, hunbound, hbound⟩

end Sys2Proof.Machine
end

section
namespace Sys2Proof.Machine

/-! ### The net weight (R27) -/

theorem View.isGood_iff (v : View) : v.isGood = true ↔ v.cls = .normal ∨ v.cls = .zero := by simp [View.isGood]

section
variable {v : View} {tare : Nat} {gross : Int}

theorem netWeight_of_not_good (hnormal : v.cls ≠ .normal) (hzero : v.cls ≠ .zero) :
    (netWeight v tare).cls = v.cls ∧ (netWeight v tare).value = none := by
  have hgood : ¬v.isGood = true := fun h => (v.isGood_iff.mp h).elim hnormal hzero
  simp [netWeight, hgood]

theorem netWeight_of_good (hgood : v.cls = .normal ∨ v.cls = .zero) (hv : v.value = some gross) :
    (0 < gross - tare → (netWeight v tare).cls = .normal ∧ (netWeight v tare).value = some (gross - tare)) ∧
      (gross - tare = 0 → (netWeight v tare).cls = .zero ∧ (netWeight v tare).value = some 0) ∧
      (gross - tare < 0 → (netWeight v tare).cls = .low ∧ (netWeight v tare).value = none) := by
  simp only [netWeight, v.isGood_iff.mpr hgood, hv, if_true]
  refine ⟨fun h => ?_, fun h => ?_, fun h => ?_⟩
  · rw [if_pos h]
    exact ⟨rfl, rfl⟩
  · rw [if_neg (by omega), if_pos h]
    exact ⟨rfl, rfl⟩
  · rw [if_neg (by omega), if_neg (by omega)]
    exact ⟨rfl, rfl⟩

end

/-! ### A bale completes (R121, R13) -/

/-- R15: the settlement test changes its lot's state and reservation at most. -/
theorem lot_settleTest {s : State} {n : Nat} {l : Lot} (h : s.lot n = some l) :
    ∃ x y, (settleTest n s).lot n = some { l with reserved := x, state := y } := by
  by_cases hdone : l.state = .closing ∧ l.live = 0 ∧ l.bales = 0
  · exact ⟨false, .settled, (settleTest_settles h hdone).1⟩
  · exact ⟨l.reserved, l.state, by rw [settleTest_of_open h hdone, h]⟩

/-- R13: the lot after a completed bale, but for its settlement. -/
def Lot.baled (net : Option Int) (l : Lot) : Lot :=
  { l with
    baleCount := l.baleCount + 1
    netBaled := match net with
      | some v => addMass l.netBaled v
      | none => l.netBaled
    unweighed := match net with
      | some _ => l.unweighed
      | none => l.unweighed + 1
    bales := l.bales - 1 }

theorem completeBaleOfLot_eq (n : Nat) (net : Option Int) (s : State) :
    completeBaleOfLot n net s = settleTest n (s.onLot n (Lot.baled net)) := rfl

/-- R13: a completed bale changes the Ticket Store and the Lot Table alone. -/
theorem completeBaleOfLot_frame (n : Nat) (net : Option Int) (s : State) :
    ∃ g m, completeBaleOfLot n net s = (s.onStore g).withLots m := by
  obtain ⟨l, hl⟩ := State.onLot_eq_withLots s n (Lot.baled net)
  obtain ⟨g, m, h⟩ := settleTest_eq n (s.withLots l)
  exact ⟨g, m, by rw [completeBaleOfLot_eq, hl, h]; rfl⟩

/-- R121: the press whose bale has completed with a recent-bale entry. -/
def Press.completedWith (e : RecentBale) (r : Press) : Press :=
  { r with
    recent := (if r.recent.length < Config.recentPlaces then r.recent else r.recent.drop 1) ++ [e]
    bale := none
    state := .idle
    fillDue := true }

/-- R121: the bale a completion issues a ticket of. -/
def Bale.judged (minimum : Nat) (x : Bale) : Bale := { x with short := decide (x.fill.toNat < minimum) }

/-- R121: the recent-bale entry of a completed bale. -/
def Bale.entry (x : Bale) (grower serial tare : Nat) : RecentBale :=
  { number := x.number, lot := x.lot, grower := grower, serial := serial, gross := x.gross, net := x.net, tare := tare }

section
variable {s : State} {b : PressId} {x : Bale} {l : Lot} {serial : Nat}

/-- R121: the state of a completion with its ticket and the press emptied, before the claim on the lot. -/
def State.baleIssued (s : State) (b : PressId) (x : Bale) (grower serial : Nat) : State :=
  (issueTicket .bale x.lot grower (.bale b (x.judged (s.press b).config.minimum) (s.press b).config.tare) s).onPress b
    (Press.completedWith (x.entry grower serial (s.press b).config.tare))

theorem completeBale_eq (hbale : (s.press b).bale = some x) (hlot : s.lot x.lot = some l) (hserial : s.store.nextSerial = some serial) :
    completeBale b s = if x.net.isNone then latch (srcUnweighed b) (completeBaleOfLot x.lot x.net (s.baleIssued b x l.grower serial))
      else completeBaleOfLot x.lot x.net (s.baleIssued b x l.grower serial) := by
  have hgrower : s.growerOf x.lot = l.grower := by rw [State.growerOf, hlot]; rfl
  have hnext : s.serialNext = serial := by rw [State.serialNext, hserial]; rfl
  simp only [completeBale, hbale, hgrower, hnext]
  rfl

theorem latch_if_eq_onNotice (c : Bool) (n : Nat) (s : State) : ∃ g, (if c then latch n s else s) = s.onNotice g := by
  cases c with
  | true => exact latch_eq_onNotice n s
  | false => exact ⟨id, rfl⟩

/-- R121, R13, R109: what a completed bale leaves at its press, in the store and at its lot. -/
theorem completeBale_spec (hbale : (s.press b).bale = some x) (hlot : s.lot x.lot = some l)
    (hserial : s.store.nextSerial = some serial) :
    let t := completeBale b s
    t.press b = (s.press b).completedWith (x.entry l.grower serial (s.press b).config.tare) ∧
      s.issued t x.lot l.grower (.bale b (x.judged (s.press b).config.minimum) (s.press b).config.tare) ∧
      (∃ r y, t.lot x.lot = some { l.baled x.net with reserved := r, state := y }) ∧
      (x.net = none → t.latchedNow (srcUnweighed b)) := by
  dsimp only
  obtain ⟨g, m, hframe⟩ := completeBaleOfLot_frame x.lot x.net (s.baleIssued b x l.grower serial)
  obtain ⟨c, hc⟩ := latch_if_eq_onNotice x.net.isNone (srcUnweighed b) (completeBaleOfLot x.lot x.net (s.baleIssued b x l.grower serial))
  obtain ⟨i, hi⟩ := issueTicket_eq_onStore .bale x.lot l.grower (.bale b (x.judged (s.press b).config.minimum) (s.press b).config.tare) s
  rw [completeBale_eq hbale hlot hserial]
  refine ⟨?press, ?issued, ?lot, fun hnet => ?latched⟩
  case press =>
    rw [hc, hframe, State.baleIssued, hi]
    simp
  case issued =>
    refine State.issued_mono (issued_issueTicket .bale x.lot l.grower _ (by simp [hserial])) fun k hk => ?_
    rw [hc, State.onNotice_store]
    exact completeBaleOfLot_closed (mem_tickets_closed k) x.lot x.net hk
  case lot =>
    have hbaled : ((s.baleIssued b x l.grower serial).onLot x.lot (Lot.baled x.net)).lot x.lot = some (l.baled x.net) := by
      rw [State.lot_onLot_same, State.baleIssued, hi, State.onPress_lot_keep, State.onStore_lot_keep, hlot]
      rfl
    rw [hc, completeBaleOfLot_eq, State.onNotice_lot_keep]
    exact lot_settleTest hbaled
  case latched =>
    rw [if_pos (by simp [hnet])]
    exact latchedNow_latch _ _ (by cases b <;> decide)

end

end Sys2Proof.Machine
end

section
namespace Sys2Proof.Machine

/-! ### A weighing for a bale ends (R120) -/

/-- R120: the bale with the gross, the net and the moisture of its weighing. -/
def Bale.weighed (gross net moisture : Option Int) (x : Bale) : Bale := { x with gross := gross, net := net, moisture := moisture }

/-- R120, R121: what a completed weighing with a gross and a net leaves. -/
def State.baleCompleted (s : State) (b : PressId) (x : Bale) (l : Lot) (serial : Nat) (t : State) (gross net : Option Int) : Prop :=
  (t.press b).state = .idle ∧ (t.press b).bale = none ∧ (t.press b).slot = none ∧
    s.issued t x.lot l.grower (.bale b { x with
      gross := gross, net := net, moisture := s.baleMoistureNow b,
      short := decide (x.fill.toNat < (s.press b).config.minimum) } (s.press b).config.tare) ∧
    (t.press b).recent.getLast? = some
      { number := x.number, lot := x.lot, grower := l.grower, serial := serial, gross := gross, net := net,
        tare := (s.press b).config.tare } ∧
    (t.lot x.lot).map Lot.baleCount = some (l.baleCount + 1) ∧ (t.lot x.lot).map Lot.bales = some (l.bales - 1) ∧
    (∀ v, net = some v → (t.lot x.lot).map Lot.netBaled = some (l.netBaled + BitVec.ofInt 32 v)) ∧
    (net = none → (t.lot x.lot).map Lot.unweighed = some (l.unweighed + 1) ∧ t.latchedNow (srcUnweighed b))

section
variable {s : State} {b : PressId} {w : WeighSlot} {x : Bale} {l : Lot} {serial : Nat}

theorem endBaleWeighing_eq (gross net : Option Int) (hbale : (s.press b).bale = some x) :
    endBaleWeighing b gross net s = completeBale b (s.onPress b fun r =>
      { r with bale := some (x.weighed gross net (s.baleMoistureNow b)), slot := none }) := by
  refine congrArg (completeBale b) ((State.onPress_onPress ..).trans (State.onPress_congr ?_))
  dsimp only
  rw [hbale]
  rfl

/-- R120, R121, R13: a weighing with a gross and a net completes its bale. -/
theorem endBaleWeighing_completes (gross net : Option Int) (hbale : (s.press b).bale = some x) (hlot : s.lot x.lot = some l)
    (hserial : s.store.nextSerial = some serial) : s.baleCompleted b x l serial (endBaleWeighing b gross net s) gross net := by
  obtain ⟨hpress, hissued, ⟨r, y, hlot'⟩, hlatched⟩ := completeBale_spec (b := b) (l := l) (serial := serial)
    (x := x.weighed gross net (s.baleMoistureNow b))
    (s := s.onPress b fun r => { r with bale := some (x.weighed gross net (s.baleMoistureNow b)), slot := none })
    (by simp) hlot hserial
  rw [State.press_onPress_same] at hpress hissued
  rw [endBaleWeighing_eq gross net hbale, State.baleCompleted, hpress]
  refine ⟨rfl, rfl, rfl, State.issued_congr rfl rfl hissued, List.getLast?_concat, ?_⟩
  have hlot'' : (completeBale b (s.onPress b fun r =>
      { r with bale := some (x.weighed gross net (s.baleMoistureNow b)), slot := none })).lot x.lot = _ := hlot'
  rw [hlot'']
  refine ⟨rfl, rfl, fun v hv => ?_, fun hnone => ⟨?_, hlatched hnone⟩⟩
  · subst hv
    rfl
  · subst hnone
    rfl

/-! ### The weigh window (R120) -/

theorem exec_weighWindowEnd_of_open (hslot : (s.press b).slot = some w) (h : s.now < w.start + w.window) :
    exec (.weighWindowEnd b) s = .next s := by
  show execWeighWindowEnd b s = _
  simp only [execWeighWindowEnd, hslot]
  exact if_neg (Nat.not_le.mpr h)

theorem exec_weighWindowEnd_of_over (hslot : (s.press b).slot = some w) (hpurpose : w.purpose = .bale)
    (h : w.start + w.window ≤ s.now) : exec (.weighWindowEnd b) s = .next (endBaleWeighing b w.best none s) := by
  show execWeighWindowEnd b s = _
  simp only [execWeighWindowEnd, hslot, hpurpose]
  exact if_pos h

/-! ### A good weight (R120) -/

theorem unitTakes_baleScale (s : State) (b : PressId) (u : Update) :
    unitTakes .baleScale (.press b) u s = baleScaleUpdate b u s := rfl

section
variable {u : Update} {gross : Int} (hslot : (s.press b).slot = some w) (hpurpose : w.purpose = .bale) (hreport : u.report = true)
  (hsettled : u.settled = true) (hcls : u.view.cls = .normal) (hsub : u.view.substituted = false) (hv : u.view.value = some gross)
include hslot hpurpose hreport hsettled hcls hsub hv

theorem baleScaleUpdate_of_weight (h : 0 < gross - (s.press b).config.tare) :
    baleScaleUpdate b u s = endBaleWeighing b (some gross) (some (gross - (s.press b).config.tare)) s := by
  obtain ⟨hnet, hvalue⟩ := (netWeight_of_good (.inl hcls) hv).1 h
  have htare : (s.press b).weighTare w = (s.press b).config.tare := by rw [Press.weighTare, hpurpose]
  simp only [baleScaleUpdate, hslot, hv, if_pos (show u.report = true ∧ u.settled = true ∧ u.view.cls = .normal ∧
    u.view.substituted = false from ⟨hreport, hsettled, hcls, hsub⟩), htare, hnet, hvalue, hpurpose]

theorem baleScaleUpdate_of_no_weight (h : gross - (s.press b).config.tare ≤ 0) :
    baleScaleUpdate b u s = s.onPress b fun r => { r with slot := some { w with best := some gross } } := by
  obtain ⟨_, hzero, hlow⟩ := netWeight_of_good (tare := (s.press b).config.tare) (.inl hcls) hv
  have htare : (s.press b).weighTare w = (s.press b).config.tare := by rw [Press.weighTare, hpurpose]
  rcases Int.lt_or_eq_of_le h with h | h
  · obtain ⟨hnet, hvalue⟩ := hlow h
    simp only [baleScaleUpdate, hslot, hv, if_pos (show u.report = true ∧ u.settled = true ∧ u.view.cls = .normal ∧
      u.view.substituted = false from ⟨hreport, hsettled, hcls, hsub⟩), htare, hnet, hvalue]
  · obtain ⟨hnet, hvalue⟩ := hzero h
    simp only [baleScaleUpdate, hslot, hv, if_pos (show u.report = true ∧ u.settled = true ∧ u.view.cls = .normal ∧
      u.view.substituted = false from ⟨hreport, hsettled, hcls, hsub⟩), htare, hnet, hvalue]

end

end

/-- Settles O53: a good weight and the end of the window both end the weighing (`endBaleWeighing_completes`); the net weight is
`netWeight_of_good` and `netWeight_of_not_good`. -/
theorem weighingCompletesBale : Obligations.WeighingCompletesBale := by
  unfold Obligations.WeighingCompletesBale
  refine ⟨fun s b w x l serial hslot hpurpose hbale hlot hserial => ⟨fun hopen => ?early, fun hover => ?late,
    fun u gross hreport hsettled hcls hsub hv => ⟨fun hweight => ?weight, fun hweight => ?noWeight⟩⟩,
    fun v tare => ⟨rfl, netWeight_of_not_good, fun gross => netWeight_of_good⟩⟩
  case early => exact exec_weighWindowEnd_of_open hslot hopen
  case late => exact ⟨_, exec_weighWindowEnd_of_over hslot hpurpose hover, endBaleWeighing_completes w.best none hbale hlot hserial⟩
  case weight =>
    rw [unitTakes_baleScale, baleScaleUpdate_of_weight hslot hpurpose hreport hsettled hcls hsub hv hweight]
    exact endBaleWeighing_completes _ _ hbale hlot hserial
  case noWeight => exact baleScaleUpdate_of_no_weight hslot hpurpose hreport hsettled hcls hsub hv hweight

end Sys2Proof.Machine
end

section
namespace Sys2Proof.Machine

/-! ### What a drop start keeps (R69, R70, R91) -/

/-- R93: a kiln's excursion and its band mark are those of another. -/
def Kiln.sameExcursion (r t : Kiln) : Prop := t.excursionStart = r.excursionStart ∧ t.bandLatched = r.bandLatched

theorem Kiln.sameExcursion.trans {r t u : Kiln} (h : r.sameExcursion t) (h' : t.sameExcursion u) : r.sameExcursion u :=
  ⟨h'.1.trans h.1, h'.2.trans h.2⟩

/-- An entry to a kiln state leaves the kiln as it was but for the state and its injections. -/
theorem kiln_enterKiln_same (k : KilnId) (st : KilnState) (s : State) :
    ∃ x y z, (enterKiln k st s).kiln k = { s.kiln k with state := st, burnerOwed := x, fanOwed := y, lastInjection := z } := by
  obtain ⟨f, g, hf, _, h⟩ := enterKiln_eq k st s
  obtain ⟨x, y, z, hr⟩ := hf { s.kiln k with state := st }
  exact ⟨x, y, z, by rw [h, State.onLine_kiln_keep, State.kiln_onKiln_same, hr]⟩

theorem charge_enterKiln (k : KilnId) (st : KilnState) (s : State) (n : Nat) : (enterKiln k st s).charge n = s.charge n := by
  obtain ⟨f, g, _, _, h⟩ := enterKiln_eq k st s
  rw [h, State.onLine_charge_keep, State.onKiln_charge_keep]

theorem kiln_inject_same (k : KilnId) (s : State) :
    ∃ x y z, (inject k s).kiln k = { s.kiln k with burnerOwed := x, fanOwed := y, lastInjection := z } := by
  obtain ⟨f, g, hf, _, h⟩ := inject_eq k s
  obtain ⟨x, y, z, hr⟩ := hf (s.kiln k)
  exact ⟨x, y, z, by rw [h, State.onLine_kiln_keep, State.kiln_onKiln_same, hr]⟩

theorem charge_inject (k : KilnId) (s : State) (n : Nat) : (inject k s).charge n = s.charge n := by
  obtain ⟨f, g, _, _, h⟩ := inject_eq k s
  rw [h, State.onLine_charge_keep, State.onKiln_charge_keep]

theorem offerKiln_eq (k : KilnId) (s : State) : ∃ f, offerKiln k s = s.onRing k f := by
  unfold offerKiln
  split
  · obtain ⟨f, _, h⟩ := settleOffer_eq k (s.onRing k fun r => { r with offered := true, declined := [] })
    exact ⟨fun r => f { r with offered := true, declined := [] }, by rw [openOffer, h]; exact State.onKiln_onKiln ..⟩
  · exact ⟨fun r => r, (s.onKiln_id k).symm⟩

theorem enterAwaitingOrIdle_keeps (k : KilnId) (s : State) : (s.kiln k).sameExcursion ((enterAwaitingOrIdle k s).kiln k) ∧
    ∀ n, (enterAwaitingOrIdle k s).charge n = s.charge n := by
  have offered (st : KilnState) (u : State) (hu : (s.kiln k).sameExcursion (u.kiln k)) (hcharge : ∀ n, u.charge n = s.charge n) :
      (s.kiln k).sameExcursion ((offerKiln k (enterKiln k st u)).kiln k) ∧
        ∀ n, (offerKiln k (enterKiln k st u)).charge n = s.charge n := by
    obtain ⟨f, h⟩ := offerKiln_eq k (enterKiln k st u)
    obtain ⟨x, y, z, hkiln⟩ := kiln_enterKiln_same k st u
    rw [h]
    refine ⟨?_, fun n => ?_⟩
    · rw [State.kiln_onRing_same, hkiln]
      exact hu
    · rw [State.onRing, State.onKiln_charge_keep, charge_enterKiln, hcharge]
  unfold enterAwaitingOrIdle
  split
  · exact offered .awaiting _ (by rw [State.kiln_onKiln_same]; exact ⟨rfl, rfl⟩) fun _ => rfl
  · exact offered .idle s ⟨rfl, rfl⟩ fun _ => rfl

end Sys2Proof.Machine
end

section
namespace Sys2Proof.Machine

/-- R91, R93: a drop start asked for changes no excursion and no timed-dry mark. -/
def State.keepsCycle (s t : State) (k : KilnId) : Prop :=
  (s.kiln k).sameExcursion (t.kiln k) ∧ ∀ n, (t.charge n).map Charge.timedDry = (s.charge n).map Charge.timedDry

theorem State.keepsCycle.refl (s : State) (k : KilnId) : s.keepsCycle s k := ⟨⟨rfl, rfl⟩, fun _ => rfl⟩

theorem State.keepsCycle.trans {s t u : State} {k : KilnId} (h : s.keepsCycle t k) (h' : t.keepsCycle u k) : s.keepsCycle u k :=
  ⟨h.1.trans h'.1, fun n => (h'.2 n).trans (h.2 n)⟩

theorem keepsCycle_onKiln (s : State) (k : KilnId) {f : Kiln → Kiln} (hf : (s.kiln k).sameExcursion (f (s.kiln k))) :
    s.keepsCycle (s.onKiln k f) k := ⟨by rwa [State.kiln_onKiln_same], fun _ => by rw [State.onKiln_charge_keep]⟩

/-- A change of a charge that keeps its timed-dry mark keeps that of every charge. -/
theorem timedDry_onCharge (s : State) (c : Nat) {f : Charge → Charge} (hf : ∀ r, (f r).timedDry = r.timedDry) (n : Nat) :
    ((s.onCharge c f).charge n).map Charge.timedDry = (s.charge n).map Charge.timedDry := by
  by_cases h : c = n
  · subst h
    rw [State.charge_onCharge_same, Option.map_map]
    exact congrArg (Option.map · _) (funext hf)
  · rw [State.charge_onCharge_other _ _ h]

theorem kiln_onCharge (s : State) (c : Nat) (f : Charge → Charge) (k : KilnId) : (s.onCharge c f).kiln k = s.kiln k := by
  obtain ⟨l, h⟩ := State.onCharge_eq_onPool s c f
  rw [h, State.onPool_kiln_keep]

theorem keepsCycle_enterKiln (k : KilnId) (st : KilnState) (s : State) : s.keepsCycle (enterKiln k st s) k := by
  obtain ⟨x, y, z, h⟩ := kiln_enterKiln_same k st s
  exact ⟨by rw [h]; exact ⟨rfl, rfl⟩, fun n => by rw [charge_enterKiln]⟩

theorem keepsCycle_inject (k : KilnId) (s : State) : s.keepsCycle (inject k s) k := by
  obtain ⟨x, y, z, h⟩ := kiln_inject_same k s
  exact ⟨by rw [h]; exact ⟨rfl, rfl⟩, fun n => by rw [charge_inject]⟩

theorem keepsCycle_latch (n : Nat) (k : KilnId) (s : State) : s.keepsCycle (latch n s) k := by
  obtain ⟨g, h⟩ := latch_eq_onNotice n s
  rw [h]
  exact ⟨by rw [State.onNotice_kiln_keep]; exact ⟨rfl, rfl⟩, fun _ => rfl⟩

theorem keepsCycle_emptyDrop (k : KilnId) (s : State) : s.keepsCycle (emptyDrop k s) k := by
  obtain ⟨hkiln, hcharge⟩ := enterAwaitingOrIdle_keeps k
    ((clearCycle k s).onRing k fun r => { r.turn with emptyDrops := r.emptyDrops + 1 })
  have hring : (clearCycle k s).keepsCycle ((clearCycle k s).onRing k fun r => { r.turn with emptyDrops := r.emptyDrops + 1 }) k :=
    keepsCycle_onKiln _ k ⟨rfl, rfl⟩
  exact State.keepsCycle.trans (keepsCycle_onKiln s k ⟨rfl, rfl⟩) (hring.trans ⟨hkiln, fun n => by rw [emptyDrop, hcharge]⟩)

theorem keepsCycle_queueGate (k : KilnId) (v : Int) (s : State) : s.keepsCycle (queueGate k v s) k := by
  obtain ⟨g, _, h⟩ := queueGate_eq_onLine k v s
  rw [h]
  exact ⟨by rw [State.onLine_kiln_keep]; exact ⟨rfl, rfl⟩, fun _ => rfl⟩

theorem keepsCycle_onCharge (s : State) (k : KilnId) (c : Nat) {f : Charge → Charge} (hf : ∀ r, (f r).timedDry = r.timedDry) :
    s.keepsCycle (s.onCharge c f) k := ⟨by rw [kiln_onCharge]; exact ⟨rfl, rfl⟩, timedDry_onCharge s c hf⟩

theorem keepsCycle_onPress (s : State) (k : KilnId) (b : PressId) (f : Press → Press) : s.keepsCycle (s.onPress b f) k :=
  ⟨by rw [State.onPress_kiln_keep]; exact ⟨rfl, rfl⟩, fun _ => rfl⟩

theorem takeDrop_keeps (k : KilnId) (c : Nat) (s : State) :
    s.keepsCycle (takeDrop k c s) k ∧ ((takeDrop k c s).kiln k).state = .dropping := by
  unfold takeDrop
  dsimp only
  refine ⟨?_, ?_⟩
  · refine State.keepsCycle.trans ?_ (keepsCycle_enterKiln k .dropping _)
    refine State.keepsCycle.trans ?_ (keepsCycle_onKiln _ k ⟨rfl, rfl⟩)
    refine State.keepsCycle.trans ?_ (keepsCycle_queueGate k 1 _)
    refine State.keepsCycle.trans ?_ (keepsCycle_onPress _ k _ _)
    exact State.keepsCycle.trans (keepsCycle_onKiln s k ⟨rfl, rfl⟩) (keepsCycle_onCharge _ k c fun _ => rfl)
  · generalize clearCycle k _ = u
    obtain ⟨x, y, z, h⟩ := kiln_enterKiln_same k .dropping u
    rw [h]

theorem enterPileFull_keeps (k : KilnId) (s : State) :
    s.keepsCycle (enterPileFull k s) k ∧ ((enterPileFull k s).kiln k).dropOwed = (s.kiln k).dropOwed := by
  unfold enterPileFull
  split
  · exact ⟨.refl s k, rfl⟩
  · obtain ⟨g, hg⟩ := latch_eq_onNotice (srcPileFull k) (enterKiln k .pileFull s)
    obtain ⟨x, y, z, h⟩ := kiln_enterKiln_same k .pileFull s
    refine ⟨(keepsCycle_enterKiln k .pileFull s).trans (keepsCycle_latch _ k _), ?_⟩
    rw [hg, State.onNotice_kiln_keep, h]

/-- R69, R91: what a drop start asked for leaves; a drop of a loaded floor is taken or still owed. -/
theorem askDrop_keeps (k : KilnId) (s : State) : s.keepsCycle (askDrop k s) k ∧
    ((s.kiln k).ring.lower ≠ .empty →
      ((askDrop k s).kiln k).dropOwed = (s.kiln k).dropOwed ∨ ((askDrop k s).kiln k).state = .dropping) := by
  unfold askDrop
  split
  · exact ⟨.refl s k, fun _ => .inl rfl⟩
  · rename_i hlower _
    exact ⟨keepsCycle_emptyDrop k s, fun h => absurd hlower h⟩
  · exact ⟨.refl s k, fun _ => .inl rfl⟩
  · rename_i c _ _
    split
    · exact ⟨keepsCycle_onKiln s k ⟨rfl, rfl⟩, fun _ => .inl (by rw [State.kiln_onKiln_same])⟩
    · split
      · obtain ⟨hkeeps, hstate⟩ := takeDrop_keeps k c s
        exact ⟨hkeeps, fun _ => .inr hstate⟩
      · obtain ⟨hkeeps, howed⟩ := enterPileFull_keeps k (s.onKiln k fun r => { r with dropRetryFrom := none, pileWoken := false })
        exact ⟨State.keepsCycle.trans (keepsCycle_onKiln s k ⟨rfl, rfl⟩) hkeeps,
          fun _ => .inl (by rw [howed, State.kiln_onKiln_same])⟩

theorem oweDrop_keeps (k : KilnId) (s : State) : s.keepsCycle (oweDrop k s) k ∧
    ((s.kiln k).ring.lower ≠ .empty →
      ((oweDrop k s).kiln k).dropOwed = (s.kiln k).dropOwed ∨ ((oweDrop k s).kiln k).state = .dropping) := by
  obtain ⟨hkeeps, hloaded⟩ := askDrop_keeps k s
  unfold oweDrop
  dsimp only
  split
  · obtain ⟨x, y, z, h⟩ := kiln_inject_same k (askDrop k s)
    refine ⟨hkeeps.trans (keepsCycle_inject k _), ?_⟩
    rw [h]
    exact hloaded
  · exact ⟨hkeeps, hloaded⟩

/-! ### A cycle completes (R91) -/

/-- R68: a cycle passed by charges is counted at them alone. -/
theorem foldl_onCharge_keeps (k : KilnId) {f : Charge → Charge} (hf : ∀ r, (f r).timedDry = r.timedDry) (l : List Nat) (s : State) :
    (l.foldl (fun s c => s.onCharge c f) s).kiln k = s.kiln k ∧ s.keepsCycle (l.foldl (fun s c => s.onCharge c f) s) k := by
  induction l generalizing s with
  | nil => exact ⟨rfl, .refl s k⟩
  | cons c l ih =>
    obtain ⟨hkiln, hkeeps⟩ := ih (s.onCharge c f)
    exact ⟨hkiln.trans (kiln_onCharge s c f k), (keepsCycle_onCharge s k c hf).trans hkeeps⟩

theorem passCycle_keeps (k : KilnId) (s : State) : (passCycle k s).kiln k = s.kiln k ∧ s.keepsCycle (passCycle k s) k :=
  foldl_onCharge_keeps k (f := fun r => { r with cycles := if r.cycles < 3 then r.cycles + 1 else 3 }) (fun _ => rfl) _ s

/-- R91, R93: a completed cycle latches CycleDone and ends the excursion; the drop of a loaded floor is owed or taken. -/
theorem completeCycle_spec (k : KilnId) (s : State) :
    let t := completeCycle k s
    t.latchedNow (srcCycleDone k) ∧ (t.kiln k).excursionStart = none ∧ (t.kiln k).bandLatched = false ∧
      (∀ n, (t.charge n).map Charge.timedDry = (s.charge n).map Charge.timedDry) ∧
      ((s.kiln k).ring.lower ≠ .empty → (t.kiln k).dropOwed = true ∨ (t.kiln k).state = .dropping) := by
  dsimp only
  obtain ⟨g, hg⟩ := latch_eq_onNotice (srcCycleDone k) s
  have hlatched : (latch (srcCycleDone k) s).latchedNow (srcCycleDone k) := latchedNow_latch _ _ (by cases k <;> decide)
  have hclosed := latchedNow_closed (srcCycleDone k)
  have hdone : completeCycle k s = oweDrop k (passCycle k ((s.onNotice g).onKiln k fun r =>
      { r with dropOwed := true, excursionStart := none, bandLatched := false })) := by
    rw [completeCycle, hg, clearExcursion, State.onKiln_onKiln]
  obtain ⟨⟨⟨hstart, hband⟩, hcharge⟩, hloaded⟩ := oweDrop_keeps k (passCycle k ((s.onNotice g).onKiln k fun r =>
    { r with dropOwed := true, excursionStart := none, bandLatched := false }))
  obtain ⟨hkiln, _, hpass⟩ := passCycle_keeps k ((s.onNotice g).onKiln k fun r =>
    { r with dropOwed := true, excursionStart := none, bandLatched := false })
  rw [hg] at hlatched
  rw [hkiln, State.kiln_onKiln_same, State.onNotice_kiln_keep] at hstart hband hloaded
  rw [hdone]
  refine ⟨oweDrop_closed hclosed k (passCycle_closed hclosed k hlatched), hstart, hband, fun n => ?_, hloaded⟩
  rw [hcharge, hpass]
  rfl

end Sys2Proof.Machine
end

section
namespace Sys2Proof.Machine

/-! ### Stage entries (R86, R90) -/

theorem moistureAtEntry_of_not_finishing {s : State} {k : KilnId}
    (h : (s.kiln k).state ≠ .finishing ∨ (s.kiln k).ring.lower ≠ .empty) : moistureAtEntry k s = s :=
  if_neg fun ⟨hstate, _, hlower⟩ => h.elim (absurd hstate) (absurd hlower)

theorem stageState_of_holdOff (holdOff last : Bool) (x : Stage) :
    (if holdOff then ({ stage := x, last := last } : StageCopy).runState else .hold) = stageState holdOff last x := by
  cases holdOff <;> rfl

/-- R86: the kiln in a stage, but for its injections. -/
def Kiln.inStage (n elapsed : Nat) (c : StageCopy) (r : Kiln) : Kiln :=
  { r with
    state := stageState r.holdOff c.last c.stage
    stage := some n
    copy := some c
    stageElapsed := elapsed
    excursionStart := none
    bandLatched := false }

section
variable {s : State} {k : KilnId} {g n : Nat} {x : Stage}

/-- R86: a stage entry leaves the kiln in its stage. -/
theorem kiln_loadStage (elapsed : Nat) (hcycle : (s.kiln k).cycleSchedule = some g) (hx : s.stageOf g n = some x) :
    ∃ b f i, (loadStage k n elapsed s).kiln k =
      { (s.kiln k).inStage n elapsed { stage := x, last := decide (n = (s.schedule g).length) } with
        burnerOwed := b, fanOwed := f, lastInjection := i } := by
  have hlast : (n == (s.schedule g).length) = decide (n = (s.schedule g).length) := rfl
  obtain ⟨b, f, i, h⟩ := kiln_enterKiln_same k
    (stageState (s.kiln k).holdOff (decide (n = (s.schedule g).length)) x)
    (s.onKiln k fun r =>
      { r with
        stage := some n, copy := some { stage := x, last := decide (n = (s.schedule g).length) }
        stageElapsed := elapsed, excursionStart := none, bandLatched := false })
  refine ⟨b, f, i, ?_⟩
  simp only [loadStage, hcycle, hx, hlast, stageState_of_holdOff]
  rw [h, State.kiln_onKiln_same]
  rfl

/-- R86, R90: a stage entry that completes no cycle at once. -/
theorem enterStage_stays (hcycle : (s.kiln k).cycleSchedule = some g) (hx : s.stageOf g n = some x) (hstays : s.stageStays k g n x) :
    s.inStage (enterStage k n s) k g n 0 x ∧ ((enterStage k n s).kiln k).overdue = (s.kiln k).overdue ∧
      ((enterStage k n s).kiln k).awaitingStart = (s.kiln k).awaitingStart := by
  obtain ⟨b, f, i, h⟩ := kiln_loadStage 0 hcycle hx
  have hstage : enterStage k n s = loadStage k n 0 s :=
    moistureAtEntry_of_not_finishing (by rw [h]; exact hstays)
  rw [hstage, State.inStage, h]
  exact ⟨⟨rfl, rfl, hcycle, rfl, rfl, rfl, rfl, rfl⟩, rfl, rfl⟩

end

/-! ### The end of a stage (R89, R90) -/

section
variable {s : State} {k : KilnId} {c : StageCopy}

/-- R89: where the clock runs, the stage is due when it has reached its duration. -/
theorem stageDue_iff (hruns : (s.kiln k).clockRuns = true) (hcopy : (s.kiln k).copy = some c) :
    (s.kiln k).stageDue = true ↔ c.stage.duration ≤ (s.kiln k).stageElapsed := by
  simp [Kiln.stageDue, hruns, hcopy]

theorem exec_stageEnd_of_running (hruns : (s.kiln k).clockRuns = true) (hcopy : (s.kiln k).copy = some c)
    (h : (s.kiln k).stageElapsed < c.stage.duration) : exec (.stageEnd k) s = .next s :=
  congrArg Host.Outcome.next (if_neg fun hdue => Nat.not_le.mpr h ((stageDue_iff hruns hcopy).mp hdue.1))

theorem exec_stageEnd_of_due (hruns : (s.kiln k).clockRuns = true) (hcopy : (s.kiln k).copy = some c)
    (hstate : (s.kiln k).state ≠ .finishing) (h : c.stage.duration ≤ (s.kiln k).stageElapsed) :
    exec (.stageEnd k) s = .next (endStage k s) :=
  congrArg Host.Outcome.next (if_pos ⟨(stageDue_iff hruns hcopy).mpr h, hstate⟩)

theorem endStage_of_next {g n : Nat} {x : Stage} (hcopy : (s.kiln k).copy = some c) (hcycle : (s.kiln k).cycleSchedule = some g)
    (hstage : (s.kiln k).stage = some n) (hlast : c.last = false) (hx : s.stageOf g (n + 1) = some x) :
    endStage k s = enterStage k (n + 1) s := by
  simp [endStage, hcopy, hcycle, hstage, hlast, hx]

theorem endStage_of_last {g n : Nat} (hcopy : (s.kiln k).copy = some c) (hcycle : (s.kiln k).cycleSchedule = some g)
    (hstage : (s.kiln k).stage = some n) (hlast : c.last = true ∨ s.stageOf g (n + 1) = none) :
    endStage k s = completeCycle k s := by
  simp only [endStage, hcopy, hcycle, hstage]
  refine if_neg ?_
  rcases hlast with h | h <;> simp [h]

theorem exec_timedDryEnd_of_running (hruns : (s.kiln k).clockRuns = true) (hcopy : (s.kiln k).copy = some c)
    (h : (s.kiln k).stageElapsed < c.stage.duration) : exec (.timedDryEnd k) s = .next s :=
  congrArg Host.Outcome.next (if_neg fun hdue => Nat.not_le.mpr h ((stageDue_iff hruns hcopy).mp hdue.1))

theorem exec_timedDryEnd_of_due (hruns : (s.kiln k).clockRuns = true) (hcopy : (s.kiln k).copy = some c)
    (hstate : (s.kiln k).state = .finishing) (h : c.stage.duration ≤ (s.kiln k).stageElapsed) :
    exec (.timedDryEnd k) s = .next (timedDry k s) :=
  congrArg Host.Outcome.next (if_pos ⟨(stageDue_iff hruns hcopy).mpr h, hstate⟩)

end

/-- R90: a cycle completed by timed-dry latches CycleDone. -/
theorem timedDry_latched (k : KilnId) (s : State) : (timedDry k s).latchedNow (srcCycleDone k) :=
  (completeCycle_spec k _).1

/-- R90: a cycle completed by timed-dry flags the lower charge. -/
theorem timedDry_flags {s : State} {k : KilnId} {n : Nat} {r : Charge} (hlower : (s.kiln k).ring.lower = .loaded n)
    (hcharge : s.charge n = some r) : ((timedDry k s).charge n).map Charge.timedDry = some true := by
  obtain ⟨_, _, _, hdry, _⟩ := completeCycle_spec k (s.onCharge n fun r => { r with timedDry := true })
  have heq : timedDry k s = completeCycle k (s.onCharge n fun r => { r with timedDry := true }) := by
    simp only [timedDry, hlower, Slot.charge]
  rw [heq, hdry, State.charge_onCharge_same, hcharge]
  rfl

/-! ### Overdue kilns (R86, R87) -/

section
variable {s : State} {k : KilnId} {n : Nat}

theorem exec_awaitingOverdue_of_early (hstart : (s.kiln k).awaitingStart = some n)
    (h : (s.kiln k).config.awaitingLimit = 0 ∨ s.now < n + (s.kiln k).config.awaitingLimit) :
    exec (.awaitingOverdue k) s = .next s := by
  show execAwaitingOverdue k s = _
  simp only [execAwaitingOverdue, hstart]
  exact congrArg Host.Outcome.next (if_neg fun ⟨_, hlimit, hpassed⟩ => h.elim hlimit (Nat.not_lt.mpr hpassed))

theorem exec_awaitingOverdue_of_passed (hstate : (s.kiln k).state = .awaiting) (hstart : (s.kiln k).awaitingStart = some n)
    (hlimit : (s.kiln k).config.awaitingLimit ≠ 0) (h : n + (s.kiln k).config.awaitingLimit ≤ s.now) :
    exec (.awaitingOverdue k) s = .next (tryStart k (s.onKiln k fun r => { r with overdue := true })) := by
  show execAwaitingOverdue k s = _
  simp only [execAwaitingOverdue, hstart]
  exact congrArg Host.Outcome.next (if_pos ⟨hstate, hlimit, h⟩)

/-- R86, R87: when an overdue kiln starts its cycle. -/
theorem mayStart_of_overdue (hstate : (s.kiln k).state = .awaiting) :
    (s.onKiln k fun r => { r with overdue := true }).mayStart k = true ↔
      (s.kiln k).permit.state = .live ∧ (s.kiln k).scheduleFlag = true ∧ s.schedule (s.kiln k).config.schedule ≠ [] ∧
        (s.kiln k).capture = none := by
  simp [State.mayStart, hstate, and_assoc, State.schedule]

theorem tryStart_of_mayStart (h : s.mayStart k = true) : tryStart k s = startCycle k s := if_pos h

theorem tryStart_of_not_mayStart (h : ¬s.mayStart k = true) : tryStart k s = s := if_neg h

/-- R86: a cycle that starts stands in stage 1. -/
theorem startCycle_stays {x : Stage} (hx : s.stageOf (s.kiln k).config.schedule 1 = some x)
    (hstays : s.stageStays k (s.kiln k).config.schedule 1 x) :
    s.inStage (startCycle k s) k (s.kiln k).config.schedule 1 0 x ∧ ((startCycle k s).kiln k).overdue = false ∧
      ((startCycle k s).kiln k).awaitingStart = none := by
  have hkiln := s.kiln_onKiln_same k fun r =>
    { r with cycleSchedule := some r.config.schedule, awaitingStart := none, overdue := false }
  have h := enterStage_stays (s := s.onKiln k fun r =>
      { r with cycleSchedule := some r.config.schedule, awaitingStart := none, overdue := false }) (k := k)
    (g := (s.kiln k).config.schedule) (n := 1) (x := x) (by rw [hkiln]) hx (by rw [State.stageStays, hkiln]; exact hstays)
  rw [State.inStage, hkiln] at h
  exact h

theorem stageOf_one_ne_nil {g : Nat} {x : Stage} (hx : s.stageOf g 1 = some x) : s.schedule g ≠ [] := by
  intro h
  simp [State.stageOf, h] at hx

end

end Sys2Proof.Machine
end

section
namespace Sys2Proof.Machine

/-! ### Excursions (R93, R94) -/

theorem Kiln.clockRuns_iff {r : Kiln} :
    r.clockRuns = true ↔ r.state.cycles = true ∧ r.dropOwed = false ∧ r.permit.state = .live := by
  simp [Kiln.clockRuns, and_assoc]

section
variable {s : State} {k : KilnId}

theorem clearHoldOff_of_clear (h : (s.kiln k).holdOff = false) : clearHoldOff k s = s := if_neg (by simp [h])

/-- R94: HoldOff cleared at a kiln whose stage clock runs sends it to Hold. -/
theorem clearHoldOff_of_running (h : (s.kiln k).holdOff = true) (hruns : (s.kiln k).clockRuns = true) :
    clearHoldOff k s = enterKiln k .hold (s.onKiln k fun r =>
      { r with holdOff := false, excursionStart := none, bandLatched := false }) := by
  obtain ⟨hcycles, howed, _⟩ := Kiln.clockRuns_iff.mp hruns
  rw [clearHoldOff, if_pos h]
  dsimp only
  rw [State.kiln_onKiln_same, if_pos ⟨hcycles, howed⟩, clearExcursion, State.onKiln_onKiln]

/-- R93, R94: what a decided excursion leaves, in which the kiln's band mark alone, or Hold, is new. -/
def State.bandDecided (s t : State) (k : KilnId) (r : Kiln) : Prop :=
  t.latchedNow (srcBand k) ∧
    ((s.kiln k).config.bandAction = .notice ∨ (s.kiln k).holdOff = false → t.kiln k = { r with bandLatched := true }) ∧
    ((s.kiln k).config.bandAction = .hold → (s.kiln k).holdOff = true →
      (t.kiln k).holdOff = false ∧ (t.kiln k).state = .hold ∧ (t.kiln k).stageElapsed = (s.kiln k).stageElapsed ∧
      (t.kiln k).excursionStart = none ∧ (t.kiln k).bandLatched = false)

theorem decideBand_decides (hruns : (s.kiln k).clockRuns = true) : s.bandDecided (decideBand k s) k (s.kiln k) := by
  obtain ⟨g, hg⟩ := latch_eq_onNotice (srcBand k) (s.onKiln k fun r => { r with bandLatched := true })
  have hlatched : (latch (srcBand k) (s.onKiln k fun r => { r with bandLatched := true })).latchedNow (srcBand k) :=
    latchedNow_latch _ _ (by cases k <;> decide)
  have hkiln : ((s.onKiln k fun r => { r with bandLatched := true }).onNotice g).kiln k = { s.kiln k with bandLatched := true } := by
    rw [State.onNotice_kiln_keep, State.kiln_onKiln_same]
  rw [hg] at hlatched
  unfold decideBand
  dsimp only
  rw [hg, hkiln]
  refine ⟨?latched, fun hnotice => ?notice, fun hhold hoff => ?hold⟩
  case latched =>
    split
    · exact clearHoldOff_closed (latchedNow_closed (srcBand k)) k hlatched
    · exact hlatched
  case notice =>
    rcases hnotice with h | h
    · rw [if_neg (by simp [h]), hkiln]
    · rw [clearHoldOff_of_clear (by rw [hkiln]; exact h), ite_self, hkiln]
  case hold =>
    obtain ⟨b, f, i, h⟩ := kiln_enterKiln_same k .hold
      (((s.onKiln k fun r => { r with bandLatched := true }).onNotice g).onKiln k fun r =>
        { r with holdOff := false, excursionStart := none, bandLatched := false })
    rw [if_pos hhold, clearHoldOff_of_running (by rw [hkiln]; exact hoff) (by rw [hkiln]; exact hruns), h,
      State.kiln_onKiln_same, hkiln]
    exact ⟨rfl, rfl, rfl, rfl, rfl⟩

section
variable {c : StageCopy} {n : Nat} (hstart : (s.kiln k).excursionStart = some n) (hcopy : (s.kiln k).copy = some c)
include hstart hcopy

theorem exec_bandExcursionDecided_of_early (h : (s.kiln k).bandLatched = true ∨ s.now < n + c.stage.grace) :
    exec (.bandExcursionDecided k) s = .next s := by
  show execBandExcursionDecided k s = _
  simp only [execBandExcursionDecided, hstart, hcopy]
  refine congrArg Host.Outcome.next (if_neg ?_)
  rintro ⟨_, hband, hpassed⟩
  exact h.elim (fun h => by simp [hband] at h) (Nat.not_lt.mpr hpassed)

theorem exec_bandExcursionDecided_of_passed (hruns : (s.kiln k).clockRuns = true) (hband : (s.kiln k).bandLatched = false)
    (h : n + c.stage.grace ≤ s.now) : exec (.bandExcursionDecided k) s = .next (decideBand k s) := by
  show execBandExcursionDecided k s = _
  simp only [execBandExcursionDecided, hstart, hcopy]
  exact congrArg Host.Outcome.next (if_pos ⟨hruns, hband, h⟩)

end

/-! ### Updates of AirTemp (R93) -/

theorem injectedSetpoint_eq (c : KilnConfig) (g : Stage) : injectedSetpoint c g = min g.setpoint c.maxSetpoint := by
  unfold injectedSetpoint
  split <;> omega

section
variable {c : StageCopy} {u : Update} (hcopy : (s.kiln k).copy = some c)
include hcopy

theorem airTempUpdate_of_stopped (h : (s.kiln k).clockRuns = false) : airTempUpdate k u s = s := by
  simp [airTempUpdate, hcopy, h]

theorem airTempUpdate_of_inside (hruns : (s.kiln k).clockRuns = true) (h : bandOf (s.kiln k).config c.stage u.view = .inside) :
    airTempUpdate k u s = clearExcursion k s := by
  simp [airTempUpdate, hcopy, hruns, h]

/-- R93: the excursion open at a moment, from its first update on. -/
theorem airTempUpdate_of_outside (hruns : (s.kiln k).clockRuns = true) (h : bandOf (s.kiln k).config c.stage u.view ≠ .inside) :
    airTempUpdate k u s =
      let t := s.onKiln k fun r => { r with excursionStart := some ((s.kiln k).excursionStart.getD s.now) }
      if c.stage.grace = 0 ∧ (s.kiln k).bandLatched = false then decideBand k t else t := by
  have hopen : (s.onKiln k fun r => { r with excursionStart := some (r.excursionStart.getD s.now) }) =
      s.onKiln k fun r => { r with excursionStart := some ((s.kiln k).excursionStart.getD s.now) } := State.onKiln_congr rfl
  simp only [airTempUpdate, hcopy, if_pos hruns, if_neg h, hopen, State.kiln_onKiln_same]

end

/-! ### Updates of FloorMoisture (R90) -/

theorem moistureUpdate_of_not_running {u : Update} (h : (s.kiln k).state ≠ .finishing ∨ (s.kiln k).clockRuns = false) :
    moistureUpdate k u s = s := by
  refine if_neg ?_
  rintro ⟨hstate, hruns⟩
  exact h.elim (absurd hstate) (fun h => by simp [hruns] at h)

theorem moistureTarget_eq {n : Nat} {r : Charge} {l : Lot} (hcharge : s.charge n = some r) (hlot : s.lot r.lot = some l) :
    s.moistureTarget k n = l.moistureOverride.getD (s.kiln k).config.moistureTarget := by
  simp [State.moistureTarget, hcharge, hlot]

/-- R90: an update that shows a charge dry: a fresh good Report at or below a target. -/
def Update.showsDry (u : Update) (target : Nat) : Prop :=
  u.report = true ∧ (u.view.cls = .normal ∨ u.view.cls = .zero) ∧ u.view.substituted = false ∧
    ∃ v, u.view.value = some v ∧ v ≤ target

theorem moistureUpdate_of_loaded {u : Update} {n : Nat} (hstate : (s.kiln k).state = .finishing) (hruns : (s.kiln k).clockRuns = true)
    (hlower : (s.kiln k).ring.lower = .loaded n) :
    (u.showsDry (s.moistureTarget k n) → moistureUpdate k u s = completeCycle k s) ∧
      (¬u.showsDry (s.moistureTarget k n) → moistureUpdate k u s = s) := by
  rw [moistureUpdate, if_pos ⟨hstate, hruns⟩, hlower]
  dsimp only [Slot.charge]
  cases hv : u.view.value with
  | none =>
    refine ⟨?_, fun _ => rfl⟩
    rintro ⟨_, _, _, v, hsome, _⟩
    simp [hv] at hsome
  | some v =>
    have hdry : u.showsDry (s.moistureTarget k n) ↔
        u.report = true ∧ u.view.isGood = true ∧ u.view.substituted = false ∧ v ≤ s.moistureTarget k n := by
      simp [Update.showsDry, View.isGood_iff, hv]
    rw [hdry]
    exact ⟨fun h => if_pos h, fun h => if_neg h⟩

end

/-- Settles O41. The ends of stages, cycles and waits are equations of their events (`endStage_of_next`, `completeCycle_spec`,
`startCycle_stays`); an excursion is `decideBand_decides`, and an update that shows the charge dry completes the cycle. -/
theorem kilnTimers : Obligations.KilnTimers := by
  unfold Obligations.KilnTimers
  refine ⟨fun s k c g n hruns hcopy hcycle hstage hstate =>
      ⟨fun h => ?stageRuns, fun x h hlast hx => ?stageNext, fun h hlast => ?stageLast⟩,
    fun s k c hruns hcopy hstate => ⟨fun h => ?dryRuns, fun h => ?dryEnds⟩,
    fun s k c n hstart hcopy hruns => ⟨fun h => ?bandEarly, fun hband h => ?bandDecided⟩,
    fun s k n hstate hstart => ⟨fun h => ?awaitingEarly, fun hlimit h =>
      ⟨fun hno => ?awaitingMarked, fun x hlive hflag hcapture hx hstays => ?awaitingStarts⟩⟩,
    fun s k u => ⟨fun h => ?moistureIdle, fun n r l hstate hruns hlower hcharge hlot => ?moisture⟩,
    fun s k u c hcopy => ⟨fun h => ?airStopped, fun hruns hinside => ?airInside, fun hruns houtside => ?airOutside⟩⟩
  case stageRuns => exact exec_stageEnd_of_running hruns hcopy h
  case stageNext =>
    refine ⟨_, exec_stageEnd_of_due hruns hcopy (by simp [hstate]) h, fun hstays => ?_⟩
    rw [endStage_of_next hcopy hcycle hstage hlast hx]
    exact (enterStage_stays hcycle hx hstays).1
  case stageLast =>
    obtain ⟨hlatched, hexcursion, _⟩ := completeCycle_spec k s
    refine ⟨_, exec_stageEnd_of_due hruns hcopy (by simp [hstate]) h, ?_⟩
    rw [endStage_of_last hcopy hcycle hstage hlast]
    exact ⟨hlatched, hexcursion⟩
  case dryRuns => exact exec_timedDryEnd_of_running hruns hcopy h
  case dryEnds =>
    exact ⟨_, exec_timedDryEnd_of_due hruns hcopy hstate h, timedDry_latched k s, fun n r => timedDry_flags⟩
  case bandEarly => exact exec_bandExcursionDecided_of_early hstart hcopy h
  case bandDecided => exact ⟨_, exec_bandExcursionDecided_of_passed hstart hcopy hruns hband h, decideBand_decides hruns⟩
  case awaitingEarly => exact exec_awaitingOverdue_of_early hstart h
  case awaitingMarked =>
    rw [exec_awaitingOverdue_of_passed hstate hstart hlimit h, tryStart_of_not_mayStart]
    rw [mayStart_of_overdue hstate]
    rintro ⟨hlive, hflag, hschedule, hcapture⟩
    simp [hlive, hflag, hschedule, hcapture] at hno
  case awaitingStarts =>
    have hmay := (mayStart_of_overdue hstate).mpr ⟨hlive, hflag, stageOf_one_ne_nil hx, hcapture⟩
    refine ⟨_, exec_awaitingOverdue_of_passed hstate hstart hlimit h, ?_⟩
    have hkiln := s.kiln_onKiln_same k fun r => { r with overdue := true }
    have hstarted := startCycle_stays (s := s.onKiln k fun r => { r with overdue := true }) (k := k) (x := x)
      (by rw [hkiln]; exact hx) (by rw [State.stageStays, hkiln]; exact hstays)
    rw [State.inStage, hkiln] at hstarted
    rw [tryStart_of_mayStart hmay]
    exact hstarted
  case moistureIdle => exact moistureUpdate_of_not_running h
  case moisture =>
    obtain ⟨hdry, hwet⟩ := moistureUpdate_of_loaded (u := u) hstate hruns hlower
    rw [moistureTarget_eq hcharge hlot] at hdry hwet
    refine ⟨hwet, fun h => ?_⟩
    obtain ⟨hlatched, hexcursion, hband, htimed, hdrop⟩ := completeCycle_spec k s
    rw [show unitTakes .floorMoisture (.kiln k) u s = completeCycle k s from hdry h]
    exact ⟨hlatched, by rw [htimed, hcharge]; rfl, hexcursion, hband, hdrop (by simp [hlower])⟩
  case airStopped => exact airTempUpdate_of_stopped hcopy h
  case airInside =>
    refine airTempUpdate_of_inside hcopy hruns ?_
    rw [bandOf, injectedSetpoint_eq]
    exact hinside
  case airOutside =>
    have houtside' : bandOf (s.kiln k).config c.stage u.view ≠ .inside := by
      rw [bandOf, injectedSetpoint_eq]
      exact houtside
    have hupdate : unitTakes .airTemp (.kiln k) u s = _ := airTempUpdate_of_outside hcopy hruns houtside'
    rw [hupdate]
    refine ⟨fun h => if_neg ?_, fun hgrace hband => ?_⟩
    · rintro ⟨hgrace, hband⟩
      simp [hgrace, hband] at h
    · have hkiln := s.kiln_onKiln_same k fun r => { r with excursionStart := some ((s.kiln k).excursionStart.getD s.now) }
      have hdecided := decideBand_decides (s := s.onKiln k fun r =>
        { r with excursionStart := some ((s.kiln k).excursionStart.getD s.now) }) (k := k) (by rw [hkiln]; exact hruns)
      rw [State.bandDecided, hkiln] at hdecided
      dsimp only
      rw [if_pos ⟨hgrace, hband⟩]
      exact hdecided

end Sys2Proof.Machine
end

section
namespace Sys2Proof.Machine

/-! ### What the kilns' operations do not reach -/

/-- A property that an operation of a kiln keeps, since it speaks of nothing such an operation changes: of no kiln, press or
charge, nor of the line and the Notice Latch. -/
structure KeptByKilns (P : State → Prop) : Prop where
  kiln : ∀ {s : State} (k : KilnId) (f : Kiln → Kiln), P s → P (s.onKiln k f)
  press : ∀ {s : State} (b : PressId) (f : Press → Press), P s → P (s.onPress b f)
  pool : ∀ {s : State} (f : Pool → Pool), P s → P (s.onPool f)
  line : ∀ {s : State} (g : Line → Line), P s → P (s.onLine g)
  notice : ∀ {s : State} (g : NoticeLatch → NoticeLatch), P s → P (s.onNotice g)

/-- No operation of a kiln changes a picker. -/
theorem pickers_keptByKilns (v : Pickers) : KeptByKilns fun s => s.pickers = v :=
  ⟨fun _ _ h => h, fun _ _ h => h, fun _ h => h, fun _ h => h, fun _ h => h⟩

/-- No operation of a kiln changes a watch. -/
theorem watches_keptByKilns (v : List (Nat × Watch)) : KeptByKilns fun s => s.watches = v :=
  ⟨fun _ _ h => h, fun _ _ h => h, fun _ h => h, fun _ h => h, fun _ h => h⟩

namespace KeptByKilns

section
variable {P : State → Prop} (h : KeptByKilns P) (k : KilnId) {s : State} (hs : P s)
include h hs

theorem latch (n : Nat) : P (Machine.latch n s) := by
  obtain ⟨g, hg⟩ := latch_eq_onNotice n s
  rw [hg]
  exact h.notice g hs

theorem charge (n : Nat) (f : Charge → Charge) : P (s.onCharge n f) := by
  obtain ⟨l, hl⟩ := State.onCharge_eq_onPool s n f
  rw [hl]
  exact h.pool _ hs

theorem inject : P (Machine.inject k s) := by
  obtain ⟨f, g, _, _, heq⟩ := inject_eq k s
  rw [heq]
  exact h.line g (h.kiln k f hs)

theorem enterKiln (st : KilnState) : P (Machine.enterKiln k st s) := h.inject k (h.kiln k _ hs)

theorem offerKiln : P (Machine.offerKiln k s) := by
  obtain ⟨f, heq⟩ := offerKiln_eq k s
  rw [heq]
  exact h.kiln k _ hs

theorem enterAwaitingOrIdle : P (Machine.enterAwaitingOrIdle k s) := by
  unfold Machine.enterAwaitingOrIdle
  split
  · exact h.offerKiln k (h.enterKiln k (h.kiln k _ hs) _)
  · exact h.offerKiln k (h.enterKiln k hs _)

theorem emptyDrop : P (Machine.emptyDrop k s) := h.enterAwaitingOrIdle k (h.kiln k _ (h.kiln k _ hs))

theorem takeDrop (c : Nat) : P (Machine.takeDrop k c s) := by
  unfold Machine.takeDrop
  dsimp only
  generalize (s.kiln k).config.pile = pile
  obtain ⟨g, _, hg⟩ := queueGate_eq_onLine k 1 _
  rw [hg]
  exact h.enterKiln k (h.kiln k _ (h.line g (h.press pile _ (h.charge (h.kiln k _ hs) c _)))) _

theorem enterPileFull : P (Machine.enterPileFull k s) := by
  unfold Machine.enterPileFull
  split
  · exact hs
  · exact h.latch (h.enterKiln k hs _) _

theorem askDrop : P (Machine.askDrop k s) := by
  unfold Machine.askDrop
  split
  · exact hs
  · exact h.emptyDrop k hs
  · exact hs
  · split
    · exact h.kiln k _ hs
    · split
      · exact h.takeDrop k hs _
      · exact h.enterPileFull k (h.kiln k _ hs)

theorem oweDrop : P (Machine.oweDrop k s) := by
  have hasked := h.askDrop k hs
  unfold Machine.oweDrop
  dsimp only
  split
  · exact h.inject k hasked
  · exact hasked

theorem passCycle : P (Machine.passCycle k s) := foldl_closed (P := P) _ (fun _ c ht => h.charge ht c _) _ hs

theorem completeCycle : P (Machine.completeCycle k s) :=
  h.oweDrop k (h.passCycle k (h.kiln k _ (h.kiln k _ (h.latch hs _))))

theorem moistureAtEntry : P (Machine.moistureAtEntry k s) := closed_ite (h.completeCycle k hs) hs

theorem loadStage (n elapsed : Nat) : P (Machine.loadStage k n elapsed s) := by
  unfold Machine.loadStage
  split
  · exact hs
  · split
    · exact hs
    · exact h.enterKiln k (h.kiln k _ hs) _

theorem startCycle : P (Machine.startCycle k s) := h.moistureAtEntry k (h.loadStage k (h.kiln k _ hs) 1 0)

theorem leaveLoading : P (Machine.leaveLoading k s) := by
  have hready := h.enterKiln k hs .ready
  exact closed_ite (closed_ite (h.startCycle k hready) hready) hs

theorem clearHoldOff : P (Machine.clearHoldOff k s) := by
  have hclear := h.kiln k (fun r => { r with holdOff := false }) hs
  exact closed_ite (closed_ite (h.enterKiln k (h.kiln k _ hclear) _) hclear) hs

theorem clearSchedule : P (Machine.clearSchedule k s) := by
  have hclear := h.kiln k (fun r => { r with scheduleFlag := false }) hs
  exact closed_ite (h.enterKiln k (h.kiln k _ hclear) _) hclear

theorem decideBand : P (Machine.decideBand k s) := by
  have hband := h.latch (h.kiln k (fun r => { r with bandLatched := true }) hs) (srcBand k)
  exact closed_ite (h.clearHoldOff k hband) hband

theorem airTempUpdate (u : Update) : P (Machine.airTempUpdate k u s) := by
  unfold Machine.airTempUpdate
  split
  · exact hs
  · have hstart := h.kiln k (fun r => { r with excursionStart := some (r.excursionStart.getD s.now) }) hs
    exact closed_ite (closed_ite (h.kiln k _ hs) (closed_ite (h.decideBand k hstart) hstart)) hs

theorem moistureUpdate (u : Update) : P (Machine.moistureUpdate k u s) := by
  unfold Machine.moistureUpdate
  split
  · split
    · exact h.completeCycle k hs
    · split
      · exact closed_ite (h.completeCycle k hs) hs
      · exact hs
  · exact hs

end

end KeptByKilns

end Sys2Proof.Machine
end

section
namespace Sys2Proof.Machine

/-! ### Channels read after a change -/

theorem State.station_congr {s t : State} (h : t.chan.stations = s.chan.stations) (n : Nat) : t.station n = s.station n := by
  rw [State.station, h, State.station]

theorem State.bound_congr {s t : State} (h : t.chan.stations = s.chan.stations) (role : Role) (unit : UnitId) :
    t.bound role unit = s.bound role unit := by rw [State.bound, h, State.bound]

theorem State.descriptor_congr {s t : State} (h : t.chan.stations = s.chan.stations) (n c : Nat) :
    t.descriptor n c = s.descriptor n c := by rw [State.descriptor, State.station_congr h, State.descriptor]

theorem State.sample_putSample (s : State) (station channel : Nat) (r : Sample) (n c : Nat) :
    (s.putSample station channel r).sample n c =
      if sampleKey station channel = sampleKey n c then some r else s.sample n c := by
  unfold State.sample State.putSample
  split
  · rename_i h
    rw [← h]
    exact tableGet_tablePut_self _ _ _
  · rename_i h
    exact tableGet_tablePut_of_ne _ _ h

@[simp] theorem State.sample_putSample_same (s : State) (station channel : Nat) (r : Sample) :
    (s.putSample station channel r).sample station channel = some r := by rw [State.sample_putSample, if_pos rfl]

/-! ### What the consumers of an update leave of the channels -/

/-- A sample record without its self-poll timer, which is all that a unit changes of it (R32). -/
def Sample.untimed (r : Sample) : Sample := { r with pollDue := none }

/-- The clock, the agent and the channels stay as they are, but for the self-poll timers. -/
def State.keepsMonitor (s t : State) : Prop :=
  t.clock = s.clock ∧ t.agent = s.agent ∧ t.chan.stations = s.chan.stations ∧ t.chan.exceptions = s.chan.exceptions ∧
    t.chan.overflowed = s.chan.overflowed ∧ ∀ n c, (t.sample n c).map Sample.untimed = (s.sample n c).map Sample.untimed

theorem State.keepsMonitor.refl (s : State) : s.keepsMonitor s := ⟨rfl, rfl, rfl, rfl, rfl, fun _ _ => rfl⟩

theorem State.keepsMonitor.trans {s t u : State} (h : s.keepsMonitor t) (h' : t.keepsMonitor u) : s.keepsMonitor u := by
  obtain ⟨hclock, hagent, hstations, hexceptions, hoverflowed, hsamples⟩ := h
  obtain ⟨hclock', hagent', hstations', hexceptions', hoverflowed', hsamples'⟩ := h'
  exact ⟨hclock'.trans hclock, hagent'.trans hagent, hstations'.trans hstations, hexceptions'.trans hexceptions,
    hoverflowed'.trans hoverflowed, fun n c => (hsamples' n c).trans (hsamples n c)⟩

theorem keepsMonitor_startPollTimer (station channel i : Nat) (s : State) :
    s.keepsMonitor (startPollTimer station channel i s) := by
  unfold startPollTimer
  split
  · rename_i r hr
    refine ⟨rfl, rfl, rfl, rfl, rfl, fun n c => ?_⟩
    rw [State.sample_putSample]
    split
    · rename_i hkey
      rw [State.sample, ← hkey, ← State.sample, hr]
      rfl
    · rfl
  · exact .refl s

/-- R29: no operation of a unit reaches the clock, the agent, the Station Table, the exception list or a sample record, but for
its self-poll timer. -/
theorem keepsMonitor_closed (s : State) : Closed fun t => s.keepsMonitor t where
  kiln _ _ _ hs := hs
  picker _ _ _ hs := hs
  press _ _ _ hs := hs
  reserve _ _ hs := hs
  issued kind lot grower body hs := by
    obtain ⟨g, hg⟩ := issueTicket_eq_onStore kind lot grower body _
    rw [hg]
    exact hs
  transfer _ hs := hs
  ended hs := hs
  lot n f hs := by
    obtain ⟨l, hl⟩ := State.onLot_eq_withLots _ n f
    rw [hl]
    exact hs
  charge n f hs := by
    obtain ⟨l, hl⟩ := State.onCharge_eq_onPool _ n f
    rw [hl]
    exact hs
  opened _ _ _ hs := hs
  freed _ hs := hs
  watch _ _ hs := hs
  latched n hs := by
    obtain ⟨g, hg⟩ := latch_eq_onNotice n _
    rw [hg]
    exact hs
  timer st ch i hs := hs.trans (keepsMonitor_startPollTimer st ch i _)
  down _ _ hs := hs
  safety _ hs := hs

section
variable {s t : State} (h : s.keepsMonitor t)
include h

theorem State.keepsMonitor.now : t.now = s.now := congrArg Clock.elapsed h.1

theorem State.keepsMonitor.stations : t.chan.stations = s.chan.stations := h.2.2.1

theorem State.keepsMonitor.sample_none {n c : Nat} (hn : s.sample n c = none) : t.sample n c = none := by
  obtain ⟨_, _, _, _, _, hsamples⟩ := h
  have hsample := hsamples n c
  rwa [hn, Option.map_none, Option.map_eq_none_iff] at hsample

theorem State.keepsMonitor.sample_some {n c : Nat} {r : Sample} (hr : s.sample n c = some r) :
    ∃ due, t.sample n c = some { r with pollDue := due } := by
  obtain ⟨_, _, _, _, _, hsamples⟩ := h
  have hsample := hsamples n c
  rw [hr, Option.map_some, Option.map_eq_some_iff] at hsample
  obtain ⟨q, hq, heq⟩ := hsample
  refine ⟨q.pollDue, hq.trans (congrArg some ?_)⟩
  cases q
  cases r
  simp only [Sample.untimed, Sample.mk.injEq] at heq ⊢
  tauto

/-- R23: the view of a channel does not depend on its timer. -/
theorem State.keepsMonitor.view (n c : Nat) : t.view n c = s.view n c := by
  have hdescriptor := State.descriptor_congr h.stations n c
  unfold State.view
  cases hr : s.sample n c with
  | none => rw [h.sample_none hr]
  | some r =>
    obtain ⟨due, hdue⟩ := h.sample_some hr
    rw [hdue, hdescriptor]
    cases s.descriptor n c <;> rfl

/-- R30: a raise before the consumers take an update stands after it. -/
theorem State.keepsMonitor.raises {s₀ : State} {station channel : Nat} {mask : MaskSet} {before after : SampleClass}
    (hraise : s₀.raisesIfNew s station channel mask before after) (hlatched : ∀ n, s.latchedNow n → t.latchedNow n) :
    s₀.raisesIfNew t station channel mask before after := by
  obtain ⟨_, _, _, hexceptions, hoverflowed, _⟩ := h
  unfold State.raisesIfNew State.raises at *
  rw [hexceptions, hoverflowed]
  split at hraise
  · rename_i hnew
    rw [if_pos hnew]
    exact hraise.imp_left (hlatched 0)
  · rename_i hold
    rwa [if_neg hold]

end

/-! ### What the consumers of an update leave of the line -/

/-- A reading of the line that speaks of neither the Own queue down nor the safety overflow list is what the units leave alone. -/
theorem lineReading_closed {α : Type} {reading : Line → α}
    (hreading : ∀ l down rest, reading { l with ownDown := down, overflow := rest } = reading l) (v : α) :
    Closed fun s => reading s.line = v where
  kiln _ _ _ hs := hs
  picker _ _ _ hs := hs
  press _ _ _ hs := hs
  reserve _ _ hs := hs
  issued kind lot grower body hs := by
    obtain ⟨g, hg⟩ := issueTicket_eq_onStore kind lot grower body _
    rwa [hg]
  transfer _ hs := hs
  ended hs := hs
  lot n f hs := by
    obtain ⟨l, hl⟩ := State.onLot_eq_withLots _ n f
    rwa [hl]
  charge n f hs := by
    obtain ⟨l, hl⟩ := State.onCharge_eq_onPool _ n f
    rwa [hl]
  opened _ _ _ hs := hs
  freed _ hs := hs
  watch _ _ hs := hs
  latched n hs := by
    obtain ⟨g, hg⟩ := latch_eq_onNotice n _
    rwa [hg]
  timer st ch i hs := by
    obtain ⟨g, hg⟩ := startPollTimer_eq_onChan st ch i _
    rwa [hg]
  down {s} f b hs := by
    obtain ⟨g, hgrows, hg⟩ := queueDown_eq_onLine f b s
    obtain ⟨more, hmore⟩ := hgrows s.line
    rw [hg, State.onLine_line, hmore, hreading]
    exact hs
  safety {s} f hs := by
    have hsafety : ∃ down rest, (queueSafety f s).line = { s.line with ownDown := down, overflow := rest } := by
      unfold queueSafety
      dsimp only [State.onLine_line]
      split
      · exact ⟨_, _, rfl⟩
      · split <;> exact ⟨_, _, rfl⟩
    obtain ⟨down, rest, h⟩ := hsafety
    rw [h, hreading]
    exact hs

/-- R29: the consumers of an update leave the poll and the Forward queue up alone. -/
theorem poll_forwardUp_closed (v : Option Poll × List Frame) : Closed fun s => (s.line.poll, s.line.forwardUp) = v :=
  lineReading_closed (reading := fun l => (l.poll, l.forwardUp)) (fun _ _ _ => rfl) v

theorem poll_forwardUp_queueUp {v : Option Poll × List Frame} {s : State} (f : Frame) (o : UpOrigin)
    (hs : (s.line.poll, s.line.forwardUp) = v) : ((queueUp f o s).line.poll, (queueUp f o s).line.forwardUp) = v := by
  unfold queueUp
  dsimp only [State.onLine_line]
  split <;> exact hs

/-! ### Updates that are no Reports -/

/-- R120: only a Report of the BaleScale ends a weighing. -/
theorem baleScaleUpdate_of_expiry {u : Update} (hu : u.report = false) (b : PressId) (s : State) : baleScaleUpdate b u s = s := by
  unfold baleScaleUpdate
  split
  · rw [if_neg (by simp [hu])]
  · rfl

/-- An update that is no Report queues no frame for the host. -/
theorem unitTakes_closed_of_expiry {P : State → Prop} (h : Closed P) {u : Update} (hu : u.report = false) (role : Role)
    (unit : UnitId) {s : State} (hs : P s) : P (unitTakes role unit u s) := by
  unfold unitTakes
  split
  · exact beltUpdate_closed h _ u hs
  · exact wagonUpdate_closed h _ u hs
  · exact airTempUpdate_closed h _ u hs
  · exact moistureUpdate_closed h _ u hs
  · exact dropScaleUpdate_closed h _ u hs
  · exact dropGateUpdate_closed h _ u hs
  · exact fillScaleUpdate_closed h _ u hs
  · exact hydraulicsUpdate_closed h _ u hs
  · rwa [baleScaleUpdate_of_expiry hu]
  · exact hs

theorem deliver_closed_of_expiry {P : State → Prop} (h : Closed P) (e : StationEntry) (station channel : Nat) {u : Update}
    (hu : u.report = false) {s : State} (hs : P s) : P (deliver e station channel u s) := by
  unfold deliver
  refine watchesTake_closed h _ _ _ ?_
  split
  · split
    · exact unitTakes_closed_of_expiry h hu _ _ hs
    · exact hs
  · exact hs

end Sys2Proof.Machine
end

section
namespace Sys2Proof.Machine

/-! ### A raise (R30) -/

theorem countUp_eq_min (top n : Nat) : countUp top n = min (n + 1) top := by
  unfold countUp
  split <;> omega

theorem saturate_eq (n : Nat) : countUp Config.counterTop n = saturate n := countUp_eq_min _ n

/-- R30: a raise changes the exception list and the Notice Latch alone. -/
theorem raiseClass_eq (station channel : Nat) (mask : MaskSet) (before after : SampleClass) (s : State) :
    ∃ es o g, raiseClass station channel mask before after s =
      (s.onChan fun c => { c with exceptions := es, overflowed := o }).onNotice g := by
  unfold raiseClass
  split
  · have henter : ∃ es o, enterRaise station channel after s.chan = { s.chan with exceptions := es, overflowed := o } := by
      unfold enterRaise
      split
      · exact ⟨_, _, rfl⟩
      · split <;> exact ⟨_, _, rfl⟩
    obtain ⟨es, o, henter⟩ := henter
    obtain ⟨g, hg⟩ := latch_eq_onNotice srcChannelException (s.onChan (enterRaise station channel after))
    refine ⟨es, o, g, hg.trans ?_⟩
    rw [State.onChan, henter, State.onChan]
  · exact ⟨s.chan.exceptions, s.chan.overflowed, id, rfl⟩

/-- R30: what a raise enters in the exception list. -/
theorem raises_of_enterRaise (station channel : Nat) (cls : SampleClass) (s : State) :
    s.raises (latch srcChannelException (s.onChan (enterRaise station channel cls))) station channel cls := by
  obtain ⟨g, hg⟩ := latch_eq_onNotice srcChannelException (s.onChan (enterRaise station channel cls))
  have hlatched : (latch srcChannelException (s.onChan (enterRaise station channel cls))).latchedNow 0 :=
    latchedNow_latch _ _ (by decide)
  have hany : (s.chan.exceptions.any fun e => e.station == station && e.channel == channel) = true ↔
      ∃ e ∈ s.chan.exceptions, e.station = station ∧ e.channel = channel := by simp [List.any_eq_true]
  have hchan : (latch srcChannelException (s.onChan (enterRaise station channel cls))).chan =
      enterRaise station channel cls s.chan := by rw [hg]; rfl
  refine ⟨hlatched, ?_⟩
  rw [hchan]
  unfold enterRaise
  by_cases hlisted : (s.chan.exceptions.any fun e => e.station == station && e.channel == channel) = true
  · rw [if_pos hlisted, if_pos (hany.mp hlisted)]
    exact ⟨rfl, by simp only [countUp_eq_min, Config.byteTop]⟩
  · rw [if_neg hlisted, if_neg (fun h => hlisted (hany.mpr h))]
    rw [Config.exceptionPlaces]
    by_cases hroom : s.chan.exceptions.length < 16
    · rw [if_pos hroom, if_pos hroom]
      exact ⟨rfl, rfl⟩
    · rw [if_neg hroom, if_neg hroom]
      exact ⟨rfl, rfl⟩

theorem raisesIfNew_raiseClass (station channel : Nat) (mask : MaskSet) (before after : SampleClass) (s : State) :
    s.raisesIfNew (raiseClass station channel mask before after s) station channel mask before after := by
  unfold State.raisesIfNew raiseClass
  split
  · exact raises_of_enterRaise station channel after s
  · exact ⟨rfl, rfl⟩

/-! ### A record taken, with its raise (R20, R30) -/

/-- A channel's record written, its substituted field following its view, and its class raised: what is done before the
consumers take the update. -/
def State.recorded (s : State) (station channel : Nat) (d : Descriptor) (before : SampleClass) (r : Sample) : State :=
  raiseClass station channel d.mask before r.cls (s.putSample station channel (settleView d.mask r))

section
variable (s : State) (station channel : Nat) (d : Descriptor) (before : SampleClass) (r : Sample)

theorem State.recorded_eq :
    ∃ es o g, s.recorded station channel d before r =
      ((s.putSample station channel (settleView d.mask r)).onChan fun c => { c with exceptions := es, overflowed := o }).onNotice g :=
  raiseClass_eq _ _ _ _ _ _

theorem State.recorded_frame : s.recorded station channel d before r =
    { s with chan := (s.recorded station channel d before r).chan
             notice := (s.recorded station channel d before r).notice } := by
  obtain ⟨es, o, g, h⟩ := s.recorded_eq station channel d before r
  rw [h]
  rfl

theorem State.recorded_stations : (s.recorded station channel d before r).chan.stations = s.chan.stations := by
  obtain ⟨es, o, g, h⟩ := s.recorded_eq station channel d before r
  rw [h]
  rfl

theorem State.sample_recorded (n c : Nat) : (s.recorded station channel d before r).sample n c =
    (s.putSample station channel (settleView d.mask r)).sample n c := by
  obtain ⟨es, o, g, h⟩ := s.recorded_eq station channel d before r
  rw [h]
  rfl

/-- R23: the view of a channel whose record has been taken. -/
theorem State.view_recorded (h : s.descriptor station channel = some d) :
    (s.recorded station channel d before r).view station channel = viewOf d.mask r.cls r.value r.lastGood := by
  rw [State.view, State.sample_recorded, State.sample_putSample_same,
    State.descriptor_congr (s.recorded_stations station channel d before r), h]
  rfl

theorem State.recorded_raises :
    s.raisesIfNew (s.recorded station channel d before r) station channel d.mask before r.cls :=
  raisesIfNew_raiseClass station channel d.mask before r.cls (s.putSample station channel (settleView d.mask r))

/-- R29: a record is taken first, and then its update is delivered. -/
theorem finishUpdate_eq (report settled : Bool) : finishUpdate station channel d before r report settled s =
    deliver (s.station station) station channel
      { view := viewOf d.mask r.cls r.value r.lastGood, report := report, settled := settled }
      (s.recorded station channel d before r) := by
  rw [← State.station_congr (s.recorded_stations station channel d before r)]
  rfl

end

theorem keepsMonitor_queueUp {s t : State} (f : Frame) (o : UpOrigin) (h : s.keepsMonitor t) :
    s.keepsMonitor (queueUp f o t) := h

theorem latchedNow_queueUp {n : Nat} {s : State} (f : Frame) (o : UpOrigin) (h : s.latchedNow n) :
    (queueUp f o s).latchedNow n := h

/-- R20, R30: what the end of a Report or an expiry leaves of its channel, when the consumers have taken the update. -/
theorem finishUpdate_spec (station channel : Nat) (d : Descriptor) (before : SampleClass) (r : Sample) (report settled : Bool)
    (s : State) :
    let t := finishUpdate station channel d before r report settled s
    (s.recorded station channel d before r).keepsMonitor t ∧
      (∃ due, t.sample station channel = some { settleView d.mask r with pollDue := due }) ∧
      s.raisesIfNew t station channel d.mask before r.cls := by
  dsimp only
  rw [finishUpdate_eq]
  have hkeeps := deliver_closed (keepsMonitor_closed (s.recorded station channel d before r)) keepsMonitor_queueUp
    (s.station station) station channel
    { view := viewOf d.mask r.cls r.value r.lastGood, report := report, settled := settled } (.refl _)
  have hlatched (n : Nat) := deliver_closed (latchedNow_closed n) latchedNow_queueUp (s.station station) station channel
    { view := viewOf d.mask r.cls r.value r.lastGood, report := report, settled := settled }
    (s := s.recorded station channel d before r)
  refine ⟨hkeeps, hkeeps.sample_some ?_, hkeeps.raises (s.recorded_raises station channel d before r) hlatched⟩
  rw [State.sample_recorded, State.sample_putSample_same]

end Sys2Proof.Machine
end

section
namespace Sys2Proof.Machine

/-! ### Frames that arrive at the F-port (R159, R165, R169) -/

/-- R169, R171: a frame accepted at the F-port is counted, and a Report of the polled station ends the outstanding poll. -/
def State.arrived (s : State) (f : Frame) : State :=
  answerPoll f (s.onCounters fun c => { c with receivedF := countUp Config.counterTop c.receivedF })

theorem State.arrived_eq (s : State) (f : Frame) : s.arrived f = { s with line := { s.line with
    counters := { s.line.counters with receivedF := saturate s.line.counters.receivedF }
    poll := if f.kind = .report ∧ s.line.poll.map Poll.station = some f.src then none else s.line.poll } } := by
  rw [← saturate_eq]
  by_cases h : f.kind = .report ∧ s.line.poll.map Poll.station = some f.src
  · rw [if_pos h]
    exact if_pos h
  · rw [if_neg h]
    exact if_neg h

theorem exec_fPortFrameReceived_of_accepted {chars : List Byte} {f : Frame} {s : State} (harrive : arrive chars = .accepted f)
    (hlistens : s.line.fSending = none) : exec (.fPortFrameReceived chars) s = .next (fieldFrame f (s.arrived f)) := by
  change execFPortFrameReceived chars s = _
  rw [execFPortFrameReceived, hlistens, if_neg (by simp), fieldChars, harrive]
  rfl

theorem countMisdirected_eq (s : State) :
    countMisdirected s = s.counts fun c => { c with misdirected := saturate c.misdirected } := by
  rw [countMisdirected, State.counts]
  simp only [saturate_eq]
  rfl

theorem countForwardDrop_dropped (s : State) : s.forwardDropped (countForwardDrop s) := by
  have hclaimed := latch_claimed (n := srcLineErrors) (by decide)
    (s.onCounters fun c => { c with forwardDrops := countUp Config.counterTop c.forwardDrops })
  obtain ⟨g, hg⟩ := latch_eq_onNotice srcLineErrors
    (s.onCounters fun c => { c with forwardDrops := countUp Config.counterTop c.forwardDrops })
  refine ⟨hclaimed, ?_⟩
  simp only [← saturate_eq, countForwardDrop, hg]
  rfl

/-- R160: a frame joins the Forward queue up or is dropped. -/
theorem joinForwardUp_forwarded (f : Frame) (s : State) : s.forwardedUp (joinForwardUp f s) f := by
  refine ⟨fun h => if_pos h, fun h => ?_⟩
  rw [joinForwardUp, Config.forwardUpPlaces, if_neg (Nat.not_lt.mpr h)]
  exact countForwardDrop_dropped s

theorem keepsMonitor_joinForwardUp (f : Frame) (s : State) : s.keepsMonitor (joinForwardUp f s) := by
  unfold joinForwardUp
  split
  · exact .refl s
  · unfold countForwardDrop
    exact (keepsMonitor_closed s).latched srcLineErrors (State.keepsMonitor.refl s)

theorem latchedNow_joinForwardUp {n : Nat} (f : Frame) {s : State} (h : s.latchedNow n) : (joinForwardUp f s).latchedNow n := by
  unfold joinForwardUp
  split
  · exact h
  · exact latchedNow_latch_of_latchedNow srcLineErrors h

/-- R165, case 1: the frames no station may send. -/
theorem misplaced_iff (f : Frame) : misplaced f = true ↔
    f.src = 0 ∨ f.src = 1 ∨ f.src = 127 ∨ (2 ≤ f.dest ∧ f.dest ≤ 126) := by
  simp [misplaced, or_assoc]

theorem misplaced_eq_false {f : Frame} (hlow : 2 ≤ f.src) (hhigh : f.src ≤ 126) (hdest : f.dest ≤ 1 ∨ f.dest = 127) :
    misplaced f = false := by
  rw [Bool.eq_false_iff, ne_eq, misplaced_iff]
  omega

/-- R165: a Report of a channel that is not described is not tapped. -/
theorem tapReport_of_undescribed {f : Frame} {s : State} (h : s.descriptor f.src f.channel = none) : tapReport f s = s := by
  unfold tapReport
  rw [h]

/-- R184: the channel of an accepted Report is one of the four. -/
theorem channel_le_of_report {chars : List Byte} {f : Frame} (h : arrive chars = .accepted f) (hkind : f.kind = .report) :
    f.channel ≤ 3 := by
  unfold arrive at h
  split at h
  · split at h
    · simp at h
    · split at h
      · simp at h
      · split at h
        · simp at h
        · split at h
          · simp at h
          · split at h
            · simp at h
            · rename_i hunused
              obtain rfl := Arrival.accepted.inj h
              simp only at hkind
              subst hkind
              simp only [holdsUnused, Bool.or_eq_true, decide_eq_true_eq, not_or] at hunused
              dsimp only
              omega
  · simp at h

/-! ### A Report of a described channel (R165, R31) -/

/-- A Report of a described channel that arrives at the listening F-port, with a source and a destination it may have. -/
structure State.TakesReport (s : State) (chars : List Byte) (f : Frame) (d : Descriptor) (r : Sample) : Prop where
  arrives : arrive chars = .accepted f
  listens : s.line.fSending = none
  kind : f.kind = .report
  low : 2 ≤ f.src
  high : f.src ≤ 126
  dest : f.dest = 0 ∨ f.dest = 1 ∨ f.dest = 127
  described : s.descriptor f.src f.channel = some d
  sampled : s.sample f.src f.channel = some r

/-- The moment a self-poll timer falls due that is started at a moment with an interval, of which 0 stops it (R31). -/
def dueAfter (now interval : Nat) : Option Nat := if interval = 0 then none else some (now + interval)

theorem restartPollTimer_eq {s : State} {station channel : Nat} {r : Sample} (h : s.sample station channel = some r) :
    restartPollTimer station channel s =
      s.putSample station channel { r with pollDue := dueAfter s.now (s.pollInterval station channel) } := by
  unfold restartPollTimer startPollTimer
  rw [h]
  rfl

/-- The record that a Report leaves, with its self-poll timer started again. -/
def reportedSample (d : Descriptor) (f : Frame) (s : State) (r : Sample) : Sample :=
  { classReport d f s.now r with pollDue := dueAfter s.now (s.pollInterval f.src f.channel) }

/-- R165: a Report of a described channel is taken by its record, and its update is delivered. -/
theorem tapReport_eq {f : Frame} {s : State} {d : Descriptor} {r : Sample} (hd : s.descriptor f.src f.channel = some d)
    (hr : s.sample f.src f.channel = some r) : tapReport f s =
      finishUpdate f.src f.channel d r.cls (reportedSample d f s r) true (reportFlag f 1)
        (s.putSample f.src f.channel { r with pollDue := dueAfter s.now (s.pollInterval f.src f.channel) }) := by
  unfold tapReport
  rw [hd, hr]
  dsimp only
  rw [restartPollTimer_eq hr, State.sample_putSample_same]
  rfl

theorem State.TakesReport.exec_eq {s : State} {chars : List Byte} {f : Frame} {d : Descriptor} {r : Sample}
    (h : s.TakesReport chars f d r) : exec (.fPortFrameReceived chars) s =
      .next (if f.dest = 127 then tapReport f (s.arrived f) else joinForwardUp f (tapReport f (s.arrived f))) := by
  have hplaced := misplaced_eq_false h.low h.high (by have := h.dest; omega)
  rw [exec_fPortFrameReceived_of_accepted h.arrives h.listens, fieldFrame, hplaced, if_neg (by simp), if_pos h.kind]

/-- R20, R30: the record a Report leaves on its channel, and its raise. -/
theorem State.TakesReport.leaves {s : State} {chars : List Byte} {f : Frame} {d : Descriptor} {r : Sample}
    (h : s.TakesReport chars f d r) : ∃ t due, exec (.fPortFrameReceived chars) s = .next t ∧
      t.sample f.src f.channel = some { settleView d.mask (classReport d f s.now r) with pollDue := due } ∧
      s.raisesIfNew t f.src f.channel d.mask r.cls (classReport d f s.now r).cls := by
  have hd : (s.arrived f).descriptor f.src f.channel = some d := by rw [State.arrived_eq]; exact h.described
  have hr : (s.arrived f).sample f.src f.channel = some r := by rw [State.arrived_eq]; exact h.sampled
  have hnow : (s.arrived f).now = s.now := by rw [State.arrived_eq]; rfl
  have hchan : (s.arrived f).chan = s.chan := by rw [State.arrived_eq]
  obtain ⟨_, ⟨due, hsample⟩, hraises⟩ := finishUpdate_spec f.src f.channel d r.cls (reportedSample d f (s.arrived f) r) true
    (reportFlag f 1) ((s.arrived f).putSample f.src f.channel
      { r with pollDue := dueAfter (s.arrived f).now ((s.arrived f).pollInterval f.src f.channel) })
  rw [← tapReport_eq hd hr] at hsample hraises
  have hraises' : s.raisesIfNew (tapReport f (s.arrived f)) f.src f.channel d.mask r.cls (classReport d f s.now r).cls := by
    rw [reportedSample, hnow] at hraises
    unfold State.raisesIfNew State.raises at *
    rw [show (State.putSample _ _ _ _).chan.exceptions = s.chan.exceptions by rw [← hchan]; rfl,
      show (State.putSample _ _ _ _).chan.overflowed = s.chan.overflowed by rw [← hchan]; rfl] at hraises
    exact hraises
  rw [reportedSample, hnow] at hsample
  rw [h.exec_eq]
  split
  · exact ⟨_, due, rfl, hsample, hraises'⟩
  · have hkeeps := keepsMonitor_joinForwardUp f (tapReport f (s.arrived f))
    obtain ⟨due', hdue⟩ := hkeeps.sample_some hsample
    exact ⟨_, due', rfl, hdue, hkeeps.raises hraises' fun n => latchedNow_joinForwardUp f⟩

end Sys2Proof.Machine
end

section
namespace Sys2Proof.Machine

/-! ### The comparison of a view with a band (R28) -/

theorem compareBand_of_unordered (low high : Int) {v : View} (hcls : v.cls = .fault ∨ v.cls = .stale ∨ v.cls = .absent)
    (h : v.substituted = false) : compareBand low high v = .unordered := by
  refine if_pos ?_
  rcases hcls with hcls | hcls | hcls <;> simp [hcls, h]

theorem compareBand_of_none (low high : Int) {v : View} (h : v.value = none) : compareBand low high v = .unordered := by
  unfold compareBand
  rw [h]
  exact ite_self _

/-- R28: a value present is tested against the low bound first. -/
theorem compareBand_of_some (low high : Int) {v : View} {x : Int} (hx : v.value = some x)
    (h : v.cls = .normal ∨ v.cls = .zero ∨ v.substituted = true ∨ v.cls = .low ∨ v.cls = .high) :
    compareBand low high v = if x < low then .below else if high < x then .above else .inside := by
  unfold compareBand
  rw [hx]
  refine if_neg ?_
  rcases h with h | h | h | h | h <;> simp [h]

/-- Settles O20, by the cases of the view: `compareBand_of_unordered`, `compareBand_of_none`, `compareBand_of_some`. -/
theorem bandComparison : Obligations.BandComparison := by
  unfold Obligations.BandComparison
  refine fun low high v => ⟨fun hcls h => compareBand_of_unordered low high hcls h,
    fun h => compareBand_of_none low high h, fun x hx h => ?_⟩
  rw [compareBand_of_some low high hx h]
  refine ⟨fun hlow => if_pos hlow, fun hlow hhigh => ?_, fun hlow hhigh => ?_⟩
  · rw [if_neg (by omega), if_pos hhigh]
  · rw [if_neg (by omega), if_neg (by omega)]

end Sys2Proof.Machine
end

section
namespace Sys2Proof.Machine

/-! ### A Report on a Level channel (R20, R21) -/

theorem classReport_level {d : Descriptor} {f : Frame} {now : Nat} {r : Sample} (hkind : d.kind = .level) :
    classReport d f now r =
      { classLevel d (reportValue f) (reportFlag f 0) r with lastReport := some now, expired := false } := by
  rw [classReport, hkind]

/-- R20: the last good value follows a Normal or a Zero class, and no other. -/
theorem classLevel_lastGood (d : Descriptor) (v : Int) (fault : Bool) (r : Sample) :
    ((classLevel d v fault r).cls = .normal → (classLevel d v fault r).lastGood = some { value := v, isZero := false }) ∧
    ((classLevel d v fault r).cls = .zero → (classLevel d v fault r).lastGood = some { value := v, isZero := true }) ∧
    ((classLevel d v fault r).cls ≠ .normal → (classLevel d v fault r).cls ≠ .zero →
      (classLevel d v fault r).lastGood = r.lastGood) := by
  simp only [classLevel]
  refine ⟨fun h => ?_, fun h => ?_, fun hnormal hzero => if_neg (not_or.mpr ⟨hnormal, hzero⟩)⟩
  · rw [h]
    rfl
  · rw [h]
    rfl

/-! ### Views (R23) -/

theorem inMask_iff (m : MaskSet) (cls : SampleClass) : inMask m cls = true ↔
    (cls = .low ∧ m.low = true) ∨ (cls = .high ∧ m.high = true) ∨ (cls = .fault ∧ m.fault = true) ∨
      (cls = .stale ∧ m.stale = true) := by
  cases cls <;> simp [inMask]

theorem viewOf_of_unmasked {m : MaskSet} {cls : SampleClass} (h : ¬inMask m cls = true) (value : Option Int)
    (good : Option GoodValue) : viewOf m cls value good = { cls := cls, value := value, substituted := false } := if_neg h

theorem viewOf_of_masked {m : MaskSet} {cls : SampleClass} (h : inMask m cls = true) (value : Option Int)
    (good : Option GoodValue) : viewOf m cls value good =
      match good with
      | some g => { cls := if g.isZero then .zero else .normal, value := some g.value, substituted := true }
      | none => { cls := .absent, value := none, substituted := false } := by
  unfold viewOf
  rw [if_pos h]
  cases good <;> rfl

theorem view_of_record {s : State} {station channel : Nat} {d : Descriptor} {r : Sample}
    (hd : s.descriptor station channel = some d) (hr : s.sample station channel = some r) :
    s.view station channel = viewOf d.mask r.cls r.value r.lastGood := by rw [State.view, hr, hd]

/-- Settles O17: the record is `State.TakesReport.leaves`, its class and last good value those of `classLevel`, and the view of a
channel `viewOf` its record. -/
theorem levelReportIsClassed : Obligations.LevelReportIsClassed := by
  unfold Obligations.LevelReportIsClassed
  refine ⟨?report, fun s station channel => ⟨fun h => ?absent, fun d r hd hr => ?view⟩⟩
  case report =>
    rintro chars f s d r v harrive hlistens hkind hlow hhigh hdest hd hr hlevel rfl
    obtain ⟨t, due, hexec, hsample, hraises⟩ :=
      State.TakesReport.leaves ⟨harrive, hlistens, hkind, hlow, hhigh, hdest, hd, hr⟩
    rw [classReport_level hlevel] at hsample hraises
    obtain ⟨hnormal, hzero, hother⟩ := classLevel_lastGood d (reportValue f) (reportFlag f 0) r
    exact ⟨t, _, hexec, hsample, rfl, rfl, rfl, rfl, rfl, hnormal, hzero, hother, hraises⟩
  case absent =>
    rw [State.view, h]
    rfl
  case view =>
    dsimp only
    rw [view_of_record hd hr, ← inMask_iff]
    refine ⟨fun h => viewOf_of_unmasked h _ _, fun h hgood => ?_, fun g h hgood => ?_⟩
    · rw [viewOf_of_masked h, hgood]
    · rw [viewOf_of_masked h, hgood]

end Sys2Proof.Machine
end

section
namespace Sys2Proof.Machine

/-! ### A Report on a RunningTotal channel (R25, R26) -/

theorem classReport_total {d : Descriptor} {f : Frame} {now : Nat} {r : Sample} (hkind : d.kind = .runningTotal) :
    classReport d f now r =
      { classTotal d (reportValue f) (reportFlag f 0) (reportFlag f 2) r with lastReport := some now, expired := false } := by
  rw [classReport, hkind]

/-- R25, step 3: a faulted operand gives a faulted increment. -/
theorem incrementOf_fault (prev : PreviousOperand) (total : Int) : incrementOf prev .fault total = (.fault, none) := by
  cases prev <;> rfl

section
variable {r : Sample} {new : OperandClass} (hnew : new ≠ .fault) (v : Int)
include hnew

theorem nextBaseline_of_ne_fault (old : Option Baseline) : nextBaseline old new v = some { total := v, cls := new } := by
  cases new with
  | fault => exact absurd rfl hnew
  | good => rfl
  | low => rfl
  | high => rfl

theorem incrementOf_of_absent (h : r.baseline = none) : incrementOf (previousOf r) new v = (.absent, none) := by
  rw [previousOf, h]
  cases new with
  | fault => exact absurd rfl hnew
  | good => rfl
  | low => rfl
  | high => rfl

variable {b : Baseline} (hb : r.baseline = some b)
include hb

theorem incrementOf_of_fault (h : b.cls = .fault) : incrementOf (previousOf r) new v = (.fault, none) := by
  simp only [previousOf, hb, h]
  cases new with
  | fault => exact absurd rfl hnew
  | good => rfl
  | low => rfl
  | high => rfl

theorem incrementOf_of_stale (h : b.cls ≠ .fault) (hexpired : r.expired = true) :
    incrementOf (previousOf r) new v = (.stale, none) := by
  have hprev : previousOf r = .stale := by
    simp only [previousOf, hb, hexpired, if_pos]
    cases hcls : b.cls with
    | fault => exact absurd hcls h
    | good => rfl
    | low => rfl
    | high => rfl
  rw [hprev]
  cases new with
  | fault => exact absurd rfl hnew
  | good => rfl
  | low => rfl
  | high => rfl

omit hnew in
theorem previousOf_fresh (hexpired : r.expired = false) : previousOf r =
    match b.cls with
    | .fault => .fault
    | .good => .good b.total
    | .low => .low
    | .high => .high := by
  simp only [previousOf, hb, hexpired]
  cases b.cls <;> rfl

theorem incrementOf_of_high (h : b.cls ≠ .fault) (hexpired : r.expired = false) (hhigh : new = .high ∨ b.cls = .high) :
    incrementOf (previousOf r) new v = (.high, none) := by
  rw [previousOf_fresh hb hexpired]
  rcases hhigh with rfl | hcls
  · cases hcls : b.cls with
    | fault => exact absurd hcls h
    | good => rfl
    | low => rfl
    | high => rfl
  · rw [hcls]
    cases new with
    | fault => exact absurd rfl hnew
    | good => rfl
    | low => rfl
    | high => rfl

theorem incrementOf_of_low (h : b.cls ≠ .fault) (hexpired : r.expired = false) (hnewHigh : new ≠ .high)
    (hbaseHigh : b.cls ≠ .high) (hlow : new = .low ∨ b.cls = .low) :
    incrementOf (previousOf r) new v = (.low, none) := by
  rw [previousOf_fresh hb hexpired]
  rcases hlow with rfl | hcls
  · cases hcls : b.cls with
    | fault => exact absurd hcls h
    | high => exact absurd hcls hbaseHigh
    | good => rfl
    | low => rfl
  · rw [hcls]
    cases new with
    | fault => exact absurd rfl hnew
    | high => exact absurd rfl hnewHigh
    | good => rfl
    | low => rfl

omit hnew in
theorem incrementOf_of_good (hcls : b.cls = .good) (hexpired : r.expired = false) :
    incrementOf (previousOf r) .good v =
      if b.total < v then (.normal, some (increment v b.total)) else if v = b.total then (.zero, some 0) else (.low, none) := by
  rw [previousOf_fresh hb hexpired, hcls]
  rfl

end

/-- R20, R25: the last good value follows an increment that has a value. -/
def lastGoodAfter (got : SampleClass × Option Int) (before : Option GoodValue) : Option GoodValue :=
  match got.2 with
  | some x => some { value := x, isZero := got.1 == .zero }
  | none => before

theorem classTotal_eq (d : Descriptor) (v : Int) (fault restart : Bool) (r : Sample) :
    let new := operandOf (classValue d v fault)
    let got := if restart then restartOf new else incrementOf (previousOf r) new v
    classTotal d v fault restart r =
      { r with cls := got.1, value := got.2, lastGood := lastGoodAfter got r.lastGood, baseline := nextBaseline r.baseline new v } :=
  rfl

theorem lastGoodAfter_of_none {got : SampleClass × Option Int} (h : got.2 = none) (before : Option GoodValue) :
    lastGoodAfter got before = before := by
  rw [lastGoodAfter, h]

theorem increment_of_fits {new old : Int} (hrises : old < new) (hfits : new - old ≤ 2147483647) :
    increment new old = new - old := if_pos ⟨by omega, hfits⟩

/-! ### The operand of a total (R21, R25) -/

theorem operandOf_of_sensorFault (d : Descriptor) (v : Int) : operandOf (classValue d v true) = .fault := rfl

theorem operandOf_of_low {d : Descriptor} {v : Int} (h : v < d.rangeLow) : operandOf (classValue d v false) = .low := by
  rw [classValue, if_neg (by simp), if_pos h]
  rfl

theorem operandOf_of_high {d : Descriptor} {v : Int} (hlow : d.rangeLow ≤ v) (h : d.rangeHigh < v) :
    operandOf (classValue d v false) = .high := by
  rw [classValue, if_neg (by simp), if_neg (by omega), if_pos h]
  rfl

theorem operandOf_of_sound {d : Descriptor} {v : Int} (hlow : d.rangeLow ≤ v) (hhigh : v ≤ d.rangeHigh) :
    operandOf (classValue d v false) = .good := by
  rw [classValue, if_neg (by simp), if_neg (by omega), if_neg (by omega)]
  split <;> rfl

/-- Settles O18: the record is `State.TakesReport.leaves`, and the increment and the baseline are those of `classTotal`, by the
operands: the lemmas `incrementOf_of_fault` to `incrementOf_of_good`, and `operandOf_of_sound` and its companions at a restart. -/
theorem totalReportIsMeasured : Obligations.TotalReportIsMeasured := by
  unfold Obligations.TotalReportIsMeasured
  refine ⟨?increments, ?restarts⟩
  case increments =>
    rintro chars f s d r v harrive hlistens hkind hlow hhigh hdest hd hr htotal rfl hrestart
    obtain ⟨t, due, hexec, hsample, hraises⟩ :=
      State.TakesReport.leaves ⟨harrive, hlistens, hkind, hlow, hhigh, hdest, hd, hr⟩
    rw [classReport_total htotal, hrestart, classTotal_eq] at hsample hraises
    dsimp only at hsample hraises ⊢
    rw [if_neg (by simp)] at hsample hraises
    generalize operandOf (classValue d (reportValue f) (reportFlag f 0)) = new at hsample hraises ⊢
    refine ⟨t, _, hexec, hsample, rfl, rfl, hraises, ?_⟩
    dsimp only [settleView]
    refine ⟨?faulted, fun hnew => nextBaseline_of_ne_fault hnew _ _, fun hnew hnone => ?absent, fun b hnew hb =>
      ⟨fun h => ?baseFault, fun h hexpired => ?stale, fun h hexpired => ⟨fun hhigh => ?high, fun hnew' hb' hlow => ?low,
        fun hgood hbase => ?good⟩⟩, fun h => lastGoodAfter_of_none h _⟩
    case faulted =>
      rintro rfl
      rw [incrementOf_fault]
      exact ⟨rfl, rfl, rfl⟩
    case absent => simp [incrementOf_of_absent hnew _ hnone]
    case baseFault => simp [incrementOf_of_fault hnew _ hb h]
    case stale => simp [incrementOf_of_stale hnew _ hb h hexpired]
    case high => simp [incrementOf_of_high hnew _ hb h hexpired hhigh]
    case low => simp [incrementOf_of_low hnew _ hb h hexpired hnew' hb' hlow]
    case good =>
      subst hgood
      rw [incrementOf_of_good _ hb hbase hexpired]
      refine ⟨fun hrises => ?_, fun hsame => ?_, fun hfalls => ?_⟩
      · rw [if_pos hrises]
        refine ⟨rfl, fun hfits => ?_⟩
        rw [increment_of_fits hrises hfits]
        exact ⟨rfl, rfl⟩
      · rw [if_neg (by omega), if_pos hsame]
        exact ⟨rfl, rfl, rfl⟩
      · rw [if_neg (by omega), if_neg (by omega)]
        exact ⟨rfl, rfl⟩
  case restarts =>
    rintro chars f s d r v harrive hlistens hkind hlow hhigh hdest hd hr htotal rfl hrestart
    obtain ⟨t, due, hexec, hsample, hraises⟩ :=
      State.TakesReport.leaves ⟨harrive, hlistens, hkind, hlow, hhigh, hdest, hd, hr⟩
    rw [classReport_total htotal, hrestart, classTotal_eq] at hsample
    dsimp only at hsample ⊢
    rw [if_pos rfl] at hsample
    refine ⟨t, _, hexec, hsample, ?_⟩
    dsimp only [settleView]
    refine ⟨fun hfault => ?_, fun hfault hsound => ?_, fun hfault h => ?_, fun hfault h h' => ?_⟩
    · rw [hfault, operandOf_of_sensorFault]
      exact ⟨rfl, rfl, rfl⟩
    · rw [hfault, operandOf_of_sound hsound.1 hsound.2]
      exact ⟨rfl, rfl, rfl⟩
    · rw [hfault, operandOf_of_low h]
      exact ⟨rfl, rfl, rfl⟩
    · rw [hfault, operandOf_of_high h h']
      exact ⟨rfl, rfl, rfl⟩

end Sys2Proof.Machine
end

section
namespace Sys2Proof.Machine

/-! ### Self-poll intervals (R31, R32) -/

theorem present_of_descriptor {s : State} {n c : Nat} {d : Descriptor} (h : s.descriptor n c = some d) :
    (s.station n).present = true := by
  unfold State.descriptor at h
  split at h
  · assumption
  · simp at h

/-- R32: the channel polled each second is channel 0 of the BeltScale of a picker that is Clearing. -/
theorem fastPolled_iff (s : State) (n c : Nat) : s.fastPolled n c = true ↔
    (c = 0 ∧ (s.station n).role = .beltScale ∧
      ∃ p, (s.station n).unit = some (.picker p) ∧ (s.picker p).state = .clearing) ∧ (s.station n).present = true := by
  unfold State.fastPolled
  split
  · rename_i p hunit
    simp only [Bool.and_eq_true, beq_iff_eq, hunit, Option.some.injEq, UnitId.picker.injEq, exists_eq_left']
    tauto
  · rename_i hother
    refine ⟨fun h => by simp at h, ?_⟩
    rintro ⟨⟨_, _, p, hunit, _⟩, _⟩
    exact absurd hunit (hother p)

section
variable {s : State} {n c : Nat} {d : Descriptor} (h : s.descriptor n c = some d)
include h

theorem pollInterval_of_fast (hfast : c = 0 ∧ (s.station n).role = .beltScale ∧
    ∃ p, (s.station n).unit = some (.picker p) ∧ (s.picker p).state = .clearing) : s.pollInterval n c = 1 :=
  if_pos ((fastPolled_iff s n c).mpr ⟨hfast, present_of_descriptor h⟩)

theorem pollInterval_of_slow (hslow : ¬(c = 0 ∧ (s.station n).role = .beltScale ∧
    ∃ p, (s.station n).unit = some (.picker p) ∧ (s.picker p).state = .clearing)) : s.pollInterval n c = d.pollInterval := by
  rw [State.pollInterval, if_neg fun hfast => hslow ((fastPolled_iff s n c).mp hfast).1, State.descriptorInterval, h]
  rfl

end

/-! ### Updates delivered (R29) -/

/-- R29: the update of a Present station's channel goes to its unit, where the channel is 0, and then to the watches. -/
theorem deliver_of_present {e : StationEntry} (h : e.present = true) (station channel : Nat) (u : Update) (s : State) :
    deliver e station channel u s = watchesTake station channel u.view
      (match e.unit with
        | some unit => if channel = 0 then unitTakes e.role unit u s else s
        | none => s) := by
  unfold deliver
  by_cases hchannel : channel = 0 <;> cases e.unit <;> simp [h, hchannel]

/-- R165, R31: the state a Report leaves before its update is delivered. -/
def State.tapped (s : State) (f : Frame) (d : Descriptor) (r : Sample) : State :=
  (s.putSample f.src f.channel { r with pollDue := dueAfter s.now (s.pollInterval f.src f.channel) }).recorded
    f.src f.channel d r.cls (reportedSample d f s r)

section
variable (s : State) (f : Frame) (d : Descriptor) (r : Sample)

theorem State.tapped_frame : s.tapped f d r = { s with chan := (s.tapped f d r).chan, notice := (s.tapped f d r).notice } :=
  State.recorded_frame _ _ _ _ _ _

theorem State.tapped_stations : (s.tapped f d r).chan.stations = s.chan.stations := State.recorded_stations _ _ _ _ _ _

theorem State.sample_tapped_same :
    (s.tapped f d r).sample f.src f.channel = some (settleView d.mask (reportedSample d f s r)) := by
  rw [State.tapped, State.sample_recorded, State.sample_putSample_same]

/-- R165: a Report changes no record but that of its channel. -/
theorem State.sample_tapped_other {n c : Nat} (hf : f.channel ≤ 3) (hc : c ≤ 3) (h : n ≠ f.src ∨ c ≠ f.channel) :
    (s.tapped f d r).sample n c = s.sample n c := by
  have hkey : sampleKey f.src f.channel ≠ sampleKey n c := by
    unfold sampleKey
    omega
  rw [State.tapped, State.sample_recorded, State.sample_putSample, if_neg hkey, State.sample_putSample, if_neg hkey]

/-- R29, R165: the update of a Report is formed of the view its record gives, and delivered. -/
theorem tapReport_delivers (hd : s.descriptor f.src f.channel = some d) (hr : s.sample f.src f.channel = some r) :
    tapReport f s = deliver (s.station f.src) f.src f.channel
      { view := (s.tapped f d r).view f.src f.channel, report := true, settled := reportFlag f 1 } (s.tapped f d r) := by
  rw [tapReport_eq hd hr, finishUpdate_eq, State.tapped,
    State.view_recorded (State.putSample _ _ _ _) f.src f.channel d r.cls (reportedSample d f s r) hd]
  rfl

theorem view_tapped_substituted (hd : s.descriptor f.src f.channel = some d) :
    (settleView d.mask (reportedSample d f s r)).substituted = ((s.tapped f d r).view f.src f.channel).substituted := by
  rw [State.tapped, State.view_recorded (State.putSample _ _ _ _) f.src f.channel d r.cls (reportedSample d f s r) hd]
  rfl

end

/-- R29: the consumers of an update leave the poll and the Forward queue up alone. -/
theorem poll_forwardUp_deliver (e : StationEntry) (station channel : Nat) (u : Update) (s : State) :
    (deliver e station channel u s).line.poll = s.line.poll ∧ (deliver e station channel u s).line.forwardUp = s.line.forwardUp :=
  Prod.mk.inj (deliver_closed (poll_forwardUp_closed (s.line.poll, s.line.forwardUp)) poll_forwardUp_queueUp e station channel u rfl)

/-- R165: what becomes of an accepted frame that is not the Report of a described channel. -/
theorem fieldFrame_routes {f : Frame} {s : State} (hund : f.kind = .report → 2 ≤ f.src → f.src ≤ 126 →
    f.dest ≤ 1 ∨ f.dest = 127 → s.descriptor f.src f.channel = none) :
    (f.src = 0 ∨ f.src = 1 ∨ f.src = 127 ∨ (2 ≤ f.dest ∧ f.dest ≤ 126) ∨ (f.dest = 127 ∧ f.kind ≠ .report) →
      fieldFrame f s = countMisdirected s) ∧
    (2 ≤ f.src → f.src ≤ 126 → f.dest = 127 → f.kind = .report → fieldFrame f s = s) ∧
    (2 ≤ f.src → f.src ≤ 126 → f.dest ≤ 1 → fieldFrame f s = joinForwardUp f s) := by
  refine ⟨fun h => ?misdirected, fun hlow hhigh hdest hkind => ?taken, fun hlow hhigh hdest => ?forwarded⟩
  case misdirected =>
    unfold fieldFrame
    split
    · rfl
    · rename_i hplaced
      rw [misplaced_iff] at hplaced
      obtain ⟨hdest, hkind⟩ : f.dest = 127 ∧ f.kind ≠ .report := by tauto
      rw [if_neg hkind, if_pos hdest]
  case taken =>
    rw [fieldFrame, misplaced_eq_false hlow hhigh (.inr hdest), if_neg (by simp), if_pos hkind, if_pos hdest,
      tapReport_of_undescribed (hund hkind hlow hhigh (.inr hdest))]
  case forwarded =>
    rw [fieldFrame, misplaced_eq_false hlow hhigh (.inl hdest), if_neg (by simp)]
    split
    · rename_i hkind
      rw [if_neg (by omega), tapReport_of_undescribed (hund hkind hlow hhigh (.inl hdest))]
    · rw [if_neg (by omega)]

/-- Settles O13: the routing is `fieldFrame_routes`; a Report of a described channel is `State.tapped`, whose update
`tapReport_delivers`. -/
theorem fieldFrameRouting : Obligations.FieldFrameRouting := by
  unfold Obligations.FieldFrameRouting
  refine ⟨?routing, ?described⟩
  case routing =>
    rintro chars f s u harrive hlistens hund hu
    obtain rfl : s.arrived f = u := (s.arrived_eq f).trans hu.symm
    obtain ⟨hmisdirected, htaken, hforwarded⟩ := fieldFrame_routes (f := f) (s := s.arrived f) (by
      rw [State.arrived_eq]
      exact hund)
    rw [exec_fPortFrameReceived_of_accepted harrive hlistens]
    refine ⟨fun h => ?_, fun hlow hhigh hdest hkind => ?_, fun hlow hhigh hdest => ⟨_, rfl, ?_⟩⟩
    · rw [hmisdirected h, countMisdirected_eq]
    · rw [htaken hlow hhigh hdest hkind]
    · rw [hforwarded hlow hhigh hdest]
      exact joinForwardUp_forwarded f _
  case described =>
    rintro chars f s d r harrive hlistens hkind hlow hhigh hdest hd hr
    have hreport : s.TakesReport chars f d r := ⟨harrive, hlistens, hkind, hlow, hhigh, hdest, hd, hr⟩
    have hchannel := channel_le_of_report harrive hkind
    have harrived := s.arrived_eq f
    simp only [hkind, true_and] at harrived
    have hd' : (s.arrived f).descriptor f.src f.channel = some d := by rw [harrived]; exact hd
    have hr' : (s.arrived f).sample f.src f.channel = some r := by rw [harrived]; exact hr
    have hstation : (s.arrived f).station f.src = s.station f.src := by rw [harrived]; rfl
    have hinterval : (s.arrived f).pollInterval f.src f.channel = s.pollInterval f.src f.channel := by rw [harrived]; rfl
    have hnow : (s.arrived f).now = s.now := by rw [harrived]; rfl
    have hdelivered := tapReport_delivers (s.arrived f) f d r hd' hr'
    obtain ⟨hpoll, hup⟩ := poll_forwardUp_deliver ((s.arrived f).station f.src) f.src f.channel
      { view := ((s.arrived f).tapped f d r).view f.src f.channel, report := true, settled := reportFlag f 1 }
      ((s.arrived f).tapped f d r)
    rw [← hdelivered] at hpoll hup
    refine ⟨_, (s.arrived f).tapped f d r, tapReport f (s.arrived f), _, hreport.exec_eq, ⟨?frame, ?stations,
      State.sample_tapped_same _ f d r, ?lastReport, ⟨fun h => ?fast, fun h => ?slow⟩,
      view_tapped_substituted _ f d r hd', fun n c hc h => ?others⟩, ?delivered, hpoll, hup.trans ?up, fun h => if_pos h,
      fun h => ?forwarded⟩
    case frame => exact (State.tapped_frame _ f d r).trans (by rw [harrived])
    case stations => rw [State.tapped_stations, harrived]
    case lastReport => exact congrArg some hnow
    case fast =>
      change dueAfter _ _ = _
      rw [hinterval, hnow, pollInterval_of_fast hd h]
      rfl
    case slow =>
      change dueAfter _ _ = _
      rw [hinterval, hnow, pollInterval_of_slow hd h]
      rfl
    case others =>
      rw [State.sample_tapped_other _ f d r hchannel hc h, harrived]
      rfl
    case delivered =>
      rw [hdelivered, hstation]
      exact deliver_of_present (present_of_descriptor hd) _ _ _ _
    case forwarded =>
      rw [if_neg (by omega)]
      exact joinForwardUp_forwarded f _
    case up => rw [State.tapped_frame, harrived]

end Sys2Proof.Machine
end

section
namespace Sys2Proof.Machine

/-! ### Stale expiries (R22) -/

section
variable {s : State} {station channel : Nat} {d : Descriptor} {r : Sample} (hd : s.descriptor station channel = some d)
  (hr : s.sample station channel = some r)
include hd hr

theorem exec_staleExpiry_of_early
    (h : r.lastReport = none ∨ r.expired = true ∨ ∃ n, r.lastReport = some n ∧ s.now < n + d.window) :
    exec (.staleExpiry station channel) s = .next s := by
  change execStaleExpiry station channel s = _
  unfold execStaleExpiry
  cases hlast : r.lastReport with
  | none => simp only [hd, hr, hlast]
  | some n =>
    simp only [hd, hr, hlast]
    refine if_neg ?_
    rintro ⟨hfresh, hpassed⟩
    rcases h with h | h | ⟨m, h, hearly⟩
    · simp [hlast] at h
    · simp [hfresh] at h
    · obtain rfl : n = m := Option.some.inj (hlast.symm.trans h)
      omega

theorem exec_staleExpiry_of_passed {n : Nat} (hlast : r.lastReport = some n) (hpassed : n + d.window ≤ s.now)
    (hfresh : r.expired = false) : exec (.staleExpiry station channel) s =
      .next (finishUpdate station channel d r.cls (expireSample d r) false false s) := by
  change execStaleExpiry station channel s = _
  unfold execStaleExpiry
  simp only [hd, hr, hlast]
  exact if_pos ⟨hfresh, hpassed⟩

end

theorem expireSample_value (d : Descriptor) (r : Sample) : (d.kind = .level → (expireSample d r).value = r.value) ∧
    (d.kind = .runningTotal → (expireSample d r).value = none) := by
  refine ⟨fun h => ?_, fun h => ?_⟩ <;> simp [expireSample, h]

/-! ### Self-polls that fall due (R31) -/

theorem selfPollWaits_iff (s : State) (station channel : Nat) : s.selfPollWaits station channel = true ↔
    ∃ e ∈ s.line.ownDown, e.frame.kind = .poll ∧ e.frame.dest = station ∧ e.frame.channel = channel := by
  simp [State.selfPollWaits, and_assoc]

/-- R161: a frame that finds a place outside the safety places joins the tail of the Own queue down. -/
theorem queueDown_of_room {s : State} (h : s.line.ownDown.length < 6) (f : Frame) (injected : Bool) :
    queueDown f injected s =
      { s with line := { s.line with ownDown := s.line.ownDown ++ [{ frame := f, safety := false, injected := injected }] } } := by
  have hroom : s.line.ownDown.length < Config.ownDownPlaces := lt_trans h (by decide)
  rw [queueDown, State.onLine, if_pos hroom]

section
variable {s : State} {station channel : Nat} {r : Sample} (hr : s.sample station channel = some r)
include hr

theorem selfPoll_of_waiting (h : s.selfPollWaits station channel = true) : selfPoll station channel s =
    s.putSample station channel { r with pollDue := dueAfter s.now (s.pollInterval station channel) } := by
  rw [selfPoll, if_pos h, restartPollTimer_eq hr]

theorem selfPoll_of_full (h : ¬s.selfPollWaits station channel = true) (hfull : 6 ≤ s.line.ownDown.length) :
    selfPoll station channel s = s.putSample station channel { r with pollDue := dueAfter s.now 1 } := by
  have hplace : s.downFree = false := decide_eq_false (Nat.not_lt.mpr hfull)
  rw [selfPoll, if_neg h, if_neg (by simp [hplace]), startPollTimer, hr]
  rfl

theorem selfPoll_of_room (h : ¬s.selfPollWaits station channel = true) (hroom : s.line.ownDown.length < 6) :
    selfPoll station channel s =
      { s.putSample station channel { r with pollDue := dueAfter s.now (s.pollInterval station channel) } with
        line := { s.line with ownDown := s.line.ownDown ++
          [{ frame := ownPoll station channel, safety := false, injected := false }] } } := by
  have hplace : s.downFree = true := decide_eq_true hroom
  rw [selfPoll, if_neg h, if_pos hplace, queueDown_of_room hroom, restartPollTimer_eq (by exact hr)]
  rfl

variable {n : Nat} (hdue : r.pollDue = some n)
include hdue

/-- SELF_POLL_DUE takes effect once its moment has come. -/
theorem exec_selfPollDue_eq : exec (.selfPollDue station channel) s =
    .next (if n ≤ s.now then selfPoll station channel s else s) := by
  change execSelfPollDue station channel s = _
  rw [execSelfPollDue, hr, Option.bind_some, hdue]

end

/-- Settles O19: an expiry is `exec_staleExpiry_of_passed` with `finishUpdate_spec`, a self-poll `exec_selfPollDue_eq` with the
three outcomes of `selfPoll`. -/
theorem channelTimers : Obligations.ChannelTimers := by
  unfold Obligations.ChannelTimers
  refine ⟨fun s station channel d r hd hr => ⟨fun h => exec_staleExpiry_of_early hd hr h, fun n hlast hpassed hfresh => ?expiry⟩,
    fun s station channel r n hr hdue => ?poll⟩
  case expiry =>
    obtain ⟨_, ⟨due, hsample⟩, hraises⟩ := finishUpdate_spec station channel d r.cls (expireSample d r) false false s
    obtain ⟨hlevel, htotal⟩ := expireSample_value d r
    exact ⟨_, _, exec_staleExpiry_of_passed hd hr hlast hpassed hfresh, hsample, rfl, rfl, rfl, rfl, rfl, hlevel, htotal, hraises⟩
  case poll =>
    dsimp only
    rw [exec_selfPollDue_eq hr hdue, ← selfPollWaits_iff]
    refine ⟨fun h => ?_, fun h hwaits => ?_, fun h hwaits hfull => ?_, fun h hwaits hroom => ?_⟩
    · rw [if_neg (by omega)]
    · rw [if_pos h, selfPoll_of_waiting hr hwaits]
      rfl
    · rw [if_pos h, selfPoll_of_full hr hwaits hfull]
      rfl
    · rw [if_pos h, selfPoll_of_room hr hwaits hroom]
      rfl

end Sys2Proof.Machine
end

section
namespace Sys2Proof.Machine

/-! ### What an expiry and a clear claim leave of the watches -/

theorem latch_watches (n : Nat) (s : State) : (latch n s).watches = s.watches :=
  (watches_keptByKilns s.watches).latch rfl n

theorem holdIfRunning_watches (p : PickerId) (s : State) : (holdIfRunning p s).watches = s.watches := by
  unfold holdIfRunning
  split
  · obtain ⟨g, h, heq⟩ := enterHeld_eq p s
    rw [heq]
    rfl
  · rfl

/-- R51: an update of the BeltScale that is no Report books nothing; it restarts the quiet interval, and may hold its picker. -/
theorem beltUpdate_watches_of_expiry {u : Update} (hu : u.report = false) (p : PickerId) (s : State) :
    (beltUpdate p u s).watches = s.watches := by
  obtain ⟨q, hq, _⟩ := beltQuiet_eq p u s
  have hbooking : beltBooking u = none := if_neg (by simp [hu])
  unfold beltUpdate
  rw [hbooking, hq]
  dsimp only [beltSensor]
  split
  · exact holdIfRunning_watches p _
  · rw [if_neg (by simp [hu])]
    rfl

/-- An update that is no Report changes no watch at the unit that takes it. -/
theorem unitTakes_watches_of_expiry {u : Update} (hu : u.report = false) (role : Role) (unit : UnitId) (s : State) :
    (unitTakes role unit u s).watches = s.watches := by
  unfold unitTakes
  split
  · exact beltUpdate_watches_of_expiry hu _ s
  · unfold wagonUpdate
    split
    · rw [if_neg (by simp [hu])]
    · rfl
  · exact (watches_keptByKilns s.watches).airTempUpdate _ rfl u
  · exact (watches_keptByKilns s.watches).moistureUpdate _ rfl u
  · unfold dropScaleUpdate
    split
    · rfl
    · rw [if_neg (by simp [hu])]
  · rw [dropGateUpdate, if_neg (by simp [hu])]
  · rw [fillScaleUpdate, if_neg (by simp [hu])]
  · unfold hydraulicsUpdate
    split
    · rfl
    · rw [if_neg (by simp [hu])]
  · rw [baleScaleUpdate_of_expiry hu]
  · rfl

/-- R151: a clear claim changes no watch. -/
theorem clearFlag_watches (f : ModeFlag) (s : State) : (clearFlag f s).watches = s.watches := by
  cases f with
  | feedEnable p =>
    simp only [clearFlag, clearFeedEnable]
    split
    · exact holdIfRunning_watches p _
    · rfl
  | schedule k =>
    simp only [clearFlag]
    split
    · exact (watches_keptByKilns s.watches).clearSchedule k rfl
    · rfl
  | holdOff k => exact (watches_keptByKilns s.watches).clearHoldOff k rfl
  | auto b =>
    simp only [clearFlag, clearAuto]
    split <;> rfl

theorem clearFlags_watches (l : List ModeFlag) (s : State) : (l.foldl (fun s f => clearFlag f s) s).watches = s.watches :=
  foldl_closed (P := fun t => t.watches = s.watches) _ (fun t f ht => (clearFlag_watches f t).trans ht) l rfl

/-! ### Readings (R147, R148, R149) -/

theorem State.watch_putWatch (s : State) (n : Nat) (w : Watch) (i : Nat) :
    (s.putWatch n w).watch i = if n = i then w else s.watch i := by
  unfold State.watch State.putWatch
  split
  · rename_i h
    rw [← h]
    exact tableGet_tableSet_self _ _ _ _
  · rename_i h
    exact congrArg (Option.getD · _) (tableGet_tableSet_of_ne _ _ _ h)

theorem State.watch_congr {s t : State} (h : t.watches = s.watches) (n : Nat) : t.watch n = s.watch n := by
  rw [State.watch, h, State.watch]

/-- R149: a watch that fires. -/
def Watch.fired (w : Watch) (now : Nat) : Watch :=
  { w with fireCount := min (w.fireCount + 1) 255, lastFire := some now, pendingStart := none,
           state := if w.entry.repeats then .fired else .disabled }

theorem fireWatch_watch (n : Nat) (s : State) (i : Nat) :
    (fireWatch n s).watch i = if n = i then (s.watch n).fired s.now else s.watch i := by
  have hwatches : (fireWatch n s).watches = (s.putWatch n ((s.watch n).fired s.now)).watches := by
    unfold fireWatch
    dsimp only
    rw [clearFlags_watches, latch_watches, countUp_eq_min]
    rfl
  rw [← State.watch_putWatch]
  exact State.watch_congr hwatches i

theorem fireWatch_latched {n : Nat} (hn : n ≤ 24) (s : State) : (fireWatch n s).latchedNow (52 + n) := by
  unfold fireWatch
  exact foldl_closed (P := fun t => t.latchedNow (52 + n)) _ (fun _ _ ht => clearFlag_closed (latchedNow_closed _) _ ht) _
    (latchedNow_latch _ _ (by unfold srcWatch; omega))

/-- R148: where a reading that is not set aside moves a watch. -/
def Watch.moved (w : Watch) (holds : Bool) (now : Nat) : Watch :=
  match w.state, holds with
  | .armed, true =>
    if w.entry.persistence = 0 then w.fired now else { w with state := .pending, pendingStart := some now }
  | .pending, false => { w with state := .armed, pendingStart := none }
  | .fired, false => { w with state := .armed }
  | _, _ => w

theorem moveWatch_watch (n : Nat) (holds : Bool) (s : State) (i : Nat) :
    (moveWatch n holds s).watch i = if n = i then (s.watch n).moved holds s.now else s.watch i := by
  have hsame : s.watch i = if n = i then s.watch n else s.watch i := by
    split
    · rename_i h
      rw [h]
    · rfl
  cases hstate : (s.watch n).state with
  | disabled => simpa only [moveWatch, Watch.moved, hstate] using hsame
  | armed =>
    cases holds with
    | true =>
      simp only [moveWatch, Watch.moved, hstate]
      by_cases hnow : (s.watch n).entry.persistence = 0
      · rw [if_pos hnow, if_pos hnow]
        exact fireWatch_watch n s i
      · rw [if_neg hnow, if_neg hnow]
        exact s.watch_putWatch n _ i
    | false => simpa only [moveWatch, Watch.moved, hstate] using hsame
  | pending =>
    cases holds with
    | true => simpa only [moveWatch, Watch.moved, hstate] using hsame
    | false => simpa only [moveWatch, Watch.moved, hstate] using s.watch_putWatch n _ i
  | fired =>
    cases holds with
    | true => simpa only [moveWatch, Watch.moved, hstate] using hsame
    | false => simpa only [moveWatch, Watch.moved, hstate] using s.watch_putWatch n _ i

/-- R147: what a reading makes of a watch. -/
def Watch.reads (w : Watch) (v : View) (now : Nat) : Watch :=
  if w.state = .disabled then w
  else
    let outcome := compareBand w.entry.low w.entry.high v
    match conditionOf w.entry outcome with
    | some holds => Watch.moved { w with lastOutcome := some outcome } holds now
    | none => { w with lastOutcome := some outcome }

/-- R147: a reading changes its own watch alone. -/
theorem takeReading_watch (n : Nat) (v : View) (s : State) (i : Nat) :
    (takeReading n v s).watch i = if n = i then (s.watch n).reads v s.now else s.watch i := by
  unfold takeReading Watch.reads
  dsimp only
  split
  · split
    · rename_i h
      rw [h]
    · rfl
  · cases conditionOf (s.watch n).entry (compareBand (s.watch n).entry.low (s.watch n).entry.high v) with
    | some holds =>
      dsimp only
      rw [moveWatch_watch, State.watch_putWatch, if_pos rfl, State.watch_putWatch]
      split <;> rfl
    | none => exact s.watch_putWatch n _ i

theorem takeReading_now (n : Nat) (v : View) (s : State) : (takeReading n v s).now = s.now :=
  (takeReading_closed (keepsMonitor_closed s) n v (.refl s)).now

/-- R29: an update read by one watch, where its entry names the channel. -/
def readBy (station channel : Nat) (v : View) (s : State) (n : Nat) : State :=
  if (s.watch n).entry.station = station ∧ (s.watch n).entry.channel = channel then takeReading n v s else s

theorem readBy_other {station channel : Nat} {v : View} {n i : Nat} (h : n ≠ i) (s : State) :
    (readBy station channel v s n).watch i = s.watch i ∧ (readBy station channel v s n).now = s.now := by
  unfold readBy
  split
  · exact ⟨by rw [takeReading_watch, if_neg h], takeReading_now n v s⟩
  · exact ⟨rfl, rfl⟩

theorem foldl_readBy_other {station channel : Nat} {v : View} {i : Nat} (l : List Nat) (h : i ∉ l) (s : State) :
    (l.foldl (readBy station channel v) s).watch i = s.watch i ∧ (l.foldl (readBy station channel v) s).now = s.now := by
  induction l generalizing s with
  | nil => exact ⟨rfl, rfl⟩
  | cons n l ih =>
    rw [List.mem_cons, not_or] at h
    obtain ⟨hwatch, hnow⟩ := ih h.2 (readBy station channel v s n)
    obtain ⟨hwatch', hnow'⟩ := readBy_other (Ne.symm h.1) s (station := station) (channel := channel) (v := v)
    exact ⟨hwatch.trans hwatch', hnow.trans hnow'⟩

theorem mem_watchNumbers {i : Nat} (hlow : 1 ≤ i) (hhigh : i ≤ 24) : i ∈ watchNumbers :=
  List.mem_map.mpr ⟨i - 1, List.mem_range.mpr (by omega), by omega⟩

/-- R29: each watch takes an update once, as it stands, whatever the watches before and after it do. -/
theorem watchesTake_at {i : Nat} (hlow : 1 ≤ i) (hhigh : i ≤ 24) (station channel : Nat) (v : View) (s : State) :
    ∃ u, u.watch i = s.watch i ∧ u.now = s.now ∧
      (watchesTake station channel v s).watch i = (readBy station channel v u i).watch i ∧
      ∀ n, (readBy station channel v u i).latchedNow n → (watchesTake station channel v s).latchedNow n := by
  obtain ⟨front, back, hsplit⟩ := List.append_of_mem (mem_watchNumbers hlow hhigh)
  have hnodup : (front ++ i :: back).Nodup := hsplit ▸ (by decide : watchNumbers.Nodup)
  rw [List.nodup_middle, List.nodup_cons, List.mem_append, not_or] at hnodup
  obtain ⟨⟨hfront, hback⟩, _⟩ := hnodup
  have htake : watchesTake station channel v s =
      back.foldl (readBy station channel v) (readBy station channel v (front.foldl (readBy station channel v) s) i) := by
    change watchNumbers.foldl (readBy station channel v) s = _
    rw [hsplit, List.foldl_append, List.foldl_cons]
  obtain ⟨hwatch, hnow⟩ := foldl_readBy_other (station := station) (channel := channel) (v := v) front hfront s
  refine ⟨_, hwatch, hnow, ?_, fun n hn => ?_⟩
  · rw [htake, (foldl_readBy_other back hback _).1]
  · rw [htake]
    refine foldl_closed (P := fun t => t.latchedNow n) _ (fun t m ht => ?_) back hn
    exact closed_ite (P := fun t => t.latchedNow n) (takeReading_closed (latchedNow_closed n) m v ht) ht

/-- R149: a reading that fires a watch latches its source. -/
theorem takeReading_latched {n : Nat} (hn : n ≤ 24) {v : View} {s : State} (hstate : (s.watch n).state = .armed)
    (hpersistence : (s.watch n).entry.persistence = 0)
    (h : conditionOf (s.watch n).entry (compareBand (s.watch n).entry.low (s.watch n).entry.high v) = some true) :
    (takeReading n v s).latchedNow (52 + n) := by
  unfold takeReading
  dsimp only
  rw [if_neg (by simp [hstate]), h]
  dsimp only [moveWatch]
  rw [State.watch_putWatch, if_pos rfl]
  simp only [hstate, hpersistence, if_pos]
  exact fireWatch_latched hn _

/-! ### Conditions (R147) -/

/-- R147: the condition of a reading holds. -/
theorem conditionOf_eq_true_iff (e : WatchEntry) (o : BandOutcome) : conditionOf e o = some true ↔
    ((o = .below ∨ o = .above) ∧ e.negate = false ∨ o = .inside ∧ e.negate = true ∨ o = .unordered ∧ e.unorderedFires = true) := by
  cases o <;> simp [conditionOf]

/-- R147: a reading is set aside. -/
theorem conditionOf_eq_none_iff (e : WatchEntry) (o : BandOutcome) :
    conditionOf e o = none ↔ o = .unordered ∧ e.unorderedFires = false := by
  cases o <;> simp [conditionOf]

theorem conditionOf_eq_false {e : WatchEntry} {o : BandOutcome} (hholds : conditionOf e o ≠ some true)
    (haside : conditionOf e o ≠ none) : conditionOf e o = some false := by
  cases h : conditionOf e o with
  | none => exact absurd h haside
  | some b =>
    cases b with
    | true => exact absurd h hholds
    | false => rfl

section
variable {w : Watch} (henabled : w.state ≠ .disabled) (v : View) (now : Nat)
include henabled

theorem Watch.reads_of_none (h : conditionOf w.entry (compareBand w.entry.low w.entry.high v) = none) :
    w.reads v now = { w with lastOutcome := some (compareBand w.entry.low w.entry.high v) } := by
  unfold Watch.reads
  rw [if_neg henabled]
  dsimp only
  rw [h]

theorem Watch.reads_of_some {holds : Bool} (h : conditionOf w.entry (compareBand w.entry.low w.entry.high v) = some holds) :
    w.reads v now =
      Watch.moved { w with lastOutcome := some (compareBand w.entry.low w.entry.high v) } holds now := by
  unfold Watch.reads
  rw [if_neg henabled]
  dsimp only
  rw [h]

end

theorem Watch.moved_of_not_armed {w : Watch} (henabled : w.state ≠ .disabled) (h : w.state ≠ .armed) (now : Nat) :
    w.moved true now = w := by
  unfold Watch.moved
  cases hstate : w.state with
  | disabled => exact absurd hstate henabled
  | armed => exact absurd hstate h
  | pending => rfl
  | fired => rfl

/-! ### An expiry and its watches -/

/-- R29: an update that is no Report leaves the watches to themselves, and the clock. -/
theorem deliver_to_watches (e : StationEntry) (station channel : Nat) {u : Update} (hu : u.report = false) (s : State) :
    ∃ m, m.watches = s.watches ∧ m.now = s.now ∧ deliver e station channel u s = watchesTake station channel u.view m := by
  unfold deliver
  split
  · split
    · rename_i unit _
      exact ⟨_, unitTakes_watches_of_expiry hu e.role unit s,
        (unitTakes_closed_of_expiry (keepsMonitor_closed s) hu e.role unit (.refl s)).now, rfl⟩
    · exact ⟨s, rfl, rfl, rfl⟩
  · exact ⟨s, rfl, rfl, rfl⟩

/-- R22, R29: the view a Stale expiry's update carries to a watch is the one the channel then gives, and the watch takes it as it
stood at the expiry, whatever the unit and the other watches have done. -/
theorem expiry_reaches_watch {s : State} {station channel : Nat} {d : Descriptor} (hd : s.descriptor station channel = some d)
    (before : SampleClass) (r : Sample) {i : Nat} (hlow : 1 ≤ i) (hhigh : i ≤ 24) :
    let t := finishUpdate station channel d before r false false s
    ∃ u, u.watch i = s.watch i ∧ u.now = s.now ∧
      t.watch i = (readBy station channel (t.view station channel) u i).watch i ∧
      ∀ n, (readBy station channel (t.view station channel) u i).latchedNow n → t.latchedNow n := by
  dsimp only
  obtain ⟨hkeeps, _, _⟩ := finishUpdate_spec station channel d before r false false s
  have hview := (hkeeps.view station channel).trans (s.view_recorded station channel d before r hd)
  have hrecorded := s.recorded_frame station channel d before r
  obtain ⟨m, hwatches, hnow, hdeliver⟩ := deliver_to_watches (s.station station) station channel
    (u := { view := viewOf d.mask r.cls r.value r.lastGood, report := false, settled := false }) rfl
    (s.recorded station channel d before r)
  rw [hview, finishUpdate_eq, hdeliver]
  obtain ⟨u, hwatch', hnow', htake, hlatched⟩ := watchesTake_at hlow hhigh station channel (viewOf d.mask r.cls r.value r.lastGood) m
  refine ⟨u, hwatch'.trans (State.watch_congr (hwatches.trans ?_) i), hnow'.trans (hnow.trans ?_), htake, hlatched⟩
  · rw [hrecorded]
  · rw [hrecorded]
    rfl

/-- Settles O21: the watch takes the update of the expiry as it stood (`expiry_reaches_watch`) and moves as `Watch.reads` says. -/
theorem watchesReadAnUpdate : Obligations.WatchesReadAnUpdate := by
  unfold Obligations.WatchesReadAnUpdate
  intro s station channel d r m i hd hr hlast hpassed hfresh hlow hhigh
  refine ⟨_, exec_staleExpiry_of_passed hd hr hlast hpassed hfresh, ?_⟩
  obtain ⟨u, hwatch, hnow, htake, hlatched⟩ := expiry_reaches_watch hd r.cls (expireSample d r) hlow hhigh
  generalize finishUpdate station channel d r.cls (expireSample d r) false false s = t at htake hlatched ⊢
  unfold readBy at htake hlatched
  rw [hwatch] at htake hlatched
  dsimp only
  rw [← conditionOf_eq_true_iff, ← conditionOf_eq_none_iff]
  refine ⟨fun h => ?unread, fun hstation hchannel henabled => ?read⟩
  case unread =>
    rw [htake]
    split
    · rename_i hnamed
      have hdisabled : (s.watch i).state = .disabled := by tauto
      rw [takeReading_watch, if_pos rfl, hwatch, Watch.reads, if_pos hdisabled]
    · exact hwatch
  case read =>
    rw [if_pos ⟨hstation, hchannel⟩] at htake hlatched
    rw [takeReading_watch, if_pos rfl, hwatch, hnow] at htake
    rw [htake]
    refine ⟨fun haside => Watch.reads_of_none henabled _ _ haside, fun hholds harmed hpersistence => ?pending,
      fun hholds harmed hpersistence => ⟨?latched, ?fired⟩, fun hholds hstate => ?stays, fun hholds haside hstate => ?rearmed,
      fun hholds haside hstate => ?refired, fun hholds haside hstate => ?idle⟩
    case pending =>
      rw [Watch.reads_of_some henabled _ _ hholds]
      simp [Watch.moved, harmed, hpersistence]
    case latched => exact hlatched _ (takeReading_latched hhigh (by rwa [hwatch]) (by rwa [hwatch]) (by rwa [hwatch]))
    case fired =>
      rw [Watch.reads_of_some henabled _ _ hholds]
      simp [Watch.moved, Watch.fired, harmed, hpersistence]
    case stays =>
      rw [Watch.reads_of_some henabled _ _ hholds]
      refine Watch.moved_of_not_armed ?_ ?_ _
      · exact henabled
      · exact hstate
    case rearmed =>
      rw [Watch.reads_of_some henabled _ _ (conditionOf_eq_false hholds haside)]
      simp [Watch.moved, hstate]
    case refired =>
      rw [Watch.reads_of_some henabled _ _ (conditionOf_eq_false hholds haside)]
      simp [Watch.moved, hstate]
    case idle =>
      rw [Watch.reads_of_some henabled _ _ (conditionOf_eq_false hholds haside)]
      simp [Watch.moved, hstate]

end Sys2Proof.Machine
end

section
namespace Sys2Proof.Machine

/-! ### The close of a clearance (R45, steps 1 to 3) -/

theorem State.picker_congr {s t : State} (h : t.pickers = s.pickers) (p : PickerId) : t.picker p = s.picker p := by
  cases p <;> simp only [State.picker, h]

theorem State.feedStopWaits_congr {s s' t : State} {p : PickerId} (h : s'.chan.stations = s.chan.stations)
    (hwaits : s'.feedStopWaits t p) : s.feedStopWaits t p :=
  fun st hst => hwaits st ((State.bound_congr h _ _).trans hst)

theorem beltPollTimer_eq_onChan (p : PickerId) (fast : Bool) (s : State) : ∃ g, beltPollTimer p fast s = s.onChan g := by
  unfold beltPollTimer
  split
  · exact startPollTimer_eq_onChan _ _ _ _
  · exact ⟨id, rfl⟩

theorem picker_issueTicket (kind : TicketKind) (lot grower : Nat) (body : TicketBody) (s : State) (p : PickerId) :
    (issueTicket kind lot grower body s).picker p = s.picker p := by
  obtain ⟨g, hg⟩ := issueTicket_eq_onStore kind lot grower body s
  rw [hg, State.onStore_picker_keep]

theorem picker_closeCore (p : PickerId) (n : Nat) (c : Charge) (reason : CloseReason) (s : State) :
    (closeCore p n c reason s).picker p = { s.picker p with loading := none } := by
  obtain ⟨l, hl⟩ := State.onCharge_eq_onPool s n fun r => { r with reason := some reason, state := .loaded }
  unfold closeCore
  dsimp only
  rw [hl]
  rw [State.picker_onPicker_same, picker_issueTicket, State.onRing, State.onKiln_picker_keep, State.onPool_picker_keep]

/-- R53: a close leaves its picker without a loading charge, and otherwise as it was. -/
theorem picker_closeToReady {s : State} {p : PickerId} (h : s.loadingCharge p ≠ none ∨ (s.picker p).loading = none)
    (reason : CloseReason) : (closeToReady p reason s).picker p = { s.picker p with loading := none } := by
  unfold closeToReady
  split
  · rename_i hnone
    have hloading := h.resolve_left (absurd hnone)
    cases hr : s.picker p
    rw [hr] at hloading
    exact congrArg (fun l => Picker.mk _ _ _ _ _ l _ _ _ _ _ _ _ _ _ _ _) hloading
  · rename_i n c _
    rw [← picker_closeCore p n c reason s]
    exact State.picker_congr ((pickers_keptByKilns _).leaveLoading c.kiln rfl) p

/-- R45: a picker at the end of a clearance, before its next state is found. -/
def Picker.cleared (r : Picker) : Picker :=
  { r with loading := none, currentLot := if r.pendingLot.isSome then r.pendingLot else r.currentLot, pendingLot := none,
           clearanceStart := none, quietStart := none, inForce := none }

theorem picker_finishClearance {s : State} {p : PickerId} (h : s.loadingCharge p ≠ none ∨ (s.picker p).loading = none) :
    (finishClearance p s).picker p = (s.picker p).cleared := by
  unfold finishClearance
  dsimp only
  obtain ⟨g, hg⟩ := beltPollTimer_eq_onChan p false ((closeToReady p .lotChange s).onPicker p fun r =>
    { r with currentLot := if r.pendingLot.isSome then r.pendingLot else r.currentLot, pendingLot := none,
             clearanceStart := none, quietStart := none, inForce := none })
  rw [hg, State.onChan_picker_keep, State.picker_onPicker_same, picker_closeToReady h]
  rfl

theorem finishClearance_stations (p : PickerId) (s : State) : (finishClearance p s).chan.stations = s.chan.stations :=
  (finishClearance_closed (keepsMonitor_closed s) p (.refl s)).stations

theorem Picker.cleared_currentLot (r : Picker) :
    r.cleared.currentLot = if r.pendingLot = none then r.currentLot else r.pendingLot := by
  unfold Picker.cleared
  cases r.pendingLot <;> simp

/-! ### The picker's next state (R45, step 4) -/

/-- What the end of a clearance leaves of its picker. -/
def State.clearanceEnded (s t : State) (p : PickerId) : Prop :=
  (t.picker p).clearanceStart = none ∧ (t.picker p).quietStart = none ∧ (t.picker p).pendingLot = none ∧
    (t.picker p).currentLot = (if (s.picker p).pendingLot = none then (s.picker p).currentLot else (s.picker p).pendingLot) ∧
    ((s.picker p).stopAfter = true → (t.picker p).state = .stopped ∧ (t.picker p).stopAfter = false ∧
      (t.picker p).loading = none ∧ s.feedStopWaits t p) ∧
    ((s.picker p).stopAfter = false → (s.picker p).reasons.standing = true →
      (t.picker p).state = .held ∧ (t.picker p).loading = none ∧ t.latchedNow (srcHeld p) ∧ s.feedStopWaits t p) ∧
    ((s.picker p).stopAfter = false → (s.picker p).reasons.standing = false →
      (s.picker p).pendingLot ≠ none ∨ (s.picker p).currentLot ≠ none →
      ((t.picker p).state = .running ∧ (t.picker p).loading ≠ none) ∨ (t.picker p).state = .held)

/-- The end of a clearance speaks of its picker and the bindings alone. -/
theorem State.clearanceEnded_congr {s s' t : State} {p : PickerId} (hpicker : s'.picker p = s.picker p)
    (hstations : s'.chan.stations = s.chan.stations) (h : s'.clearanceEnded t p) : s.clearanceEnded t p := by
  unfold State.clearanceEnded at h
  rw [hpicker] at h
  obtain ⟨hclearance, hquiet, hpending, hcurrent, hstops, hheld, hopens⟩ := h
  refine ⟨hclearance, hquiet, hpending, hcurrent, fun hstop => ?_, fun hstop hstanding => ?_, hopens⟩
  · obtain ⟨hstate, hafter, hloading, hwaits⟩ := hstops hstop
    exact ⟨hstate, hafter, hloading, State.feedStopWaits_congr hstations hwaits⟩
  · obtain ⟨hstate, hloading, hlatched, hwaits⟩ := hheld hstop hstanding
    exact ⟨hstate, hloading, hlatched, State.feedStopWaits_congr hstations hwaits⟩

theorem enterStopped_eq (p : PickerId) (s : State) : ∃ g, enterStopped p s =
    (s.onPicker p fun r => { r with state := .stopped, retryFrom := none, woken := false }).onLine g :=
  feedStop_eq_onLine p _

/-- An attempt keeps the clearance fields of its picker. -/
theorem Attempted.keeps_clearance {lot : Nat} {usable : Bool} {r t : Picker} (h : Attempted lot usable r t) :
    t.clearanceStart = r.clearanceStart ∧ t.quietStart = r.quietStart := by
  cases h <;> exact ⟨rfl, rfl⟩

theorem openOwn_keeps_clearance (s : State) (p : PickerId) :
    ((openOwn p s).picker p).clearanceStart = (s.picker p).clearanceStart ∧
      ((openOwn p s).picker p).quietStart = (s.picker p).quietStart := by
  cases hlot : (s.picker p).currentLot with
  | none => rw [openOwn_of_none hlot]; exact ⟨rfl, rfl⟩
  | some lot => exact (tryOpen_attempted .own hlot).keeps_clearance

/-- R45: the end of a clearance whose loading charge, if any, is in use. -/
theorem endClearance_ends {s : State} {p : PickerId} (h : s.loadingCharge p ≠ none ∨ (s.picker p).loading = none) :
    s.clearanceEnded (endClearance p s) p := by
  have hcleared := picker_finishClearance h
  have hstations := finishClearance_stations p s
  have hcurrent := (s.picker p).cleared_currentLot
  unfold endClearance afterClearance
  rw [hcleared]
  split
  · rename_i hstop
    replace hstop : (s.picker p).stopAfter = true := hstop
    have hpicker : (enterStopped p ((finishClearance p s).onPicker p fun r => { r with stopAfter := false })).picker p =
        { (s.picker p).cleared with stopAfter := false, state := .stopped, retryFrom := none, woken := false } := by
      obtain ⟨g, hg⟩ := enterStopped_eq p ((finishClearance p s).onPicker p fun r => { r with stopAfter := false })
      rw [hg, State.onLine_picker_keep, State.picker_onPicker_same, State.picker_onPicker_same, hcleared]
    unfold State.clearanceEnded
    rw [hpicker]
    refine ⟨rfl, rfl, rfl, hcurrent, fun _ => ⟨rfl, rfl, rfl, ?_⟩, fun hrun => ?_, fun hrun => ?_⟩
    · exact State.feedStopWaits_congr hstations (feedStopWaits_feedStop p (((finishClearance p s).onPicker p fun r =>
        { r with stopAfter := false }).onPicker p fun r => { r with state := .stopped, retryFrom := none, woken := false }))
    · simp [hstop] at hrun
    · simp [hstop] at hrun
  · rename_i hstop
    replace hstop : ¬(s.picker p).stopAfter = true := hstop
    split
    · rename_i hstanding
      replace hstanding : (s.picker p).reasons.standing = true := hstanding
      obtain ⟨hwaits, hlatched⟩ := enterHeld_waits p (finishClearance p s)
      unfold State.clearanceEnded
      rw [picker_enterHeld_same, hcleared]
      refine ⟨rfl, rfl, rfl, hcurrent, fun h => absurd h hstop,
        fun _ _ => ⟨rfl, rfl, hlatched, State.feedStopWaits_congr hstations hwaits⟩, fun _ h => ?_⟩
      simp [hstanding] at h
    · rename_i hstanding
      replace hstanding : ¬(s.picker p).reasons.standing = true := hstanding
      obtain ⟨hlot, hpending, _⟩ := openOwn_keeps (finishClearance p s) p
      obtain ⟨hclearance, hquiet⟩ := openOwn_keeps_clearance (finishClearance p s) p
      rw [hcleared] at hlot hpending hclearance hquiet
      refine ⟨hclearance, hquiet, hpending, hlot.trans hcurrent, fun h => absurd h hstop, fun _ h => absurd h hstanding,
        fun _ _ hnamed => ?_⟩
      obtain ⟨lot, hlot⟩ : ∃ lot, ((finishClearance p s).picker p).currentLot = some lot := by
        rw [hcleared, hcurrent, ← Option.ne_none_iff_exists']
        split
        · rename_i hnone
          exact hnamed.resolve_left (absurd hnone)
        · assumption
      exact (tryOpen_attempted .own hlot).state.imp_right And.left

/-- R45, R53: the loading charge closed at the end of a clearance leaves its ticket. -/
theorem endClearance_issued {s : State} {p : PickerId} {n : Nat} {c : Charge} (hcharge : s.loadingCharge p = some (n, c))
    (h : s.store.nextSerial ≠ none) :
    s.issued (endClearance p s) c.lot (s.growerOf c.lot) (chargeBody n c .lotChange) := by
  refine State.issued_mono (closeCore_issued p n c .lotChange h) fun k hk => ?_
  have hclosed := mem_tickets_closed k
  unfold endClearance finishClearance closeToReady
  rw [hcharge]
  exact afterClearance_closed hclosed p (beltPollTimer_closed hclosed p false
    (hclosed.picker p _ (fun _ => rfl) (leaveLoading_closed hclosed c.kiln hk)))

/-! ### The limit (R44) -/

/-- R44: the state a limited end closes: its loading charge flagged, and ClearanceTimeout latched. -/
def State.limited (s : State) (p : PickerId) : State :=
  latch (srcClearanceTimeout p) (match (s.picker p).loading with
    | some n => s.onCharge n fun r => { r with timedOut := true }
    | none => s)

theorem limitClearance_eq (p : PickerId) (s : State) : limitClearance p s = endClearance p (s.limited p) := rfl

theorem State.limited_eq (s : State) (p : PickerId) :
    ∃ f g, s.limited p = (s.onPool f).onNotice g ∧
      ∀ n, (s.picker p).loading = some n →
        (s.limited p).charge n = (s.charge n).map fun r => { r with timedOut := true } := by
  unfold State.limited
  cases hloading : (s.picker p).loading with
  | none =>
    obtain ⟨g, hg⟩ := latch_eq_onNotice (srcClearanceTimeout p) s
    exact ⟨id, g, hg, fun n h => by simp at h⟩
  | some n =>
    obtain ⟨l, hl⟩ := State.onCharge_eq_onPool s n fun r => { r with timedOut := true }
    obtain ⟨g, hg⟩ := latch_eq_onNotice (srcClearanceTimeout p) (s.onCharge n fun r => { r with timedOut := true })
    have hcharge := s.charge_onCharge_same n fun r => { r with timedOut := true }
    refine ⟨_, g, hg.trans (by rw [hl]), fun m hm => ?_⟩
    obtain rfl : n = m := Option.some.inj hm
    dsimp only
    rw [hg]
    exact hcharge

theorem State.limited_picker (s : State) (p : PickerId) : (s.limited p).picker p = s.picker p := by
  obtain ⟨f, g, h, _⟩ := s.limited_eq p
  rw [h, State.onNotice_picker_keep, State.onPool_picker_keep]

theorem State.limited_loadingCharge (s : State) (p : PickerId) : (s.limited p).loadingCharge p =
    (s.loadingCharge p).map fun e => (e.1, { e.2 with timedOut := true }) := by
  obtain ⟨f, g, _, hcharge⟩ := s.limited_eq p
  unfold State.loadingCharge
  rw [s.limited_picker p]
  cases hloading : (s.picker p).loading with
  | none => rfl
  | some n =>
    rw [Option.bind_some, Option.bind_some, hcharge n hloading]
    cases s.charge n <;> rfl

theorem State.limited_growerOf (s : State) (p : PickerId) (lot : Nat) : (s.limited p).growerOf lot = s.growerOf lot := by
  obtain ⟨f, g, h, _⟩ := s.limited_eq p
  rw [h]
  rfl

theorem State.limited_frame (s : State) (p : PickerId) : (s.limited p).chan = s.chan ∧ (s.limited p).store = s.store ∧
    (s.limited p).clock = s.clock := by
  obtain ⟨f, g, h, _⟩ := s.limited_eq p
  rw [h]
  exact ⟨rfl, rfl, rfl⟩

theorem limitClearance_ends {s : State} {p : PickerId} (h : s.loadingCharge p ≠ none ∨ (s.picker p).loading = none) :
    s.clearanceEnded (limitClearance p s) p ∧ (limitClearance p s).latchedNow (srcClearanceTimeout p) := by
  obtain ⟨hchan, _, _⟩ := s.limited_frame p
  rw [limitClearance_eq]
  refine ⟨State.clearanceEnded_congr (s.limited_picker p) (by rw [hchan]) (endClearance_ends ?_), ?_⟩
  · rw [s.limited_loadingCharge, s.limited_picker]
    simpa using h
  · exact endClearance_closed (latchedNow_closed _) p (latchedNow_latch _ _ (by cases p <;> decide))

/-- R44: the ticket of a limited end carries the ClearanceTimeout flag. -/
theorem limitClearance_issued {s : State} {p : PickerId} {n : Nat} {c : Charge} (hcharge : s.loadingCharge p = some (n, c))
    (h : s.store.nextSerial ≠ none) : s.issued (limitClearance p s) c.lot (s.growerOf c.lot)
      (.charge n c.picker c.kiln c.green .lotChange c.substituted true) := by
  obtain ⟨_, hstore, hclock⟩ := s.limited_frame p
  have hissued := endClearance_issued (s := s.limited p) (p := p) (n := n) (c := { c with timedOut := true })
    (by rw [s.limited_loadingCharge, hcharge]; rfl) (by rw [hstore]; exact h)
  rw [s.limited_growerOf] at hissued
  rw [limitClearance_eq]
  exact State.issued_congr (by rw [hstore]) hclock.symm hissued

/-! ### The clearance's events -/

section
variable {s : State} {p : PickerId} {a quiet limit : Nat} (hstate : (s.picker p).state = .clearing)
  (hforce : (s.picker p).inForce = some (quiet, limit))
include hstate hforce

theorem exec_clearanceQuietEnd_eq (hquiet : (s.picker p).quietStart = some a) :
    exec (.clearanceQuietEnd p) s = .next (if a + quiet ≤ s.now then endClearance p s else s) := by
  change execClearanceQuietEnd p s = _
  unfold execClearanceQuietEnd
  simp only [hquiet, hforce, hstate, true_and]

theorem exec_clearanceLimit_eq (hstart : (s.picker p).clearanceStart = some a) :
    exec (.clearanceLimit p) s = .next (if a + limit ≤ s.now then limitClearance p s else s) := by
  change execClearanceLimit p s = _
  unfold execClearanceLimit
  simp only [hstart, hforce, hstate, true_and]

end

/-- Settles O36: both ends are `endClearance_ends` with its ticket (`endClearance_issued`); the limit flags the charge first. -/
theorem clearanceEnds : Obligations.ClearanceEnds := by
  unfold Obligations.ClearanceEnds
  intro s p a b quiet limit hstate hquiet hstart hforce
  dsimp only
  rw [exec_clearanceQuietEnd_eq hstate hforce hquiet, exec_clearanceLimit_eq hstate hforce hstart]
  refine ⟨fun h => ?quietRuns, fun h hloading => ?quietEnds, fun h => ?limitRuns, fun h hloading => ?limitEnds⟩
  case quietRuns => rw [if_neg (by omega)]
  case quietEnds =>
    rw [if_pos h]
    refine ⟨_, rfl, endClearance_ends hloading, fun n c hcharge hserial => ?_⟩
    rw [Bool.or_false]
    exact endClearance_issued hcharge hserial
  case limitRuns => rw [if_neg (by omega)]
  case limitEnds =>
    rw [if_pos h]
    obtain ⟨hends, hlatched⟩ := limitClearance_ends hloading
    refine ⟨_, rfl, hends, fun n c hcharge hserial => ?_, hlatched⟩
    rw [Bool.or_true]
    exact limitClearance_issued hcharge hserial

end Sys2Proof.Machine
end

section
namespace Sys2Proof.Machine

/-! ### Fields read back -/

/-- An unsigned field is read back at the offset where it stands. -/
theorem natAt_of_append {n v offset : Nat} (front rest : List Byte) (hfront : front.length = offset) (h : v < 256 ^ n) :
    natAt (front ++ (fieldNat n v ++ rest)) offset n = v := by
  have hskip := natAt_skip front (fieldNat n v ++ rest) 0 n
  rw [Nat.add_zero, hfront] at hskip
  rw [hskip, natAt_zero rest h]

/-- A signed field is read back at the offset where it stands. -/
theorem intAt_of_append {n offset : Nat} {v : Int} (front rest : List Byte) (hfront : front.length = offset) (hn : 0 < n)
    (low : -((2 ^ (8 * n - 1) : Nat) : Int) ≤ v) (high : v < (2 ^ (8 * n - 1) : Nat)) :
    intAt (front ++ (fieldInt n v ++ rest)) offset n = v := by
  have hskip := intAt_skip front (fieldInt n v ++ rest) 0 n
  rw [Nat.add_zero, hfront] at hskip
  rw [hskip, intAt_zero rest hn low high]

/-! ### A descriptor segment (R18) -/

section
variable (channel window poll mask kind : Nat) (low high : Int)

/-- The segment that spells a descriptor. -/
def descriptorSegment : List Byte :=
  fieldNat 1 channel ++ fieldInt 4 low ++ fieldInt 4 high ++ fieldNat 2 window ++ fieldNat 2 poll ++ fieldNat 1 mask ++
    fieldNat 1 kind

theorem descriptorSegment_length : (descriptorSegment channel window poll mask kind low high).length = 15 := by
  simp [descriptorSegment]

variable {channel window poll mask kind low high}

theorem natAt_descriptorSegment (hchannel : channel < 256) (hwindow : window < 65536) (hpoll : poll < 65536)
    (hmask : mask < 256) (hkind : kind < 256) :
    let bs := descriptorSegment channel window poll mask kind low high
    natAt bs 0 1 = channel ∧ natAt bs 9 2 = window ∧ natAt bs 11 2 = poll ∧ natAt bs 13 1 = mask ∧ natAt bs 14 1 = kind := by
  have channelAt := natAt_of_append (n := 1) (offset := 0) [] (fieldInt 4 low ++ fieldInt 4 high ++ fieldNat 2 window ++ fieldNat 2 poll ++
    fieldNat 1 mask ++ fieldNat 1 kind) rfl hchannel
  have windowAt := natAt_of_append (n := 2) (offset := 9) (fieldNat 1 channel ++ fieldInt 4 low ++ fieldInt 4 high)
    (fieldNat 2 poll ++ fieldNat 1 mask ++ fieldNat 1 kind) (by simp) hwindow
  have pollAt := natAt_of_append (n := 2) (offset := 11) (fieldNat 1 channel ++ fieldInt 4 low ++ fieldInt 4 high ++ fieldNat 2 window)
    (fieldNat 1 mask ++ fieldNat 1 kind) (by simp) hpoll
  have maskAt := natAt_of_append (n := 1) (offset := 13)
    (fieldNat 1 channel ++ fieldInt 4 low ++ fieldInt 4 high ++ fieldNat 2 window ++ fieldNat 2 poll) (fieldNat 1 kind)
    (by simp) hmask
  have kindAt := natAt_of_append (n := 1) (offset := 14)
    (fieldNat 1 channel ++ fieldInt 4 low ++ fieldInt 4 high ++ fieldNat 2 window ++ fieldNat 2 poll ++ fieldNat 1 mask) []
    (by simp) hkind
  simp only [List.append_assoc, List.nil_append, List.append_nil] at channelAt windowAt pollAt maskAt kindAt
  simp only [descriptorSegment, List.append_assoc]
  exact ⟨channelAt, windowAt, pollAt, maskAt, kindAt⟩

theorem intAt_descriptorSegment (hlow : -2147483648 ≤ low) (hlow' : low < 2147483648) (hhigh : -2147483648 ≤ high)
    (hhigh' : high < 2147483648) :
    let bs := descriptorSegment channel window poll mask kind low high
    intAt bs 1 4 = low ∧ intAt bs 5 4 = high := by
  have lowAt := intAt_of_append (n := 4) (offset := 1) (fieldNat 1 channel) (fieldInt 4 high ++ fieldNat 2 window ++ fieldNat 2 poll ++
    fieldNat 1 mask ++ fieldNat 1 kind) (by simp) (by decide) hlow hlow'
  have highAt := intAt_of_append (n := 4) (offset := 5) (fieldNat 1 channel ++ fieldInt 4 low) (fieldNat 2 window ++ fieldNat 2 poll ++
    fieldNat 1 mask ++ fieldNat 1 kind) (by simp) (by decide) hhigh hhigh'
  simp only [List.append_assoc] at lowAt highAt
  simp only [descriptorSegment, List.append_assoc]
  exact ⟨lowAt, highAt⟩

/-- R18: which segment is a descriptor, and which descriptor it is. -/
theorem parseDescriptor_segment (hchannel : channel < 256) (hwindow : window < 65536) (hpoll : poll < 65536)
    (hmask : mask < 256) (hkind : kind < 256) (hlow : -2147483648 ≤ low) (hlow' : low < 2147483648)
    (hhigh : -2147483648 ≤ high) (hhigh' : high < 2147483648) :
    parseDescriptor (descriptorSegment channel window poll mask kind low high) =
      if channel ≤ 3 ∧ low ≤ high ∧ 1 ≤ window ∧ window ≤ 255 ∧ poll ≤ 255 ∧ mask ≤ 15 ∧ (kind = 1 ∨ kind = 2) then
        some { channel := channel, rangeLow := low, rangeHigh := high, window := window, pollInterval := poll,
               mask := { low := mask.testBit 0, high := mask.testBit 1, fault := mask.testBit 2, stale := mask.testBit 3 },
               kind := if kind = 1 then .level else .runningTotal }
      else none := by
  obtain ⟨channelAt, windowAt, pollAt, maskAt, kindAt⟩ :=
    natAt_descriptorSegment (low := low) (high := high) hchannel hwindow hpoll hmask hkind
  obtain ⟨lowAt, highAt⟩ := intAt_descriptorSegment (channel := channel) (window := window) (poll := poll) (mask := mask)
    (kind := kind) hlow hlow' hhigh hhigh'
  have hlength := descriptorSegment_length channel window poll mask kind low high
  generalize descriptorSegment channel window poll mask kind low high = bs at *
  unfold parseDescriptor
  dsimp only
  rw [channelAt, windowAt, pollAt, maskAt, kindAt, lowAt, highAt, hlength]
  refine if_congr ?_ rfl rfl
  simp only [isChannel, within, isChoice, Bool.and_eq_true, decide_eq_true_eq, beq_self_eq_true, and_true]
  omega

end

/-! ### A Station entry's segments (R162, R18, R19) -/

theorem roleOf_eq_some_iff {n : Nat} {r : Role} : roleOf n = some r ↔ n = roleCode r := by
  refine ⟨fun h => ?_, fun h => ?_⟩
  · have hfound := List.find?_some (p := fun r => roleCode r == n) h
    exact (beq_iff_eq.mp hfound).symm
  · rw [h]
    cases r <;> rfl

/-- The table of the role codes, as the statement lists it. -/
theorem roleCode_table (n : Nat) (r : Role) :
    (n, r) ∈ [(1, Role.beltScale), (2, .wagonReader), (3, .feedDrive), (4, .distributor), (5, .burner), (6, .fan),
      (7, .airTemp), (8, .floorMoisture), (9, .dropScale), (10, .dropGate), (11, .pileFeed), (12, .pressHydraulics),
      (13, .fillScale), (14, .baleScale), (15, .baleMoisture), (16, .other)] ↔ n = roleCode r := by
  cases r <;> simp [roleCode]

/-- R162: the unit a unit number names in a role. -/
theorem unitOf_eq_some_iff (r : Role) (n : Nat) (u : Option UnitId) : unitOf r n = some u ↔
    ((roleCode r ≤ 4 ∧ ∃ p, pickerOf n = some p ∧ u = some (.picker p)) ∨
      (5 ≤ roleCode r ∧ roleCode r ≤ 10 ∧ ∃ k, kilnOf n = some k ∧ u = some (.kiln k)) ∨
      (11 ≤ roleCode r ∧ roleCode r ≤ 15 ∧ ∃ b, pressOf n = some b ∧ u = some (.press b)) ∨
      (roleCode r = 16 ∧ n = 0 ∧ u = none)) := by
  cases r <;> simp [unitOf, roleCode, eq_comm]

theorem mapM_eq_some_iff {α β : Type} {f : α → Option β} {l : List α} {ys : List β} :
    l.mapM f = some ys ↔ l.map f = ys.map some := by
  induction l generalizing ys with
  | nil => cases ys <;> simp
  | cons a l ih =>
    rw [List.mapM_cons, List.map_cons]
    cases ys with
    | nil => simp [Option.bind_eq_some_iff]
    | cons y ys => simp [← ih, Option.bind_eq_some_iff, and_comm]

theorem channelsDistinct_iff (l : List Descriptor) : channelsDistinct l = true ↔ (l.map Descriptor.channel).Nodup := by
  induction l with
  | nil => simp [channelsDistinct]
  | cons d l ih => simp [channelsDistinct, ih]

/-- R19: the kinds of the consumed channels. -/
theorem kindsOk_iff (r : Role) (l : List Descriptor) : kindsOk r l = true ↔ ∀ d ∈ l, d.channel = 0 →
    (r ∈ [Role.beltScale, .dropScale, .fillScale] → d.kind = .runningTotal) ∧
    (r ∈ [Role.wagonReader, .airTemp, .floorMoisture, .dropGate, .pressHydraulics, .baleScale, .baleMoisture] →
      d.kind = .level) := by
  cases r <;> simp [kindsOk, consumedKind, imp_iff_not_or]

/-! ### The order of the descriptors (R18) -/

theorem insertDescriptor_perm (d : Descriptor) (l : List Descriptor) : (insertDescriptor d l).Perm (d :: l) := by
  induction l with
  | nil => exact .refl _
  | cons e l ih =>
    unfold insertDescriptor
    split
    · exact .refl _
    · exact (ih.cons e).trans (.swap d e l)

theorem sortDescriptors_perm (l : List Descriptor) : (sortDescriptors l).Perm l := by
  induction l with
  | nil => exact .refl _
  | cons d l ih => exact (insertDescriptor_perm d (sortDescriptors l)).trans (ih.cons d)

/-- Descriptors in channel-number order, no channel twice. -/
def channelsRise (l : List Descriptor) : Prop := l.Pairwise fun a b => a.channel < b.channel

theorem insertDescriptor_rises {d : Descriptor} {l : List Descriptor} (hl : channelsRise l)
    (hd : ∀ e ∈ l, e.channel ≠ d.channel) : channelsRise (insertDescriptor d l) := by
  induction l with
  | nil => exact List.pairwise_singleton _ _
  | cons e l ih =>
    obtain ⟨habove, hrest⟩ := List.pairwise_cons.mp hl
    have hne := hd e (List.mem_cons_self ..)
    unfold insertDescriptor
    split
    · rename_i hlt
      refine List.pairwise_cons.mpr ⟨fun x hx => ?_, hl⟩
      rcases List.mem_cons.mp hx with rfl | hx
      · exact hlt
      · exact lt_trans hlt (habove x hx)
    · refine List.pairwise_cons.mpr ⟨fun x hx => ?_, ih hrest fun x hx => hd x (List.mem_cons_of_mem _ hx)⟩
      rcases List.mem_cons.mp ((insertDescriptor_perm d l).mem_iff.mp hx) with rfl | hx
      · omega
      · exact habove x hx

theorem sortDescriptors_rises {l : List Descriptor} (h : (l.map Descriptor.channel).Nodup) : channelsRise (sortDescriptors l) := by
  induction l with
  | nil => exact List.Pairwise.nil
  | cons d l ih =>
    rw [List.map_cons, List.nodup_cons] at h
    refine insertDescriptor_rises (ih h.2) fun e he heq => h.1 ?_
    exact List.mem_map.mpr ⟨e, (sortDescriptors_perm l).mem_iff.mp he, heq⟩

/-- R18: the descriptors of an entry are those of its segments, in channel-number order. -/
theorem eq_sortDescriptors_iff {l ds : List Descriptor} (h : (ds.map Descriptor.channel).Nodup) :
    l = sortDescriptors ds ↔ l.Perm ds ∧ (l.map Descriptor.channel).Pairwise (· < ·) := by
  rw [List.pairwise_map]
  refine ⟨?_, fun ⟨hperm, hrises⟩ => ?_⟩
  · rintro rfl
    exact ⟨sortDescriptors_perm ds, sortDescriptors_rises h⟩
  · exact List.Perm.eq_of_pairwise (fun _ _ _ _ hab hba => absurd hab (by omega)) hrises (sortDescriptors_rises h)
      (hperm.trans (sortDescriptors_perm ds).symm)

/-- R162: an entry is the one its segments spell, where they pass the checks. -/
theorem parseStation_eq_some_iff (head : List Byte) (segments : List (List Byte)) (e : StationEntry) :
    parseStation head segments = some e ↔
      roleOf (natAt head 1 1) = some e.role ∧ unitOf e.role (natAt head 2 1) = some e.unit ∧ natAt head 0 1 ≤ 1 ∧
        head.length = 3 ∧ e.present = decide (natAt head 0 1 = 1) ∧
        ∃ ds, segments.map parseDescriptor = ds.map some ∧ (ds.map Descriptor.channel).Nodup ∧ kindsOk e.role ds = true ∧
          e.descriptors = sortDescriptors ds := by
  obtain ⟨present, role, unit, descriptors⟩ := e
  simp only [← mapM_eq_some_iff, ← channelsDistinct_iff]
  unfold parseStation
  cases roleOf (natAt head 1 1) with
  | none => simp
  | some r =>
    cases segments.mapM parseDescriptor with
    | none => simp
    | some ds =>
      dsimp only
      by_cases hrole : r = role
      · subst hrole
        cases unitOf r (natAt head 2 1) with
        | none => simp
        | some u =>
          dsimp only
          rw [Option.ite_none_right_eq_some]
          simp only [isFlag, Bool.and_eq_true, decide_eq_true_eq, beq_iff_eq, Option.some.injEq, StationEntry.mk.injEq,
            true_and, exists_eq_left']
          rw [show (natAt head 0 1 == 1) = decide (natAt head 0 1 = 1) from rfl, eq_comm (a := present),
            eq_comm (a := descriptors)]
          tauto
      · cases unitOf r (natAt head 2 1) with
        | none => simp [hrole]
        | some u => simp [hrole]

theorem natAt_stationHead {present role unit : Nat} (hpresent : present < 256) (hrole : role < 256) (hunit : unit < 256) :
    natAt (fieldNat 1 present ++ fieldNat 1 role ++ fieldNat 1 unit) 0 1 = present ∧
      natAt (fieldNat 1 present ++ fieldNat 1 role ++ fieldNat 1 unit) 1 1 = role ∧
      natAt (fieldNat 1 present ++ fieldNat 1 role ++ fieldNat 1 unit) 2 1 = unit := by
  have presentAt := natAt_of_append (n := 1) (offset := 0) [] (fieldNat 1 role ++ fieldNat 1 unit) rfl hpresent
  have roleAt := natAt_of_append (n := 1) (offset := 1) (fieldNat 1 present) (fieldNat 1 unit) (by simp) hrole
  have unitAt := natAt_of_append (n := 1) (offset := 2) (fieldNat 1 present ++ fieldNat 1 role) [] (by simp) hunit
  simp only [List.append_assoc, List.nil_append, List.append_nil] at presentAt roleAt unitAt ⊢
  exact ⟨presentAt, roleAt, unitAt⟩

/-- R162, R18, R19: which head and segments are a Station entry, and which entry they are. -/
theorem parseStation_fields {present role unit : Nat} (segments : List (List Byte)) (e : StationEntry) (hpresent : present < 256)
    (hrole : role < 256) (hunit : unit < 256) :
    parseStation (fieldNat 1 present ++ fieldNat 1 role ++ fieldNat 1 unit) segments = some e ↔
      role = roleCode e.role ∧ unitOf e.role unit = some e.unit ∧ present ≤ 1 ∧ e.present = decide (present = 1) ∧
        ∃ ds, segments.map parseDescriptor = ds.map some ∧ (ds.map Descriptor.channel).Nodup ∧ kindsOk e.role ds = true ∧
          e.descriptors = sortDescriptors ds := by
  obtain ⟨presentAt, roleAt, unitAt⟩ := natAt_stationHead hpresent hrole hunit
  rw [parseStation_eq_some_iff, presentAt, roleAt, unitAt, roleOf_eq_some_iff]
  simp

/-- R162, R18, R19: the checks of an entry, as the statement lists them. -/
theorem parseStation_checks {present role unit : Nat} (segments : List (List Byte)) (e : StationEntry) (hpresent : present < 256)
    (hrole : role < 256) (hunit : unit < 256) :
    parseStation (fieldNat 1 present ++ fieldNat 1 role ++ fieldNat 1 unit) segments = some e ↔
      present ≤ 1 ∧ e.present = decide (present = 1) ∧
      (role, e.role) ∈ [(1, Role.beltScale), (2, .wagonReader), (3, .feedDrive), (4, .distributor), (5, .burner), (6, .fan),
        (7, .airTemp), (8, .floorMoisture), (9, .dropScale), (10, .dropGate), (11, .pileFeed), (12, .pressHydraulics),
        (13, .fillScale), (14, .baleScale), (15, .baleMoisture), (16, .other)] ∧
      ((role ≤ 4 ∧ ∃ p, pickerOf unit = some p ∧ e.unit = some (.picker p)) ∨
        (5 ≤ role ∧ role ≤ 10 ∧ ∃ k, kilnOf unit = some k ∧ e.unit = some (.kiln k)) ∨
        (11 ≤ role ∧ role ≤ 15 ∧ ∃ b, pressOf unit = some b ∧ e.unit = some (.press b)) ∨
        (role = 16 ∧ unit = 0 ∧ e.unit = none)) ∧
      ∃ ds, segments.map parseDescriptor = ds.map some ∧ (ds.map Descriptor.channel).Nodup ∧
        (∀ d ∈ ds, d.channel = 0 →
          (e.role ∈ [Role.beltScale, .dropScale, .fillScale] → d.kind = .runningTotal) ∧
          (e.role ∈ [Role.wagonReader, .airTemp, .floorMoisture, .dropGate, .pressHydraulics, .baleScale, .baleMoisture] →
            d.kind = .level)) ∧
        e.descriptors.Perm ds ∧ (e.descriptors.map Descriptor.channel).Pairwise (· < ·) := by
  have hdescriptors (ds : List Descriptor) : (segments.map parseDescriptor = ds.map some ∧ (ds.map Descriptor.channel).Nodup ∧
      kindsOk e.role ds = true ∧ e.descriptors = sortDescriptors ds) ↔
      (segments.map parseDescriptor = ds.map some ∧ (ds.map Descriptor.channel).Nodup ∧ kindsOk e.role ds = true ∧
        e.descriptors.Perm ds ∧ (e.descriptors.map Descriptor.channel).Pairwise (· < ·)) :=
    and_congr_right fun _ => and_congr_right fun hnodup => and_congr_right fun _ => eq_sortDescriptors_iff hnodup
  rw [parseStation_fields segments e hpresent hrole hunit, roleCode_table, unitOf_eq_some_iff]
  simp only [hdescriptors]
  simp only [kindsOk_iff]
  constructor
  · rintro ⟨rfl, hunitOf, hflag, hpresentIs, hds⟩
    exact ⟨hflag, hpresentIs, rfl, hunitOf, hds⟩
  · rintro ⟨hflag, hpresentIs, rfl, hunitOf, hds⟩
    exact ⟨rfl, hunitOf, hflag, hpresentIs, hds⟩

end Sys2Proof.Machine
end

section
namespace Sys2Proof.Machine

/-! ### The lock on a Station entry, and a second binding (R162) -/

/-- R162: a unit at rest: a picker Stopped, a kiln in Awaiting or Idle, a press Idle. -/
theorem atRest_iff (s : State) (u : UnitId) : s.atRest u = true ↔
    ((∃ p, u = .picker p ∧ (s.picker p).state = .stopped) ∨
      (∃ k, u = .kiln k ∧ ((s.kiln k).state = .awaiting ∨ (s.kiln k).state = .idle)) ∨
      (∃ b, u = .press b ∧ (s.press b).state = .idle)) := by
  cases u <;> simp [State.atRest]

theorem isDropping_iff (s : State) (u : UnitId) :
    s.isDropping u = true ↔ ∃ k, u = .kiln k ∧ (s.kiln k).state = .dropping := by
  cases u <;> simp [State.isDropping]

/-- R162: an entry bound to a unit is locked where it would be rebound and the unit is not at rest, or the unit is a kiln in
Dropping. -/
theorem stationLocked_iff (s : State) (i : Nat) (e : StationEntry) : s.stationLocked i e = true ↔
    (s.station i).present = true ∧ ∃ u, (s.station i).unit = some u ∧
      ((¬s.atRest u = true ∧ (e.present = false ∨ e.role ≠ (s.station i).role ∨ e.unit ≠ some u)) ∨ s.isDropping u = true) := by
  unfold State.stationLocked
  dsimp only
  split
  · rename_i u hpresent hunit
    simp only [hpresent, hunit, Bool.or_eq_true, Bool.and_eq_true, Bool.not_eq_true', Bool.and_eq_false_iff, true_and,
      Option.some.injEq, exists_eq_left', beq_eq_false_iff_ne, ne_eq, Bool.not_eq_true, or_assoc]
  · rename_i hother
    refine ⟨fun h => by simp at h, ?_⟩
    rintro ⟨hpresent, u, hunit, _⟩
    exact absurd hunit (hother u hpresent)

section
variable {α : Type} {t : List (Nat × α)}

/-- The records listed in a table whose keys rise are those read under their keys. -/
theorem mem_iff_tableGet (ht : tableWf t = true) (n : Nat) (a : α) : (n, a) ∈ t ↔ tableGet t n = some a := by
  induction t with
  | nil => simp
  | cons e t ih =>
    obtain ⟨k, v⟩ := e
    obtain ⟨habove, hwf⟩ := tableWf_cons.mp ht
    rw [tableGet_cons, List.mem_cons, Prod.mk.injEq, ih hwf]
    split
    · rename_i hk
      subst hk
      rw [tableGet_eq_none_of_keysAbove habove le_rfl]
      simp [eq_comm]
    · rename_i hk
      simp [Ne.symm hk]

end

/-- A Present station is one the table lists. -/
theorem station_of_present {s : State} (ht : tableWf s.chan.stations = true) (j : Nat) :
    (s.station j).present = true ↔ ∃ o, (j, o) ∈ s.chan.stations ∧ s.station j = o ∧ o.present = true := by
  simp only [mem_iff_tableGet ht]
  unfold State.station
  cases tableGet s.chan.stations j with
  | none => simp [StationEntry.reset]
  | some o => simp

/-- R162: an entry binds twice where another Present station has its role and its unit. -/
theorem bindsTwice_iff {s : State} (hs : s.tablesOk) (i : Nat) (e : StationEntry) : s.bindsTwice i e = true ↔
    e.present = true ∧ ∃ u j, e.unit = some u ∧ j ≠ i ∧ (s.station j).present = true ∧ (s.station j).role = e.role ∧
      (s.station j).unit = some u := by
  obtain ⟨_, _, _, ⟨hwf, _⟩, _⟩ := hs
  simp only [State.bindsTwice, Bool.and_eq_true, List.any_eq_true, bne_iff_ne, beq_iff_eq, Option.isSome_iff_exists]
  constructor
  · rintro ⟨⟨hpresent, u, hu⟩, ⟨j, o⟩, hmem, ⟨⟨hj, ho⟩, hrole⟩, hunit⟩
    have hstation : s.station j = o := by rw [State.station, (mem_iff_tableGet hwf j o).mp hmem]; rfl
    rw [← hstation] at ho hrole hunit
    exact ⟨hpresent, u, j, hu, hj, ho, hrole, hunit.trans hu⟩
  · rintro ⟨hpresent, u, j, hu, hj, ho, hrole, hunit⟩
    obtain ⟨o, hmem, hstation, ho'⟩ := (station_of_present hwf j).mp ho
    rw [hstation] at hrole hunit
    exact ⟨⟨hpresent, u, hu⟩, (j, o), hmem, ⟨⟨hj, ho'⟩, hrole⟩, hunit.trans hu.symm⟩

end Sys2Proof.Machine
end

section
namespace Sys2Proof.Machine

/-! ### A channel's record at a commit (R33) -/

/-- R22, R33: the record of a channel after a commit: a new one where the channel is described, none otherwise. -/
def Recommitted (described : Bool) (o : Option Sample) : Prop :=
  (described = true → ∃ due, o = some { Sample.fresh with pollDue := due }) ∧ (described = false → o = none)

/-- A commit changes one sample record of a channel and nothing else. -/
theorem recommitChannel_eq (station channel : Nat) (described : Bool) (s : State) :
    ∃ l, recommitChannel station channel described s = s.onChan (fun c => { c with samples := l }) ∧
      Recommitted described (tableGet l (sampleKey station channel)) ∧
      ∀ key, sampleKey station channel ≠ key → tableGet l key = tableGet s.chan.samples key := by
  unfold recommitChannel
  cases described with
  | true =>
    rw [if_pos rfl, restartPollTimer_eq (State.sample_putSample_same s station channel .fresh)]
    refine ⟨_, rfl, ⟨fun _ => ⟨_, tableGet_tablePut_self _ _ _⟩, fun h => by simp at h⟩, fun key hkey => ?_⟩
    rw [tableGet_tablePut_of_ne _ _ hkey]
    exact tableGet_tablePut_of_ne _ _ hkey
  | false =>
    rw [if_neg (by simp)]
    exact ⟨_, rfl, ⟨fun h => by simp at h, fun _ => tableGet_tableErase_self _ _⟩,
      fun key hkey => tableGet_tableErase_of_ne _ hkey⟩

/-- R33: every channel of a list is recommitted, and no other record is changed. -/
theorem foldl_recommitChannel (station : Nat) (described : Nat → Bool) (l : List Nat) (s : State) :
    ∃ samples, l.foldl (fun s ch => recommitChannel station ch (described ch) s) s =
        s.onChan (fun c => { c with samples := samples }) ∧
      (∀ ch ∈ l, Recommitted (described ch) (tableGet samples (sampleKey station ch))) ∧
      ∀ ch, ch ∉ l → tableGet samples (sampleKey station ch) = tableGet s.chan.samples (sampleKey station ch) := by
  induction l generalizing s with
  | nil => exact ⟨s.chan.samples, rfl, fun _ h => by simp at h, fun _ _ => rfl⟩
  | cons a l ih =>
    obtain ⟨first, hfirst, hsame, hothers⟩ := recommitChannel_eq station a (described a) s
    obtain ⟨samples, hrest, hlisted, hunlisted⟩ := ih (recommitChannel station a (described a) s)
    refine ⟨samples, ?_, fun ch hch => ?_, fun ch hch => ?_⟩
    · rw [List.foldl_cons, hrest, hfirst]
      rfl
    · by_cases hmem : ch ∈ l
      · exact hlisted ch hmem
      · obtain rfl : ch = a := (List.mem_cons.mp hch).resolve_right hmem
        rw [hunlisted ch hmem, hfirst]
        exact hsame
    · rw [List.mem_cons, not_or] at hch
      rw [hunlisted ch hch.2, hfirst]
      exact hothers _ (by unfold sampleKey; omega)

theorem contains_channels_iff (e : StationEntry) (ch : Nat) :
    e.channels.contains ch = true ↔ e.present = true ∧ ∃ d ∈ e.descriptors, d.channel = ch := by
  unfold StationEntry.channels
  cases e.present <;> simp

/-! ### A Station entry that takes effect (R162, R33) -/

/-- R33: the entry in its place, and the records of its channels. -/
def State.restationed (s : State) (i : Nat) (e : StationEntry) : State :=
  [0, 1, 2, 3].foldl (fun s ch => recommitChannel i ch (e.channels.contains ch) s)
    (s.onChan fun c => { c with stations := tableSet .reset c.stations i e })

theorem commitStation_eq (i : Nat) (e : StationEntry) (s : State) : commitStation i e s =
    (s.station i).channels.foldl (fun t ch => absentUpdate (s.station i) i ch t) (s.restationed i e) := rfl

/-- R33: the Absent updates of a commit keep what updates that are no Reports keep. -/
theorem commitStation_closed {P : State → Prop} (h : Closed P) (i : Nat) (e : StationEntry) {s : State}
    (hs : P (s.restationed i e)) : P (commitStation i e s) :=
  foldl_closed (P := P) _ (fun _ ch ht => deliver_closed_of_expiry h (s.station i) i ch rfl ht) _ hs

/-- R162, R33: what a commit leaves of the agent, the Own queue up and the channels. -/
theorem commitStation_spec (i : Nat) (e : StationEntry) (s : State) :
    let t := commitStation i e s
    t.agent = s.agent ∧ t.line.ownUp = s.line.ownUp ∧ t.chan.exceptions = s.chan.exceptions ∧ t.station i = e ∧
      (∀ j, j ≠ i → t.station j = s.station j) ∧
      ∀ ch, ch ≤ 3 → Recommitted (e.channels.contains ch) (t.sample i ch) := by
  obtain ⟨samples, hbase, hlisted, _⟩ := foldl_recommitChannel i (fun ch => e.channels.contains ch) [0, 1, 2, 3]
    (s.onChan fun c => { c with stations := tableSet .reset c.stations i e })
  change s.restationed i e = _ at hbase
  have hkeeps := commitStation_closed (keepsMonitor_closed (s.restationed i e)) i e (.refl _)
  have hup := commitStation_closed (lineReading_closed (reading := Line.ownUp) (fun _ _ _ => rfl) (s.restationed i e).line.ownUp)
    i e rfl
  obtain ⟨_, hagent, hstations, hexceptions, _, _⟩ := id hkeeps
  dsimp only
  refine ⟨?agent, ?up, ?exceptions, ?same, fun j hj => ?others, fun ch hch => ?channels⟩
  case agent => rw [hagent, hbase]; rfl
  case up => rw [hup, hbase]; rfl
  case exceptions => rw [hexceptions, hbase]; rfl
  case same =>
    rw [State.station_congr hstations, hbase]
    exact tableGet_tableSet_self _ _ _ _
  case others =>
    rw [State.station_congr hstations, hbase]
    exact congrArg (Option.getD · _) (tableGet_tableSet_of_ne _ _ _ (Ne.symm hj))
  case channels =>
    have hrecommitted : Recommitted (e.channels.contains ch) ((s.restationed i e).sample i ch) := by
      rw [hbase]
      exact hlisted ch (by simp; omega)
    refine ⟨fun hdescribed => ?_, fun hnone => hkeeps.sample_none (hrecommitted.2 hnone)⟩
    obtain ⟨due, hdue⟩ := hrecommitted.1 hdescribed
    obtain ⟨due', hdue'⟩ := hkeeps.sample_some hdue
    exact ⟨due', hdue'⟩

/-! ### Staging (R177, R178) -/

theorem onAgent_closes {s : State} (h : s.agent.staging = none) : (s.onAgent fun a => { a with staging := none }) = s := by
  have hagent : ({ s.agent with staging := none } : Agent) = s.agent := by rw [← h]
  rw [State.onAgent, hagent]

/-- R178: a discard closes the staging, and may latch StagingDiscarded. -/
theorem discardStaging_eq (s : State) : ∃ g, discardStaging s = (s.onAgent fun a => { a with staging := none }).onNotice g := by
  unfold discardStaging
  split
  · exact latch_eq_onNotice _ _
  · rename_i hclosed
    rw [onAgent_closes (by simpa using hclosed)]
    exact ⟨id, rfl⟩

/-- R162: an entry that is neither locked nor binds twice takes effect. -/
theorem writeStation_taken {s : State} {i : Nat} {e : StationEntry} (htwice : s.bindsTwice i e = false)
    (hlocked : s.stationLocked i e = false) : writeStation i (some e) s = .taken (commitStation i e s) := by
  simp [writeStation, htwice, hlocked]

theorem isStation_of_range {i : Nat} (hlow : 2 ≤ i) (hhigh : i ≤ 126) : isStation i = true := by
  simp [isStation, hlow, hhigh]

/-- What stands when a Station entry has taken effect, its write has been counted and its Reply queued. -/
def State.stationCommitted (s t : State) (f : Frame) (i : Nat) (e : StationEntry) : Prop :=
  s.answeredAs t f (.done []) ∧ t.station i = e ∧ t.agent.staging = none ∧
    t.writeCount .station i = (s.writeCount .station i + 1) % 256 ∧ t.chan.exceptions = s.chan.exceptions ∧
    (∀ j, j ≠ i → t.station j = s.station j) ∧
    ∀ ch, ch ≤ 3 →
      (e.present = true → (∃ d ∈ e.descriptors, d.channel = ch) →
        ∃ q, t.sample i ch = some q ∧ q.cls = .absent ∧ q.value = none ∧ q.lastGood = none ∧ q.lastReport = none ∧
          q.baseline = none ∧ q.substituted = false) ∧
      (e.present = false ∨ (∀ d ∈ e.descriptors, d.channel ≠ ch) → t.sample i ch = none)

/-- R176, R178: the state a Station write leaves behind its Reply: the entry taken, the write counted, the staging closed. -/
def State.stationWritten (s : State) (i : Nat) (e : StationEntry) : State :=
  (countWrite .station i (commitStation i e s)).onAgent fun a => { a with staging := none }

theorem stationWritten_ownUp (s : State) (i : Nat) (e : StationEntry) : (s.stationWritten i e).line.ownUp = s.line.ownUp := by
  obtain ⟨_, hup, _⟩ := commitStation_spec i e s
  exact hup

/-- R162, R33, R176, R179: what stands when a Station entry has taken effect, in a state that differs from the one the Request
found in its staging and the Notice Latch alone. -/
theorem stationCommitted_of_written {s s' : State} (f : Frame) (i : Nat) (e : StationEntry) (hchan : s'.chan = s.chan)
    (hline : s'.line = s.line) (hrequests : s'.agent.requests = s.agent.requests)
    (hcounts : s'.agent.writeCounts = s.agent.writeCounts) :
    s.stationCommitted ((s'.stationWritten i e).reply f (.done [])) f i e := by
  obtain ⟨hagent, hup, hexceptions, hsame, hothers, hchannels⟩ := commitStation_spec i e s'
  refine ⟨⟨?up, ?requests⟩, hsame, rfl, ?count, hexceptions.trans (by rw [hchan]), fun j hj => ?others, fun ch hch =>
    ⟨fun hpresent hdescribed => ?described, fun hnone => ?undescribed⟩⟩
  case up =>
    change (commitStation i e s').line.ownUp ++ _ = _
    rw [hup, hline]
  case requests =>
    change (commitStation i e s').agent.requests.drop 1 = _
    rw [hagent, hrequests]
  case count =>
    have hcount : (commitStation i e s').writeCount .station i = s.writeCount .station i := by
      rw [State.writeCount, hagent, hcounts, State.writeCount]
    rw [← hcount]
    exact tableGet_tableSet_self 0 _ _ _
  case others =>
    refine (hothers j hj).trans (State.station_congr ?_ j)
    rw [hchan]
  case described =>
    obtain ⟨due, hdue⟩ := (hchannels ch hch).1 ((contains_channels_iff e ch).mpr ⟨hpresent, hdescribed⟩)
    exact ⟨_, hdue, rfl, rfl, rfl, rfl, rfl, rfl⟩
  case undescribed =>
    refine (hchannels ch hch).2 (Bool.eq_false_iff.mpr fun hcontains => ?_)
    obtain ⟨hpresent, d, hd, hdch⟩ := (contains_channels_iff e ch).mp hcontains
    rcases hnone with hnone | hnone
    · simp [hpresent] at hnone
    · exact hnone d hd hdch

/-- The locks and the second bindings of a Station entry are read from the Station Table and the units. -/
theorem locks_congr {s s' : State} (hchan : s'.chan = s.chan) (hpickers : s'.pickers = s.pickers) (hkilns : s'.kilns = s.kilns)
    (hpresses : s'.presses = s.presses) (i : Nat) (e : StationEntry) :
    s'.bindsTwice i e = s.bindsTwice i e ∧ s'.stationLocked i e = s.stationLocked i e := by
  have hstation : s'.station i = s.station i := State.station_congr (by rw [hchan]) i
  have hrest (u : UnitId) : s'.atRest u = s.atRest u := by
    cases u with
    | picker p => cases p <;> simp only [State.atRest, State.picker, hpickers]
    | kiln k => cases k <;> simp only [State.atRest, State.kiln, hkilns]
    | press b => cases b <;> simp only [State.atRest, State.press, hpresses]
  have hdropping (u : UnitId) : s'.isDropping u = s.isDropping u := by
    cases u with
    | picker p => rfl
    | kiln k => cases k <;> simp only [State.isDropping, State.kiln, hkilns]
    | press b => rfl
  refine ⟨by rw [State.bindsTwice, hchan, State.bindsTwice], ?_⟩
  simp only [State.stationLocked, hstation, hrest, hdropping]

/-! ### A Station entry written (R177, R179) -/

section
variable {s : State} {f : Frame} {i : Nat} {e : StationEntry} (hlow : 2 ≤ i) (hhigh : i ≤ 126)
  (htwice : s.bindsTwice i e = false) (hlocked : s.stationLocked i e = false)
include hlow hhigh htwice hlocked

/-- R177: a plain write of a Station entry that passes its tests. -/
theorem exec_tableWritePlain_station {content : List Byte} (hserves : s.serves f (.tableWritePlain 1 i content))
    (hparse : parseStation content [] = some e) :
    ∃ t, exec .tableWritePlain s = .next t ∧ s.stationCommitted t f i e := by
  obtain ⟨g, hg⟩ := discardStaging_eq s
  obtain ⟨htwice', hlocked'⟩ := locks_congr (s' := discardStaging s) (by rw [hg]) (by rw [hg]) (by rw [hg])
    (by rw [hg]) i e
  have hagent := (commitStation_spec i e (discardStaging s)).1
  have hclosed : (countWrite .station i (commitStation i e (discardStaging s))).agent.staging = none := by
    change (commitStation i e (discardStaging s)).agent.staging = none
    rw [hagent, hg]
    rfl
  have hrun : tableWritePlain 1 i content s = some (some (.done []), (discardStaging s).stationWritten i e) := by
    rw [State.stationWritten, onAgent_closes hclosed]
    simp only [tableWritePlain, tableOf, plainWrite, isStation_of_range hlow hhigh, if_pos, hparse,
      writeStation_taken (htwice'.trans htwice) (hlocked'.trans hlocked), replied]
  refine ⟨_, congrArg Host.Outcome.next (serve_eq_reply hserves hrun ?_), stationCommitted_of_written f i e ?_ ?_ ?_ ?_⟩
  · rw [stationWritten_ownUp, hg]
    rfl
  · rw [hg]
    rfl
  · rw [hg]
    rfl
  · rw [hg]
    rfl
  · rw [hg]
    rfl

/-- R178, R179: the last segment of a Station entry whose content passes its tests. -/
theorem exec_tableWriteStaged_station {n : Nat} {content : List Byte} {gathered : List (List Byte)}
    (hserves : s.serves f (.tableWriteStaged 1 i n true content)) (hn : n ≤ 15)
    (hstaging : (s.agent.staging = none ∧ n = 0 ∧ gathered = [content]) ∨
      (∃ g, s.agent.staging = some g ∧ g.table = .station ∧ g.index = i ∧ g.next = n ∧ gathered = g.content ++ [content]))
    (hlength : gathered.length ≤ 5) (hparse : parseStation (gathered.headD []) (gathered.drop 1) = some e) :
    ∃ t, exec .tableWriteStaged s = .next t ∧ s.stationCommitted t f i e := by
  have htake : tableWriteStaged 1 i n true content s = takeSegment .station i n true gathered s := by
    have htable : stagedTable 1 i = some .station := if_pos (isStation_of_range hlow hhigh)
    unfold tableWriteStaged
    rw [htable]
    dsimp only
    rw [if_neg (by omega)]
    rcases hstaging with ⟨hclosed, rfl, rfl⟩ | ⟨g, hopen, htable, hindex, hnext, rfl⟩
    · simp only [hclosed, if_pos]
    · simp only [hopen, htable, hindex, hnext, and_self, if_pos]
  let g : Staging := { table := .station, index := i, next := n + 1, lastMoment := s.now, content := gathered }
  obtain ⟨htwice', hlocked'⟩ := locks_congr (s := s) (s' := s.onAgent fun a => { a with staging := some g }) rfl rfl rfl rfl i e
  have hrun : tableWriteStaged 1 i n true content s =
      some (some (.done []), (s.onAgent fun a => { a with staging := some g }).stationWritten i e) := by
    have hroom : ¬segmentsTop .station < gathered.length := Nat.not_lt.mpr hlength
    rw [htake, takeSegment, if_neg hroom, if_pos rfl]
    simp only [commitStaged, commitWrite, hparse]
    rw [writeStation_taken (htwice'.trans htwice) (hlocked'.trans hlocked)]
    rfl
  exact ⟨_, congrArg Host.Outcome.next (serve_eq_reply hserves hrun (stationWritten_ownUp _ i e)),
    stationCommitted_of_written f i e rfl rfl rfl rfl⟩

end

/-- Settles O27: the checks are `parseDescriptor_segment` and `parseStation_checks`, the lock and the second binding
`stationLocked_iff` and `bindsTwice_iff`; both writes end in `State.stationWritten`, of which `stationCommitted_of_written` says
what stands. -/
theorem stationWriteCommits : Obligations.StationWriteCommits := by
  unfold Obligations.StationWriteCommits
  refine ⟨⟨?descriptor, ?entry⟩, fun s i e => ⟨?locked, fun hs => bindsTwice_iff hs i e⟩,
    fun s f i e hlow hhigh htwice hlocked => ⟨?plain, ?staged⟩⟩
  case descriptor =>
    intro channel window poll mask kind low high hchannel hwindow hpoll hmask hkind hlow hlow' hhigh hhigh'
    exact parseDescriptor_segment hchannel hwindow hpoll hmask hkind hlow hlow' hhigh hhigh'
  case entry =>
    intro present role unit segments e hpresent hrole hunit
    exact parseStation_checks segments e hpresent hrole hunit
  case locked =>
    dsimp only
    simp only [stationLocked_iff, atRest_iff, isDropping_iff]
  case plain =>
    intro content hserves hparse
    exact exec_tableWritePlain_station hlow hhigh htwice hlocked hserves hparse
  case staged =>
    intro n content gathered hserves hn hstaging hlength hparse
    exact exec_tableWriteStaged_station hlow hhigh htwice hlocked hserves hn hstaging hlength hparse

end Sys2Proof.Machine
end

section
namespace Sys2Proof.Machine

/-! ### A picker out of the wait order (R49, R55) -/

/-- A kiln changed in nothing but the offer of its upper floor. -/
def Kiln.reoffered (r t : Kiln) : Prop := ∃ x y, t = { r with ring := { r.ring with offered := x, declined := y } }

theorem Kiln.reoffered.refl (r : Kiln) : r.reoffered r := ⟨r.ring.offered, r.ring.declined, rfl⟩

theorem Kiln.reoffered.trans {r t u : Kiln} (h : r.reoffered t) (h' : t.reoffered u) : r.reoffered u := by
  obtain ⟨_, _, rfl⟩ := h
  obtain ⟨x, y, rfl⟩ := h'
  exact ⟨x, y, rfl⟩

/-- A kiln whose offer alone changed is itself but for the offer it has now. -/
theorem Kiln.reoffered.eq {r t : Kiln} (h : r.reoffered t) :
    t = { r with ring := { r.ring with offered := t.ring.offered, declined := t.ring.declined } } := by
  obtain ⟨x, y, rfl⟩ := h
  rfl

/-- A state changed in nothing but the offers of upper floors. -/
def State.reoffered (s t : State) : Prop := (∃ g, t = s.onKilns g) ∧ ∀ k, (s.kiln k).reoffered (t.kiln k)

theorem State.reoffered.refl (s : State) : s.reoffered s := ⟨⟨id, rfl⟩, fun _ => Kiln.reoffered.refl _⟩

theorem State.reoffered.trans {s t u : State} (h : s.reoffered t) (h' : t.reoffered u) : s.reoffered u := by
  obtain ⟨⟨g, rfl⟩, hkilns⟩ := h
  obtain ⟨⟨g', rfl⟩, hkilns'⟩ := h'
  exact ⟨⟨fun t => g' (g t), rfl⟩, fun k => (hkilns k).trans (hkilns' k)⟩

theorem State.picker_reply (s : State) (f : Frame) (a : Answer) (p : PickerId) : (s.reply f a).picker p = s.picker p := by
  cases p <;> rfl

theorem onRing_reoffered (s : State) (k : KilnId) {f : Ring → Ring} (hf : OnlyOffer f) : s.reoffered (s.onRing k f) := by
  refine ⟨by unfold State.onRing State.onKiln; exact ⟨_, rfl⟩, fun j => ?_⟩
  by_cases h : j = k
  · subst h
    obtain ⟨x, y, hring⟩ := hf (s.kiln j).ring
    exact ⟨x, y, by rw [State.kiln_onRing_same, hring]⟩
  · rw [State.onRing, State.kiln_onKiln_other _ _ _ _ h]
    exact Kiln.reoffered.refl _

theorem settleOffer_reoffered (k : KilnId) (s : State) : s.reoffered (settleOffer k s) := by
  obtain ⟨f, hf, heq⟩ := settleOffer_eq k s
  rw [heq]
  exact onRing_reoffered s k hf

/-- R49, R55: a picker that leaves the offers changes the offers alone. -/
theorem leaveOffers_reoffered (p : PickerId) (s : State) : s.reoffered (leaveOffers p s) := by
  unfold leaveOffers
  generalize allKilns = l
  induction l generalizing s with
  | nil => exact .refl s
  | cons k l ih =>
    have hleft := onRing_reoffered s k (f := fun r => { r with declined := r.declined.filter fun q => q != p })
      fun r => ⟨r.offered, _, rfl⟩
    exact (hleft.trans (settleOffer_reoffered k _)).trans (ih _)

/-- R49: no kiln is offered to a picker that does not wait for a floor. -/
theorem offerNext_ne_of_not_waiting {s : State} {p : PickerId} (h : (s.picker p).waitsForFloor = false) (k : KilnId) :
    s.offerNext k ≠ some p := by
  rw [Ne, offerNext_eq_some_iff]
  rintro ⟨_, _, hwaits, _⟩
  simp [State.waitsOn, h] at hwaits

/-! ### Picker Stop (R55) -/

/-- R55: the picker that is stopped: its opening reasons and its place in the floor wait order are given up. -/
def Picker.stopped (r : Picker) : Picker :=
  { r with
    state := .stopped
    reasons := { r.reasons with noFloor := false, noTicketSlot := false }
    waitStart := none
    retryFrom := none
    woken := false }

/-- R40, R55: a stop changes its picker, the line and the offers, and stops the feed. -/
theorem stop_eq (p : PickerId) (s : State) : ∃ g h,
    enterStopped p (dropOpeningReasons p s) = ((s.onPicker p Picker.stopped).onKilns g).onLine h ∧
      (∀ k, (s.kiln k).reoffered ((s.onKilns g).kiln k)) ∧
      s.feedStopWaits (enterStopped p (dropOpeningReasons p s)) p := by
  obtain ⟨⟨g, hg⟩, hkilns⟩ := leaveOffers_reoffered p (s.onPicker p fun r =>
    { r with reasons := { r.reasons with noFloor := false, noTicketSlot := false }, waitStart := none })
  have hdropped : dropOpeningReasons p s = (s.onPicker p fun r =>
    { r with reasons := { r.reasons with noFloor := false, noTicketSlot := false }, waitStart := none }).onKilns g := hg
  have hstopped : (dropOpeningReasons p s).onPicker p (fun r => { r with state := .stopped, retryFrom := none, woken := false }) =
      (s.onPicker p Picker.stopped).onKilns g := by
    rw [hdropped, show (State.onKilns _ g).onPicker p _ = (State.onPicker _ p _).onKilns g from rfl, State.onPicker_onPicker]
    rfl
  obtain ⟨h, hh⟩ := enterStopped_eq p (dropOpeningReasons p s)
  have hwaits := feedStopWaits_feedStop p ((s.onPicker p Picker.stopped).onKilns g)
  rw [← hstopped] at hwaits
  rw [hstopped] at hh
  refine ⟨g, h, hh, fun k => ?_, fun st hst => hwaits st (by rw [hstopped]; exact hst)⟩
  have hkiln := hkilns k
  rw [hg] at hkiln
  exact hkiln

theorem exec_pickerStop {s : State} {f : Frame} {i : Nat} {p : PickerId} (hs : s.serves f (.pickerStop i))
    (hp : pickerOf i = some p) : exec .pickerStop s = .next ((stopPicker p s).reply f (.done [])) :=
  congrArg Host.Outcome.next (serve_eq_reply hs (by simp [onPickerRequest, hp, replied])
    (stopPicker_closed (ownUp_agent_closed s.line.ownUp s.agent) p ⟨rfl, rfl⟩).1)

theorem stopPicker_of_active {s : State} {p : PickerId} (h : (s.picker p).state = .running ∨ (s.picker p).state = .held) :
    stopPicker p s = enterStopped p (dropOpeningReasons p s) := by
  rcases h with h | h <;> simp only [stopPicker, h]

/-- Settles O38: a stop of an active picker is `stop_eq`, and a picker that does not wait stands in no offer
(`offerNext_ne_of_not_waiting`). -/
theorem pickerStopCases : Obligations.PickerStopCases := by
  unfold Obligations.PickerStopCases
  intro s f i p hs hp
  rw [exec_pickerStop hs hp]
  refine ⟨fun hactive => ?active, fun hclearing => ?clearing, fun hstopped => ?stopped⟩
  case active =>
    obtain ⟨hup, hagent⟩ := stopPicker_closed (ownUp_agent_closed s.line.ownUp s.agent) p (s := s) ⟨rfl, rfl⟩
    refine ⟨_, rfl, State.answeredAs_reply f _ hup hagent, ?_⟩
    rw [stopPicker_of_active hactive]
    obtain ⟨g, h, heq, hkilns, hwaits⟩ := stop_eq p s
    have hpicker : ((enterStopped p (dropOpeningReasons p s)).reply f (.done [])).picker p = (s.picker p).stopped := by
      rw [State.picker_reply, heq]
      simp
    rw [hpicker]
    refine ⟨rfl, rfl, rfl, rfl, rfl, hwaits, ?_, ?_, ?_, fun q hq => ?_, fun k =>
      ⟨offerNext_ne_of_not_waiting (by rw [hpicker]; rfl) k, Kiln.reoffered.eq ?_⟩⟩
    · rw [heq]; rfl
    · rw [heq]; rfl
    · rw [heq]; rfl
    · rw [State.picker_reply, heq]
      simp [hq]
    · rw [heq]
      exact hkilns k
  case clearing => simp only [stopPicker, hclearing]
  case stopped => simp only [stopPicker, hstopped]

end Sys2Proof.Machine
end

section
namespace Sys2Proof.Machine

/-! ### The step at which an attempt fails (R48) -/

section
variable {s : State} {p : PickerId} {lot : Nat} {target : OpeningTarget} (hlot : (s.picker p).currentLot = some lot)
include hlot

/-- R48, step 1. -/
theorem tryOpen_of_noPlace (hdown : s.downFree = false) : tryOpen p target s =
    (.noPlace, failOpening p true (s.onPicker p fun r => { r with woken := false, retryFrom := some s.now })) := by
  have hdown' : (s.attempting p).downFree = false := hdown
  simp only [tryOpen, hlot]
  rw [← State.attempting, if_neg (by simp [hdown']), State.attempting, State.onPicker_onPicker]
  rfl

/-- R48, step 2. -/
theorem tryOpen_of_noTicket (hdown : s.downFree = true) (hgrants : s.store.grants = false) : tryOpen p target s =
    (.noTicket, failOpening p false (refuseReservation (s.attempting p))) := by
  have hdown' : (s.attempting p).downFree = true := hdown
  simp only [tryOpen, hlot]
  rw [← State.attempting, if_pos hdown', askReservation_of_not_grants (s := s.attempting p) .charge hgrants]

/-- R48, steps 3 to 6: an attempt whose reservation is granted. -/
theorem tryOpen_of_grants (hdown : s.downFree = true) (hgrants : s.store.grants = true) : tryOpen p target s =
    if s.pool.records.length < 40 then
      match s.floorFor p target with
      | none => (.noFloor, returnReservation .charge (failOpening p true (s.reserved p)))
      | some k =>
        if s.lotUsable lot = true then (.completed s.chargeNumber, completeOpening p k lot (s.reserved p))
        else (.lotRefused, refuseLot p k lot (s.reserved p))
    else (.noRecord, returnReservation .charge (failOpening p true (s.reserved p))) := by
  have hdown' : (s.attempting p).downFree = true := hdown
  obtain ⟨g, hg⟩ := grantReservation_eq .charge (s.attempting p)
  have hreserved : s.reserved p = _ := hg
  have hpool : (s.reserved p).pool = s.pool := by rw [hreserved]; rfl
  have hnumber : (s.reserved p).chargeNumber = s.chargeNumber := by rw [State.chargeNumber, hpool]; rfl
  have husable : (s.reserved p).lotUsable lot = s.lotUsable lot := by rw [hreserved]; rfl
  have hfloor : (s.reserved p).floorFor p target = s.floorFor p target := floorFor_attempting s p target
  simp only [tryOpen, hlot]
  rw [← State.attempting, if_pos hdown', askReservation_of_grants (s := s.attempting p) .charge hgrants, ← State.reserved]
  simp only [hpool, hfloor, husable, hnumber]
  rfl

end

section
variable {s : State} {p : PickerId} {lot : Nat} {target : OpeningTarget} (hlot : (s.picker p).currentLot = some lot)
  (hdown : s.downFree = true) (hgrants : s.store.grants = true)
include hlot hdown hgrants

/-- R48, step 3. -/
theorem tryOpen_of_noRecord (hrecords : 40 ≤ s.pool.records.length) :
    tryOpen p target s = (.noRecord, returnReservation .charge (failOpening p true (s.reserved p))) := by
  rw [tryOpen_of_grants hlot hdown hgrants, if_neg (by omega)]

/-- R48, step 4. -/
theorem tryOpen_of_noFloor (hrecords : s.pool.records.length < 40) (hfloor : s.floorFor p target = none) :
    tryOpen p target s = (.noFloor, returnReservation .charge (failOpening p true (s.reserved p))) := by
  rw [tryOpen_of_grants hlot hdown hgrants, if_pos hrecords, hfloor]

/-- R48, step 5. -/
theorem tryOpen_of_lotRefused {k : KilnId} (hrecords : s.pool.records.length < 40) (hfloor : s.floorFor p target = some k)
    (husable : s.lotUsable lot = false) : tryOpen p target s = (.lotRefused, refuseLot p k lot (s.reserved p)) := by
  rw [tryOpen_of_grants hlot hdown hgrants, if_pos hrecords, hfloor]
  exact if_neg (by simp [husable])

/-- R48, step 6. -/
theorem tryOpen_of_completed {k : KilnId} (hrecords : s.pool.records.length < 40) (hfloor : s.floorFor p target = some k)
    (husable : s.lotUsable lot = true) :
    tryOpen p target s = (.completed s.chargeNumber, completeOpening p k lot (s.reserved p)) := by
  rw [tryOpen_of_grants hlot hdown hgrants, if_pos hrecords, hfloor]
  exact if_pos husable

end

/-! ### What a failed attempt leaves as it was (R48, R134) -/

/-- The lots, the charges, the store, the channels and the floors are as before; offers of upper floors may have moved. -/
def State.undone (s t : State) : Prop :=
  t.lots = s.lots ∧ t.pool = s.pool ∧ t.store = s.store ∧ t.chan = s.chan ∧ ∀ k, (s.kiln k).reoffered (t.kiln k)

theorem State.undone.trans {s t u : State} (h : s.undone t) (h' : t.undone u) : s.undone u := by
  obtain ⟨hlots, hpool, hstore, hchan, hkilns⟩ := h
  obtain ⟨hlots', hpool', hstore', hchan', hkilns'⟩ := h'
  exact ⟨hlots'.trans hlots, hpool'.trans hpool, hstore'.trans hstore, hchan'.trans hchan, fun k =>
    (hkilns k).trans (hkilns' k)⟩

theorem State.undone_onPicker (s : State) (p : PickerId) (f : Picker → Picker) : s.undone (s.onPicker p f) :=
  ⟨rfl, rfl, rfl, rfl, fun k => by rw [State.onPicker_kiln_keep]; exact .refl _⟩

theorem State.undone_onNotice (s : State) (f : NoticeLatch → NoticeLatch) : s.undone (s.onNotice f) :=
  ⟨rfl, rfl, rfl, rfl, fun k => by rw [State.onNotice_kiln_keep]; exact .refl _⟩

theorem State.undone_onLine (s : State) (f : Line → Line) : s.undone (s.onLine f) :=
  ⟨rfl, rfl, rfl, rfl, fun k => by rw [State.onLine_kiln_keep]; exact .refl _⟩

theorem State.reoffered.undone {s t : State} (h : s.reoffered t) : s.undone t := by
  obtain ⟨⟨g, rfl⟩, hkilns⟩ := h
  exact ⟨rfl, rfl, rfl, rfl, hkilns⟩

theorem failOpening_undone (p : PickerId) (floor : Bool) (s : State) : s.undone (failOpening p floor s) := by
  obtain ⟨g, h, heq⟩ := failOpening_eq p floor s
  rw [heq]
  exact ((s.undone_onPicker p _).trans (State.undone_onNotice _ g)).trans (State.undone_onLine _ h)

/-- R134: an attempt that returns its reservation leaves the store as it was. -/
theorem undone_of_returned {s t : State} (p : PickerId) (h : (s.reserved p).undone t) :
    s.undone (returnReservation .charge t) := by
  obtain ⟨g, hg⟩ := grantReservation_eq .charge (s.attempting p)
  have hreserved : s.reserved p = _ := hg
  rw [hreserved] at h
  obtain ⟨hlots, hpool, hstore, hchan, hkilns⟩ := h
  refine ⟨hlots, hpool, ?_, hchan, fun k => ?_⟩
  · change t.store.onKind .charge (· - 1) = s.store
    rw [hstore]
    rfl
  · have hk := hkilns k
    rwa [State.onNotice_kiln_keep, State.onStore_kiln_keep, State.attempting, State.onPicker_kiln_keep] at hk

theorem refuseLot_undone (p : PickerId) (k : KilnId) (lot : Nat) (s : State) :
    s.undone (refuseLot p k lot (s.reserved p)) := by
  obtain ⟨g, h, heq⟩ := refuseLot_eq p k lot (s.reserved p)
  rw [heq]
  have hoffered (u : State) : u.undone (offerToOthers k p u) :=
    ((onRing_reoffered u k (fun _ => ⟨_, _, rfl⟩)).trans (settleOffer_reoffered k _)).undone
  exact undone_of_returned p ((((State.undone_onPicker _ p _).trans (State.undone_onNotice _ g)).trans
    (State.undone_onLine _ h)).trans (hoffered _))

/-- R48: an attempt that leaves its picker without a charge has undone all it did. -/
theorem tryOpen_undone {s : State} {p : PickerId} {target : OpeningTarget}
    (hloading : ((tryOpen p target s).2.picker p).loading = none) : s.undone (tryOpen p target s).2 := by
  cases hlot : (s.picker p).currentLot with
  | none =>
    rw [show (tryOpen p target s).2 = s by simp [tryOpen, hlot]]
    exact (State.reoffered.refl s).undone
  | some lot =>
    rcases tryOpen_cases target hlot with ⟨floor, retry, g, h⟩ | h | ⟨k, _, _, hdown, h⟩ | ⟨k, _, _, h⟩
    · rw [h]
      exact ((s.undone_onPicker p _).trans (State.undone_onNotice _ g)).trans (failOpening_undone p floor _)
    · rw [h]
      exact undone_of_returned p (failOpening_undone p true _)
    · rw [h, picker_completeOpening p k lot ((s.reserved_downFree p).trans hdown)] at hloading
      simp [Picker.opened] at hloading
    · rw [h]
      exact refuseLot_undone p k lot s

theorem picker_settleOffer (k : KilnId) (s : State) (p : PickerId) : (settleOffer k s).picker p = s.picker p := by
  obtain ⟨⟨g, hg⟩, _⟩ := settleOffer_reoffered k s
  rw [hg, State.onKilns_picker_keep]

/-- R49: an offer taken that leaves its picker without a charge has undone all its attempt did. -/
theorem takeOffer_undone {s : State} {p : PickerId} {k : KilnId} (hloading : ((takeOffer p k s).picker p).loading = none) :
    s.undone (takeOffer p k s) := by
  have hdeclined := (onRing_reoffered s k (f := fun r => { r with declined := r.declined ++ [p] })
    fun r => ⟨r.offered, _, rfl⟩).undone
  by_cases hoffer : s.offerNext k = some p
  · rw [takeOffer_of_offered hoffer] at hloading ⊢
    rw [picker_settleOffer] at hloading
    refine State.undone.trans ?_ (settleOffer_reoffered k _).undone
    split
    · rename_i hneeds
      rw [if_pos hneeds] at hloading
      exact hdeclined.trans (tryOpen_undone hloading)
    · exact hdeclined
  · rw [takeOffer_of_not_offered hoffer]
    exact (State.reoffered.refl s).undone

/-- R47: the commands that lead to an attempt. -/
theorem attempt_cases {s t : State} {p : PickerId} {offer : Option KilnId}
    (h : exec (.openingAttempt p offer) s = .next t ∨ exec (.openingRetry p) s = .next t) :
    t = s ∨ t = openOwn p s ∨ ∃ k, t = takeOffer p k s := by
  rcases h with h | h
  · cases offer with
    | some k =>
      obtain rfl : takeOffer p k s = t := Host.Outcome.next.inj h
      exact .inr (.inr ⟨k, rfl⟩)
    | none =>
      obtain rfl : (if (s.picker p).woken && (s.picker p).needsCharge then openOwn p s else s) = t := Host.Outcome.next.inj h
      split
      · exact .inr (.inl rfl)
      · exact .inl rfl
  · change execOpeningRetry p s = _ at h
    unfold execOpeningRetry at h
    split at h
    · exact .inl (Host.Outcome.next.inj h).symm
    · obtain rfl := Host.Outcome.next.inj h
      split
      · exact .inr (.inl rfl)
      · exact .inl rfl

/-! ### What a failed attempt leaves at its picker (R48) -/

theorem needsCharge_iff (r : Picker) :
    r.needsCharge = true ↔ r.state = .held ∧ r.loading = none ∧ r.currentLot ≠ none ∧ r.reasons.standing = false := by
  simp [Picker.needsCharge, and_assoc, Option.isSome_iff_ne_none]

/-- R48: a Held picker stays Held, without a charge, with the reason of the step that failed and the wait start it had or the
present moment. -/
def State.attemptFailed (s t : State) (p : PickerId) (floor : Bool) : Prop :=
  (t.picker p).state = .held ∧ (t.picker p).loading = none ∧
    (t.picker p).reasons = { (s.picker p).reasons with noFloor := floor, noTicketSlot := !floor } ∧
    (t.picker p).waitStart = some ((s.picker p).waitStart.getD s.now)

theorem attemptFailed_of_eq {s t : State} {p : PickerId} {floor w : Bool} {retry : Option Nat}
    (hloading : (s.picker p).loading = none)
    (h : t.picker p = { (s.picker p).openingFailed floor s.now with woken := w, retryFrom := retry }) :
    s.attemptFailed t p floor := by
  rw [State.attemptFailed, h]
  exact ⟨rfl, hloading, rfl, rfl⟩

/-- R48: an attempt that fails for want of a queue place. -/
theorem attemptFailed_of_noPlace {s : State} {p : PickerId} (hloading : (s.picker p).loading = none) :
    s.attemptFailed (failOpening p true (s.onPicker p fun r => { r with woken := false, retryFrom := some s.now })) p true :=
  attemptFailed_of_eq (w := false) (retry := some s.now) hloading
    (by rw [picker_failOpening_same, State.picker_onPicker_same]; rfl)

/-- R48: an attempt that fails for want of a reservation. -/
theorem attemptFailed_of_noTicket {s : State} {p : PickerId} (hloading : (s.picker p).loading = none) :
    s.attemptFailed (failOpening p false (refuseReservation (s.attempting p))) p false := by
  obtain ⟨g, hg⟩ := refuseReservation_eq (s.attempting p)
  refine attemptFailed_of_eq (w := false) (retry := none) hloading ?_
  rw [picker_failOpening_same, hg, State.onNotice_picker_keep, State.attempting, State.picker_onPicker_same]
  rfl

/-- R48: an attempt that fails after its reservation, which it returns. -/
theorem attemptFailed_of_returned {s : State} {p : PickerId} (hloading : (s.picker p).loading = none) :
    s.attemptFailed (returnReservation .charge (failOpening p true (s.reserved p))) p true := by
  obtain ⟨w, hw⟩ := picker_returnReservation .charge (failOpening p true (s.reserved p)) p
  obtain ⟨g, hg⟩ := grantReservation_eq .charge (s.attempting p)
  have hnow : (s.reserved p).now = s.now := by rw [show s.reserved p = _ from hg]; rfl
  refine attemptFailed_of_eq (w := w) (retry := none) hloading ?_
  rw [hw, picker_failOpening_same, State.picker_reserved_same, hnow]
  rfl

/-- R48: a failed attempt of a Held picker changes its picker alone. -/
theorem failOpening_of_held {s : State} {p : PickerId} (h : (s.picker p).state = .held) (floor : Bool) :
    failOpening p floor s = s.onPicker p (Picker.openingFailed floor s.now) := by
  unfold failOpening
  dsimp only
  rw [State.picker_onPicker_same, if_pos h]
  exact State.onPicker_congr (by rw [Picker.openingFailed, ← h])

/-- R48, step 5: an attempt refused for its lot latches UnknownLot. -/
theorem refuseLot_latched (p : PickerId) (k : KilnId) (lot : Nat) (s : State) :
    (refuseLot p k lot s).latchedNow (srcUnknownLot p) := by
  have hclosed := latchedNow_closed (srcUnknownLot p)
  refine returnReservation_closed hclosed .charge (offerToOthers_closed hclosed k p ?_)
  have hlatched := latchedNow_latch (srcUnknownLot p) (s.onPicker p fun r =>
    { r with reasons := { r.reasons with noFloor := false, noTicketSlot := false, unknownLot := true }
             refusedLot := some lot }) (by cases p <;> decide)
  split
  · exact hlatched
  · exact enterHeld_closed hclosed p hlatched

theorem floorFor_own_eq_none_iff (s : State) (p : PickerId) : s.floorFor p .own = none ↔
    ∀ k, inRoute (s.picker p).config k = false ∨ (s.kiln k).claimable = false ∨ s.passedOver p k = true := by
  have hall (k : KilnId) : k ∈ allKilns := by cases k <;> decide
  simp only [State.floorFor, List.find?_eq_none, hall, forall_const, Bool.and_eq_true, Bool.not_eq_true', not_and_or,
    Bool.not_eq_true, Bool.not_eq_false, or_assoc]

/-- Settles O35. An attempt that ends without a charge is undone (`tryOpen_undone`, `takeOffer_undone`); each step that fails
is an equation of `tryOpen`. -/
theorem failedOpeningIsUndone : Obligations.FailedOpeningIsUndone := by
  unfold Obligations.FailedOpeningIsUndone
  refine ⟨fun s t p offer h hbefore hafter => ?undone, fun s p lot hlot hneeds hwoken => ?reasons⟩
  case undone =>
    have hundone : s.undone t := by
      rcases attempt_cases h with rfl | rfl | ⟨k, rfl⟩
      · exact (State.reoffered.refl t).undone
      · exact tryOpen_undone hafter
      · exact takeOffer_undone hafter
    obtain ⟨hlots, hpool, hstore, hchan, hkilns⟩ := hundone
    refine ⟨hlots, hpool, hstore, hchan, fun k => ?_⟩
    obtain ⟨x, y, hk⟩ := hkilns k
    rw [hk]
    exact ⟨rfl, rfl, rfl, rfl, rfl⟩
  case reasons =>
    obtain ⟨hheld, hloading, _, _⟩ := (needsCharge_iff _).mp hneeds
    have hdown (h : s.line.ownDown.length < 6) : s.downFree = true := decide_eq_true h
    refine ⟨_, execOpeningAttempt_own hwoken hneeds, fun hfull => ?place, fun hroom hgrants => ?ticket,
      fun hroom hgrants hrecords => ?record, fun hroom hgrants hrecords hnone => ?floor,
      fun k hroom hgrants hrecords hroute hclaim hpass husable => ?lot⟩
    case place =>
      rw [tryOpen_of_noPlace hlot (decide_eq_false (by simp [Config.ownDownOrdinary]; omega))]
      refine ⟨attemptFailed_of_noPlace hloading, ?_⟩
      rw [picker_failOpening_same, State.picker_onPicker_same]
      rfl
    case ticket =>
      obtain ⟨g, hg⟩ := refuseReservation_eq (s.attempting p)
      have hheld' : ((refuseReservation (s.attempting p)).picker p).state = .held := by
        rw [hg, State.onNotice_picker_keep, State.attempting, State.picker_onPicker_same]
        exact hheld
      rw [tryOpen_of_noTicket hlot (hdown hroom) hgrants]
      refine ⟨attemptFailed_of_noTicket hloading, ?_⟩
      rw [failOpening_of_held hheld']
      refine ⟨fun hseeded => ?_, fun hunseeded => ?_⟩
      · have hseeded' : (s.attempting p).store.nextSerial.isSome = true := Option.isSome_iff_ne_none.mpr hseeded
        rw [refuseReservation, if_pos hseeded']
        exact (latchedNow_closed 4).picker p _ (fun _ => rfl) (latchedNow_latch srcStoreFull _ (by decide))
      · have hunseeded' : ¬(s.attempting p).store.nextSerial.isSome = true := by
          change ¬s.store.nextSerial.isSome = true
          simp [hunseeded]
        rw [refuseReservation, if_neg hunseeded']
        rfl
    case record =>
      rw [tryOpen_of_noRecord hlot (hdown hroom) hgrants hrecords]
      exact attemptFailed_of_returned hloading
    case floor =>
      rw [tryOpen_of_noFloor hlot (hdown hroom) hgrants hrecords ((floorFor_own_eq_none_iff s p).mpr hnone)]
      exact attemptFailed_of_returned hloading
    case lot =>
      obtain ⟨j, hfloor⟩ : ∃ j, s.floorFor p .own = some j := by
        rw [← Option.ne_none_iff_exists', Ne, floorFor_own_eq_none_iff]
        intro h
        simpa [hroute, hclaim, hpass] using h k
      rw [tryOpen_of_lotRefused hlot (hdown hroom) hgrants hrecords hfloor husable]
      obtain ⟨w, hw⟩ := picker_refuseLot_same p j lot (s.reserved p)
      rw [State.picker_reserved_same] at hw
      rw [hw]
      exact ⟨rfl, hloading, rfl, rfl, rfl, refuseLot_latched p j lot _⟩

end Sys2Proof.Machine
end

section
namespace Sys2Proof.Machine

/-! ### An attempt of a picker that was not Held (R39, R48) -/

theorem failOpening_latched {s : State} {p : PickerId} (h : (s.picker p).state ≠ .held) (floor : Bool) :
    (failOpening p floor s).latchedNow (srcHeld p) := by
  unfold failOpening
  dsimp only
  rw [State.picker_onPicker_same, if_neg h]
  exact (enterHeld_waits p _).2

theorem refuseLot_latched_held {s : State} {p : PickerId} (h : (s.picker p).state ≠ .held) (k : KilnId) (lot : Nat) :
    (refuseLot p k lot s).latchedNow (srcHeld p) := by
  have hclosed := latchedNow_closed (srcHeld p)
  obtain ⟨g, hg⟩ := latch_eq_onNotice (srcUnknownLot p) (s.onPicker p fun r =>
    { r with reasons := { r.reasons with noFloor := false, noTicketSlot := false, unknownLot := true }
             refusedLot := some lot })
  refine returnReservation_closed hclosed .charge (offerToOthers_closed hclosed k p ?_)
  rw [hg, if_neg (by rw [State.onNotice_picker_keep, State.picker_onPicker_same]; exact h)]
  exact (enterHeld_waits p _).2

/-- R39, R48: an attempt that makes its picker Held latches Held. -/
theorem tryOpen_latched {s : State} {p : PickerId} {target : OpeningTarget} (hstate : (s.picker p).state ≠ .held)
    (hheld : ((tryOpen p target s).2.picker p).state = .held) : (tryOpen p target s).2.latchedNow (srcHeld p) := by
  have hreserved : ((s.reserved p).picker p).state ≠ .held := by rw [State.picker_reserved_same]; exact hstate
  cases hlot : (s.picker p).currentLot with
  | none =>
    rw [show (tryOpen p target s).2 = s by simp [tryOpen, hlot]] at hheld
    exact absurd hheld hstate
  | some lot =>
    rcases tryOpen_cases target hlot with ⟨floor, retry, g, h⟩ | h | ⟨k, _, _, hdown, h⟩ | ⟨k, _, _, h⟩
    · rw [h]
      exact failOpening_latched (by rw [State.onNotice_picker_keep, State.picker_onPicker_same]; exact hstate) floor
    · rw [h]
      exact returnReservation_closed (latchedNow_closed _) .charge (failOpening_latched hreserved true)
    · rw [h, picker_completeOpening p k lot ((s.reserved_downFree p).trans hdown)] at hheld
      cases hheld
    · rw [h]
      exact refuseLot_latched_held hreserved k lot

/-! ### Picker Start (R54) -/

theorem exec_pickerStart {s t : State} {f : Frame} {i : Nat} {a : Answer} (hs : s.serves f (.pickerStart i))
    (h : (onPickerRequest i s fun p =>
      if (s.picker p).state = .stopped ∧ (s.picker p).currentLot.isSome then replied (.done []) (startPicker p s)
      else refused .state s) = some (some a, t)) (hu : t.line.ownUp = s.line.ownUp) :
    exec .pickerStart s = .next (t.reply f a) :=
  congrArg Host.Outcome.next (serve_eq_reply hs h hu)

section
variable {s : State} {p : PickerId}

theorem startPicker_of_pending (hloading : (s.picker p).loading ≠ none) (hpending : (s.picker p).pendingLot ≠ none) :
    startPicker p s = startClearance p s := by
  simp [startPicker, Option.isSome_iff_ne_none, hloading, hpending]

theorem startPicker_of_empty (hloading : (s.picker p).loading ≠ none) (hpending : (s.picker p).pendingLot = none)
    (hreasons : (s.picker p).reasons = .none) : startPicker p s = enterRunning p s := by
  simp [startPicker, Option.isSome_iff_ne_none, hloading, hpending, (HoldReasons.isEmpty_iff _).mpr hreasons]

theorem startPicker_of_reasons (hloading : (s.picker p).loading ≠ none) (hpending : (s.picker p).pendingLot = none)
    (hreasons : (s.picker p).reasons ≠ .none) : startPicker p s = enterHeld p s := by
  rw [Ne, ← HoldReasons.isEmpty_iff, Bool.not_eq_true] at hreasons
  simp [startPicker, Option.isSome_iff_ne_none, hloading, hpending, hreasons]

theorem startPicker_of_standing (hloading : (s.picker p).loading = none) (hstanding : (s.picker p).reasons.standing = true) :
    startPicker p s = enterHeld p s := by
  simp [startPicker, hloading, hstanding]

theorem startPicker_of_free (hloading : (s.picker p).loading = none) (hstanding : (s.picker p).reasons.standing = false) :
    startPicker p s = openOwn p s := by
  simp [startPicker, hloading, hstanding]

end

/-! ### Picker Hold and Picker Release (R56) -/

theorem exec_pickerHold {s : State} {f : Frame} {i : Nat} {p : PickerId} (hs : s.serves f (.pickerHold i))
    (hp : pickerOf i = some p) : exec .pickerHold s =
      .next ((holdIfRunning p (onReasons p (fun h => { h with operator := true }) s)).reply f (.done [])) :=
  congrArg Host.Outcome.next (serve_eq_reply hs (by simp [onPickerRequest, hp, replied])
    (holdIfRunning_closed (ownUp_agent_closed s.line.ownUp s.agent) p
      (s := onReasons p (fun h => { h with operator := true }) s) ⟨rfl, rfl⟩).1)

theorem exec_pickerRelease {s : State} {f : Frame} {i : Nat} {p : PickerId} (hs : s.serves f (.pickerRelease i))
    (hp : pickerOf i = some p) : exec .pickerRelease s = .next ((releasePicker p s).reply f (.done [])) :=
  congrArg Host.Outcome.next (serve_eq_reply hs (by simp [onPickerRequest, hp, replied])
    (releasePicker_closed (ownUp_agent_closed s.line.ownUp s.agent) p ⟨rfl, rfl⟩).1)

/-- R56: the picker that is released, before it goes on. -/
def Picker.released (r : Picker) : Picker :=
  { r with feedEnable := true, reasons := { r.reasons with operator := false, disabled := false } }

theorem releasePicker_of_none {s : State} {p : PickerId} (hoperator : (s.picker p).reasons.operator = false)
    (hdisabled : (s.picker p).reasons.disabled = false) :
    releasePicker p s = s.onPicker p fun r => { r with feedEnable := true } := by
  have hreasons : ({ (s.picker p).reasons with operator := false, disabled := false } : HoldReasons) = (s.picker p).reasons := by
    generalize (s.picker p).reasons = h at hoperator hdisabled ⊢
    cases h
    simp_all
  simp only [releasePicker, hoperator, hdisabled, Bool.or_self, Bool.false_eq_true, if_false]
  exact State.onPicker_congr (by rw [hreasons])

theorem releasePicker_of_some {s : State} {p : PickerId}
    (h : (s.picker p).reasons.operator = true ∨ (s.picker p).reasons.disabled = true) :
    releasePicker p s = afterRemoval p (s.onPicker p Picker.released) :=
  if_pos (Bool.or_eq_true_iff.mpr h)

/-- An attempt keeps the flag and the reasons of the requests. -/
theorem Attempted.keeps_released {lot : Nat} {usable : Bool} {r t : Picker} (h : Attempted lot usable r t) :
    t.feedEnable = r.feedEnable ∧ t.reasons.operator = r.reasons.operator ∧ t.reasons.disabled = r.reasons.disabled := by
  cases h <;> exact ⟨rfl, rfl, rfl⟩

theorem afterRemoval_keeps_released (p : PickerId) (s : State) :
    ((afterRemoval p s).picker p).feedEnable = (s.picker p).feedEnable ∧
      ((afterRemoval p s).picker p).reasons.operator = (s.picker p).reasons.operator ∧
      ((afterRemoval p s).picker p).reasons.disabled = (s.picker p).reasons.disabled := by
  rcases afterRemoval_cases p s with h | h | h
  · rw [h]
    exact ⟨rfl, rfl, rfl⟩
  · rw [h, enterRunning, State.picker_onPicker_same]
    exact ⟨rfl, rfl, rfl⟩
  · rw [h]
    cases hlot : (s.picker p).currentLot with
    | none => rw [openOwn_of_none hlot]; exact ⟨rfl, rfl, rfl⟩
    | some lot => exact (tryOpen_attempted .own hlot).keeps_released

theorem releasePicker_released (p : PickerId) (s : State) :
    ((releasePicker p s).picker p).feedEnable = true ∧ ((releasePicker p s).picker p).reasons.operator = false ∧
      ((releasePicker p s).picker p).reasons.disabled = false := by
  by_cases h : (s.picker p).reasons.operator = true ∨ (s.picker p).reasons.disabled = true
  · have hkeeps := afterRemoval_keeps_released p (s.onPicker p Picker.released)
    rw [State.picker_onPicker_same] at hkeeps
    rw [releasePicker_of_some h]
    exact hkeeps
  · simp only [not_or, Bool.not_eq_true] at h
    rw [releasePicker_of_none h.1 h.2, State.picker_onPicker_same]
    exact ⟨rfl, h.1, h.2⟩

/-- R39: a Held picker with a charge goes on exactly where no reason is left. -/
theorem picker_afterRemoval_of_loading {s : State} {p : PickerId} (hheld : (s.picker p).state = .held)
    (hloading : (s.picker p).loading ≠ none) :
    (((afterRemoval p s).picker p).reasons = .none → ((afterRemoval p s).picker p).state = .running) ∧
      (((afterRemoval p s).picker p).reasons ≠ .none → ((afterRemoval p s).picker p).state = .held) := by
  cases hempty : (s.picker p).reasons.isEmpty with
  | true =>
    rw [afterRemoval_of_empty hheld hloading hempty, enterRunning, State.picker_onPicker_same]
    exact ⟨fun _ => rfl, fun h => absurd ((HoldReasons.isEmpty_iff _).mp hempty) h⟩
  | false =>
    rw [afterRemoval_of_not_empty hheld hloading hempty]
    exact ⟨fun h => by simp [(HoldReasons.isEmpty_iff _).mpr h] at hempty, fun _ => hheld⟩

/-- Settles O37: Start is an equation of `startPicker` for each case, and an attempt that fails is `tryOpen_latched`; a hold is
`enterHeld_waits`, and a release goes on by `picker_afterRemoval_of_loading`. -/
theorem pickerStartHoldRelease : Obligations.PickerStartHoldRelease := by
  unfold Obligations.PickerStartHoldRelease
  refine ⟨fun s f i p hs => ⟨fun hnone => ?unknown, fun hp => ⟨fun hrefused => ?refused, fun hstopped hlot => ?start⟩⟩,
    fun s f i p hp => ⟨fun hs => ⟨fun hrunning => ?hold, fun hother => ?held⟩, fun hs => ?release⟩⟩
  case unknown => exact exec_pickerStart hs (by simp [onPickerRequest, hnone, refused]) rfl
  case refused =>
    refine exec_pickerStart hs ?_ rfl
    simp only [onPickerRequest, hp]
    refine if_neg fun h => ?_
    obtain ⟨hstate, hlot⟩ := h
    exact hrefused.elim (absurd hstate) fun hnone => by simp [hnone] at hlot
  case start =>
    obtain ⟨hup, hagent⟩ := startPicker_closed (ownUp_agent_closed s.line.ownUp s.agent) p (s := s) ⟨rfl, rfl⟩
    have hrun : (onPickerRequest i s fun p =>
        if (s.picker p).state = .stopped ∧ (s.picker p).currentLot.isSome then replied (.done []) (startPicker p s)
        else refused .state s) = some (some (.done []), startPicker p s) := by
      simp only [onPickerRequest, hp]
      exact if_pos ⟨hstopped, Option.isSome_iff_ne_none.mpr hlot⟩
    refine ⟨_, exec_pickerStart hs hrun hup, State.answeredAs_reply f _ hup hagent, fun hpending hloading => ?clearance,
      fun hpending hloading hreasons => ?running, fun hpending hloading hreasons => ?reasons,
      fun hloading hstanding => ?standing, fun hloading hstanding => ?opens⟩
    case clearance =>
      rw [State.picker_reply, startPicker_of_pending hloading hpending]
      obtain ⟨g, h, heq, hwaits⟩ := startClearance_eq p s
      refine ⟨?_, ?_, hwaits⟩ <;> rw [heq] <;> simp [Picker.clearingFrom]
    case running => rw [startPicker_of_empty hloading hpending hreasons, enterRunning]
    case reasons =>
      rw [State.picker_reply, startPicker_of_reasons hloading hpending hreasons, picker_enterHeld_same]
      obtain ⟨hwaits, hlatched⟩ := enterHeld_waits p s
      exact ⟨rfl, hlatched, hwaits⟩
    case standing =>
      rw [State.picker_reply, startPicker_of_standing hloading hstanding, picker_enterHeld_same]
      obtain ⟨hwaits, hlatched⟩ := enterHeld_waits p s
      exact ⟨rfl, hloading, hlatched, hwaits⟩
    case opens =>
      obtain ⟨lot, hlot⟩ := Option.ne_none_iff_exists'.mp hlot
      rw [State.picker_reply, startPicker_of_free hloading hstanding]
      have hstate := (tryOpen_attempted (s := s) .own hlot).state
      rw [hloading] at hstate
      exact hstate.imp_right fun ⟨hheld, hnone⟩ => ⟨hheld, hnone, tryOpen_latched (by simp [hstopped]) hheld⟩
  case hold =>
    have hstate : ((onReasons p (fun h => { h with operator := true }) s).picker p).state = .running := by
      rw [onReasons, State.picker_onPicker_same]
      exact hrunning
    rw [exec_pickerHold hs hp, holdIfRunning_of_running hstate]
    obtain ⟨hup, hagent⟩ := enterHeld_closed (ownUp_agent_closed s.line.ownUp s.agent) p
      (s := onReasons p (fun h => { h with operator := true }) s) ⟨rfl, rfl⟩
    obtain ⟨hwaits, hlatched⟩ := enterHeld_waits p (onReasons p (fun h => { h with operator := true }) s)
    refine ⟨_, rfl, State.answeredAs_reply f _ hup hagent, ?_, hlatched, hwaits⟩
    rw [State.picker_reply, picker_enterHeld_same, onReasons, State.picker_onPicker_same]
  case held =>
    have hstate : ((onReasons p (fun h => { h with operator := true }) s).picker p).state ≠ .running := by
      rw [onReasons, State.picker_onPicker_same]
      exact hother
    rw [exec_pickerHold hs hp, holdIfRunning_of_not_running hstate, onReasons]
  case release =>
    obtain ⟨hup, hagent⟩ := releasePicker_closed (ownUp_agent_closed s.line.ownUp s.agent) p (s := s) ⟨rfl, rfl⟩
    obtain ⟨hfeed, hoperator, hdisabled⟩ := releasePicker_released p s
    refine ⟨_, exec_pickerRelease hs hp, State.answeredAs_reply f _ hup hagent, ?_⟩
    rw [State.picker_reply]
    refine ⟨hfeed, hoperator, hdisabled, fun hnoOperator hnoDisabled => ?nothing, fun hstate => ?others,
      fun hhad hheld => ?goesOn⟩
    case nothing => rw [releasePicker_of_none hnoOperator hnoDisabled]
    case others =>
      by_cases h : (s.picker p).reasons.operator = true ∨ (s.picker p).reasons.disabled = true
      · rw [releasePicker_of_some h, afterRemoval_of_not_held (by rw [State.picker_onPicker_same]; exact hstate),
          State.picker_onPicker_same]
        rfl
      · simp only [not_or, Bool.not_eq_true] at h
        rw [releasePicker_of_none h.1 h.2, State.picker_onPicker_same]
    case goesOn =>
      rw [releasePicker_of_some hhad]
      have hgoesOn (hloading : (s.picker p).loading ≠ none) := picker_afterRemoval_of_loading (p := p)
        (s := s.onPicker p Picker.released) (by rw [State.picker_onPicker_same]; exact hheld)
        (by rw [State.picker_onPicker_same]; exact hloading)
      exact ⟨fun hloading => (hgoesOn hloading).1, fun hloading => (hgoesOn hloading).2⟩

end Sys2Proof.Machine
end

section
namespace Sys2Proof.Machine

/-! ### Charge Close (R53, R57) -/

theorem exec_chargeClose {s t : State} {f : Frame} {i : Nat} {p : PickerId} {a : Answer} (hs : s.serves f (.chargeClose i))
    (hp : pickerOf i = some p) (h : chargeClose p s = some (some a, t)) (hu : t.line.ownUp = s.line.ownUp) :
    exec .chargeClose s = .next (t.reply f a) :=
  congrArg Host.Outcome.next (serve_eq_reply hs (by simp only [onPickerRequest, hp, h]) hu)

theorem chargeClose_of_refused {s : State} {p : PickerId} (h : s.loadingCharge p = none ∨ (s.picker p).state = .clearing) :
    chargeClose p s = refused .state s := by
  unfold chargeClose
  split
  · rfl
  · rename_i n c hcharge
    exact if_pos (h.resolve_left (by simp [hcharge]))

theorem chargeClose_of_loading {s : State} {p : PickerId} {n : Nat} {c : Charge} (hcharge : s.loadingCharge p = some (n, c))
    (hstate : (s.picker p).state ≠ .clearing) :
    chargeClose p s = replied (.done (fieldNat 2 n ++ fieldNat 4 c.green.toNat)) (closeCharge p .hostClose s) := by
  simp only [chargeClose, hcharge, if_neg hstate, word2, mass4]

/-- R53, step 5: a picker that is not Running stays in its state after a close, without a charge. -/
theorem picker_pickerAfterClose {s : State} {p : PickerId} (h : (s.picker p).state ≠ .running) :
    ((pickerAfterClose p s).picker p).state = (s.picker p).state ∧
      ((pickerAfterClose p s).picker p).loading = (s.picker p).loading := by
  unfold pickerAfterClose
  split
  · rename_i hrunning
    exact absurd hrunning h
  · split
    · rw [State.picker_onPicker_same]
      exact ⟨rfl, rfl⟩
    · exact ⟨rfl, rfl⟩
  · exact ⟨rfl, rfl⟩

/-- R53, step 5: a Running picker goes on to its next charge. -/
theorem pickerAfterClose_of_running {s : State} {p : PickerId} (h : (s.picker p).state = .running) :
    pickerAfterClose p s = openOwn p s := by
  simp only [pickerAfterClose, h]

/-! ### Picker Assign (R58) -/

theorem exec_pickerAssign {s t : State} {f : Frame} {i j : Nat} {p : PickerId} {k : KilnId} {a : Answer}
    (hs : s.serves f (.pickerAssign i j)) (hp : pickerOf i = some p) (hk : kilnOf j = some k)
    (h : pickerAssign p k s = some (some a, t)) (hu : t.line.ownUp = s.line.ownUp) :
    exec .pickerAssign s = .next (t.reply f a) :=
  congrArg Host.Outcome.next (serve_eq_reply hs (by simp only [onPickerRequest, hp, onKilnRequest, hk, h]) hu)

theorem State.kiln_reply (s : State) (f : Frame) (a : Answer) (k : KilnId) : (s.reply f a).kiln k = s.kiln k := by
  cases k <;> rfl

/-- A Reply does not bear on an opening. -/
theorem openedAs_reply {s t : State} {p : PickerId} {k : KilnId} {lot : Nat} (h : s.openedAs t p k lot) (f : Frame) (a : Answer) :
    s.openedAs (t.reply f a) p k lot := by
  rw [State.openedAs, State.picker_reply, State.kiln_reply]
  exact h

theorem floorFor_assigned {s : State} {k : KilnId} (hclaim : (s.kiln k).claimable = true) (p : PickerId) :
    s.floorFor p (.assigned k) = some k := if_pos hclaim

theorem not_grants_of_unseeded {t : Store} (h : t.nextSerial = none) : t.grants = false := by
  simp [Store.grants, Store.room, h]

section
variable {s : State} {f : Frame} {i j : Nat} {p : PickerId} {k : KilnId} (hs : s.serves f (.pickerAssign i j))
  (hp : pickerOf i = some p) (hk : kilnOf j = some k) (hroute : inRoute (s.picker p).config k = true)
  (hneeds : (s.picker p).needsCharge = true) (hclaim : (s.kiln k).claimable = true)
include hs hp hk hroute hneeds hclaim

/-- R58: the Reply of an assignment is its attempt's outcome. -/
theorem exec_pickerAssign_attempt {o : OpeningOutcome} {t : State} (h : tryOpen p (.assigned k) s = (o, t)) :
    exec .pickerAssign s = .next (t.reply f (assignAnswer s.store.nextSerial.isSome o)) ∧
      s.answeredAs (t.reply f (assignAnswer s.store.nextSerial.isSome o)) f (assignAnswer s.store.nextSerial.isSome o) := by
  obtain ⟨hup, hagent⟩ := tryOpen_closed (ownUp_agent_closed s.line.ownUp s.agent) p (.assigned k) (s := s) ⟨rfl, rfl⟩
  rw [h] at hup hagent
  have hrun : pickerAssign p k s = some (some (assignAnswer s.store.nextSerial.isSome o), t) := by
    rw [pickerAssign, if_neg (by simp [hroute]), if_neg (by simp [hneeds, hclaim]), h]
    rfl
  exact ⟨exec_pickerAssign hs hp hk hrun hup, State.answeredAs_reply f _ hup hagent⟩

/-- R58, R134: an assignment whose attempt fails: its Reply, the picker still Held, and nothing else done. -/
theorem exec_pickerAssign_fails {o : OpeningOutcome} {t : State} (h : tryOpen p (.assigned k) s = (o, t))
    (hheld : (t.picker p).state = .held) (hloading : (t.picker p).loading = none) :
    ∃ u, exec .pickerAssign s = .next u ∧ s.answeredAs u f (assignAnswer s.store.nextSerial.isSome o) ∧
      (u.picker p).state = .held ∧ (u.picker p).loading = none ∧ u.lots = s.lots ∧ u.pool = s.pool ∧ u.store = s.store := by
  obtain ⟨hexec, hanswered⟩ := exec_pickerAssign_attempt hs hp hk hroute hneeds hclaim h
  have hundone : s.undone (tryOpen p (.assigned k) s).2 := tryOpen_undone (by rw [h]; exact hloading)
  rw [h] at hundone
  obtain ⟨hlots, hpool, hstore, _⟩ := hundone
  refine ⟨_, hexec, hanswered, ?_, ?_, hlots, hpool, hstore⟩
  · rw [State.picker_reply]
    exact hheld
  · rw [State.picker_reply]
    exact hloading

end

/-- Settles O39: a close is `closeToReady` with the picker's response; an assignment answers as the step its attempt ends at
(`exec_pickerAssign_fails`), and undoes what failed. -/
theorem chargeCloseAndAssign : Obligations.ChargeCloseAndAssign := by
  unfold Obligations.ChargeCloseAndAssign
  refine ⟨fun s f i p hs hp => ⟨fun hrefused => ?refused, fun n c hcharge hstate hserial => ?closed⟩,
    fun s f i j p k hs hp hk => ⟨fun hroute => ?offRoute, fun hroute hcannot => ?cannot,
      fun lot hroute hneeds hclaim hlot => ?attempt⟩⟩
  case refused => exact exec_chargeClose hs hp (chargeClose_of_refused hrefused) rfl
  case closed =>
    obtain ⟨hup, hagent⟩ := closeCharge_closed (ownUp_agent_closed s.line.ownUp s.agent) p .hostClose (s := s) ⟨rfl, rfl⟩
    have hpicker := picker_closeToReady (s := s) (p := p) (.inl (by simp [hcharge])) .hostClose
    refine ⟨_, exec_chargeClose hs hp (chargeClose_of_loading hcharge hstate) hup, State.answeredAs_reply f _ hup hagent,
      closeCharge_issued .hostClose hcharge hserial, ?_⟩
    rw [State.picker_reply, closeCharge]
    refine ⟨fun hidle => ?_, fun hrunning hlot => ?_⟩
    · obtain ⟨hstate, hloading⟩ := picker_pickerAfterClose (p := p) (s := closeToReady p .hostClose s)
        (by rw [hpicker]; exact hidle)
      rw [hpicker] at hstate hloading
      exact ⟨hloading, hstate⟩
    · obtain ⟨lot, hlot⟩ := Option.ne_none_iff_exists'.mp hlot
      rw [pickerAfterClose_of_running (by rw [hpicker]; exact hrunning)]
      have hstate := (tryOpen_attempted (s := closeToReady p .hostClose s) .own (by rw [hpicker]; exact hlot)).state
      rwa [hpicker] at hstate
  case offRoute => exact exec_pickerAssign hs hp hk (by rw [pickerAssign, if_pos hroute]; rfl) rfl
  case cannot => exact exec_pickerAssign hs hp hk (by rw [pickerAssign, if_neg (by simp [hroute]), if_pos hcannot]; rfl) rfl
  case attempt =>
    obtain ⟨_, hloading, _, _⟩ := (needsCharge_iff _).mp hneeds
    have hdown (h : s.line.ownDown.length < 6) : s.downFree = true := decide_eq_true h
    have hfloor := floorFor_assigned hclaim p
    have returned := attemptFailed_of_returned hloading
    refine ⟨fun hmay => ?opens, fun hfull => ?place, fun hroom hunseeded => ?unseeded,
      fun hroom hseeded hgrants => ?ticket, fun hroom hgrants hrecords => ?record,
      fun hroom hgrants hrecords husable => ?lot⟩
    case opens =>
      obtain ⟨_, hroom, hgrants, hrecords, husable⟩ := id hmay
      have htry := tryOpen_of_completed hlot (hdown hroom) hgrants hrecords hfloor husable
      have hopened := tryOpen_openedAs hmay hfloor
      rw [htry] at hopened
      obtain ⟨hexec, hanswered⟩ := exec_pickerAssign_attempt hs hp hk hroute hneeds hclaim htry
      exact ⟨_, hexec, hanswered, openedAs_reply hopened f _⟩
    case place =>
      have hplace : s.downFree = false := decide_eq_false (by simp [Config.ownDownOrdinary]; omega)
      obtain ⟨hheld, hnone, _⟩ := attemptFailed_of_noPlace hloading
      exact exec_pickerAssign_fails hs hp hk hroute hneeds hclaim (tryOpen_of_noPlace hlot hplace) hheld hnone
    case unseeded =>
      obtain ⟨hheld, hnone, _⟩ := attemptFailed_of_noTicket hloading
      have h := exec_pickerAssign_fails hs hp hk hroute hneeds hclaim
        (tryOpen_of_noTicket hlot (hdown hroom) (not_grants_of_unseeded hunseeded)) hheld hnone
      rwa [hunseeded] at h
    case ticket =>
      obtain ⟨hheld, hnone, _⟩ := attemptFailed_of_noTicket hloading
      have h := exec_pickerAssign_fails hs hp hk hroute hneeds hclaim (tryOpen_of_noTicket hlot (hdown hroom) hgrants)
        hheld hnone
      rwa [Option.isSome_iff_ne_none.mpr hseeded] at h
    case record =>
      obtain ⟨hheld, hnone, _⟩ := returned
      exact exec_pickerAssign_fails hs hp hk hroute hneeds hclaim
        (tryOpen_of_noRecord hlot (hdown hroom) hgrants hrecords) hheld hnone
    case lot =>
      obtain ⟨w, hw⟩ := picker_refuseLot_same p k lot (s.reserved p)
      rw [State.picker_reserved_same] at hw
      exact exec_pickerAssign_fails hs hp hk hroute hneeds hclaim
        (tryOpen_of_lotRefused hlot (hdown hroom) hgrants hrecords hfloor husable) (by rw [hw]; rfl) (by rw [hw]; exact hloading)

end Sys2Proof.Machine
end

section
namespace Sys2Proof.Machine

/-! ### The frame a transmitter takes (R161, R168) -/

theorem gateFrame_eq (f : Frame) (c : Option StationClass) (s : State) :
    ∃ g n, gateFrame f c s = (g, s.onCounters n) ∧ (g = f ∨ g = withValue f 0) := by
  unfold gateFrame
  split
  · exact ⟨_, _, rfl, .inr rfl⟩
  · exact ⟨f, id, rfl, .inl rfl⟩

/-- R168: a frame leaves as it was taken or with value 0; the queues are left alone. -/
theorem startSending_eq (f : Frame) (c : Option StationClass) (s : State) : ∃ g n,
    startSending f c s = s.onLine (fun l => { l with counters := n, fSending := some g }) ∧ (g = f ∨ g = withValue f 0) := by
  obtain ⟨g, n, heq, hg⟩ := gateFrame_eq f c s
  exact ⟨g, n s.line.counters, by rw [startSending, heq]; rfl, hg⟩

/-- R161: the Own queue down and the overflow list when a frame has been taken. -/
theorem takeOwnDown_eq (e : OwnDown) (l : Line) : takeOwnDown e l = { l with
    ownDown := l.ownDown.erase e ++ (if l.ownDown.length = 8 then l.overflow.take 1 else [])
    overflow := if l.ownDown.length = 8 then l.overflow.drop 1 else l.overflow } := by
  unfold takeOwnDown
  dsimp only
  split
  · rename_i hfull
    replace hfull : l.ownDown.length = 8 := hfull
    rw [if_pos hfull, if_pos hfull]
    split <;> rename_i h <;> simp [h]
  · rename_i hfull
    replace hfull : ¬l.ownDown.length = 8 := hfull
    rw [if_neg hfull, if_neg hfull, List.append_nil]

section
variable {s : State} (hsending : s.line.fSending = none) (hpoll : s.line.poll = none)
include hsending hpoll

theorem exec_fPortTransmit_idle : exec .fPortTransmit s = .next (transmitDown s) :=
  congrArg Host.Outcome.next (if_pos (by simp [hsending, hpoll]))

/-- R168, rule 1: a safety frame is taken first. -/
theorem exec_fPortTransmit_safety {e : OwnDown} (h : s.line.ownDown.find? OwnDown.safety = some e) :
    exec .fPortTransmit s = .next (startSending e.frame none (s.onLine (takeOwnDown e))) := by
  rw [exec_fPortTransmit_idle hsending hpoll]
  simp only [transmitDown, Line.chooseDown, h]

/-- R168, rule 2: an own frame is taken while the own run has not reached 3 or no Forward frame waits. -/
theorem exec_fPortTransmit_own {e : OwnDown} {rest : List OwnDown} (hsafety : s.line.ownDown.find? OwnDown.safety = none)
    (h : s.line.ownDown = e :: rest) (hrun : s.line.forwardDown = [] ∨ s.line.runDown ≠ 3) :
    exec .fPortTransmit s = .next (startSending e.frame none (s.onLine fun l =>
      { takeOwnDown e l with runDown := nextRun (!l.forwardDown.isEmpty) l.runDown })) := by
  have hchoice : s.line.chooseDown = .own e := by
    unfold Line.chooseDown
    rw [hsafety, h]
    cases hforward : s.line.forwardDown with
    | nil => rfl
    | cons g more => exact if_neg (hrun.resolve_left (by simp [hforward]))
  rw [exec_fPortTransmit_idle hsending hpoll]
  simp only [transmitDown, hchoice]

/-- R168, rule 2: a Forward frame is taken where no own frame waits or the own run has reached 3. -/
theorem exec_fPortTransmit_forward {e : DownFrame} {rest : List DownFrame}
    (hsafety : s.line.ownDown.find? OwnDown.safety = none) (h : s.line.forwardDown = e :: rest)
    (hrun : s.line.ownDown = [] ∨ s.line.runDown = 3) : exec .fPortTransmit s =
      .next (startSending e.frame e.cls (s.onLine fun l => { l with forwardDown := l.forwardDown.drop 1, runDown := 0 })) := by
  have hchoice : s.line.chooseDown = .forward e := by
    unfold Line.chooseDown
    rw [hsafety, h]
    cases hown : s.line.ownDown with
    | nil => rfl
    | cons g more => exact if_pos (hrun.resolve_left (by simp [hown]))
  rw [exec_fPortTransmit_idle hsending hpoll]
  simp only [transmitDown, hchoice]

theorem exec_fPortTransmit_nothing (hown : s.line.ownDown = []) (hforward : s.line.forwardDown = []) :
    exec .fPortTransmit s = .next s := by
  rw [exec_fPortTransmit_idle hsending hpoll]
  simp [transmitDown, Line.chooseDown, hown, hforward]

end

/-! ### The end of a transmission (R168, R169) -/

theorem exec_fPortTransmit_busy {s : State} (h : s.line.fSending ≠ none ∨ s.line.poll ≠ none) :
    exec .fPortTransmit s = .next s := by
  refine congrArg Host.Outcome.next (if_neg ?_)
  rintro ⟨hsending, hpoll⟩
  exact h.elim (· (Option.isNone_iff_eq_none.mp hsending)) (· (Option.isNone_iff_eq_none.mp hpoll))

theorem opensWindow_iff (f : Frame) : opensWindow f = true ↔ f.kind = .poll ∧ f.dest ≠ 0 := by
  simp [opensWindow]

section
variable {s : State} {f : Frame} (hsending : s.line.fSending = some f)
include hsending

theorem exec_pollWindowOpen_eq : exec .pollWindowOpen s = .next (if opensWindow f = true then s.onLine fun l =>
    { l with
      fSending := none
      poll := some { station := f.dest, channel := f.channel, source := f.src, opened := s.now,
                     window := l.settings.replyWindow } }
    else s) := by
  change execPollWindowOpen s = _
  unfold execPollWindowOpen
  rw [hsending]

theorem exec_fPortTransmissionEnd_eq : exec .fPortTransmissionEnd s =
    .next (if opensWindow f = true then s else s.onLine fun l => { l with fSending := none }) := by
  change execFPortTransmissionEnd s = _
  unfold execFPortTransmissionEnd
  rw [hsending]

end

theorem exec_noReplyPoll_eq {s : State} {p : Poll} (h : s.line.poll = some p) : exec .noReplyPoll s =
    .next ((s.counts fun c => { c with noReplyPolls := saturate c.noReplyPolls }).onLine fun l => { l with poll := none }) := by
  change execNoReplyPoll s = _
  unfold execNoReplyPoll
  simp only [h, saturate_eq]
  rfl

/-! ### A safety frame queued (R161) -/

/-- R161, step 2: a safety frame to its station and channel waits and takes its value. -/
theorem queueSafety_of_waiting {f : Frame} {s : State}
    (h : ∃ e ∈ (s.line.ownDown.filter fun e => e.safety || !sameAddress f e) ++ s.line.overflow,
      e.safety = true ∧ sameAddress f e = true) :
    (queueSafety f s).line = { s.line with
      ownDown := (s.line.ownDown.filter fun e => e.safety || !sameAddress f e).map (takeValue f)
      overflow := s.line.overflow.map (takeValue f) } := by
  refine if_pos ?_
  rw [← List.any_append, List.any_eq_true]
  simpa using h

/-- R161, steps 3 and 4: none waits, and the frame joins the queue, or at 8 frames the overflow list. -/
theorem queueSafety_of_new {f : Frame} {s : State}
    (h : ∀ e ∈ (s.line.ownDown.filter fun e => e.safety || !sameAddress f e) ++ s.line.overflow,
      e.safety = false ∨ sameAddress f e = false) :
    let kept := s.line.ownDown.filter fun e => e.safety || !sameAddress f e
    let entry : OwnDown := { frame := f, safety := true, injected := false }
    (kept.length < 8 → (queueSafety f s).line = { s.line with ownDown := kept ++ [entry] }) ∧
      (8 ≤ kept.length →
        (queueSafety f s).line = { s.line with ownDown := kept, overflow := s.line.overflow ++ [entry] }) := by
  suffices hnone : _ from ⟨fun hroom => (if_neg hnone).trans (if_pos hroom),
    fun hfull => (if_neg hnone).trans (if_neg (Nat.not_lt.mpr hfull))⟩
  rw [← List.any_append, List.any_eq_true]
  rintro ⟨e, he, hmatch⟩
  obtain ⟨hsafety, haddress⟩ := Bool.and_eq_true_iff.mp hmatch
  rcases h e he with hno | hno <;> simp [hno] at hsafety haddress

/-- R39, R40: what an entry to Held queues for the picker's FeedDrive. -/
theorem enterHeld_queues {s : State} {p : PickerId} {st : Nat} (hst : s.bound .feedDrive (.picker p) = some st) :
    ∃ u, u.line = s.line ∧ (enterHeld p s).line = (queueSafety (ownCommand st 0) u).line := by
  obtain ⟨g, hg⟩ := latch_eq_onNotice (srcHeld p) (s.onPicker p fun r => { r with state := .held })
  refine ⟨(s.onPicker p fun r => { r with state := .held }).onNotice g, rfl, ?_⟩
  rw [enterHeld, hg, feedStop, safetyCommand, State.onNotice_bound_keep, State.onPicker_bound_keep, hst]

/-- R40, R56: what a Picker Hold queues for the picker's FeedDrive. -/
theorem exec_pickerHold_queues {s : State} {f : Frame} {i : Nat} {p : PickerId} {st : Nat} (hs : s.serves f (.pickerHold i))
    (hp : pickerOf i = some p) (hrunning : (s.picker p).state = .running)
    (hst : s.bound .feedDrive (.picker p) = some st) : ∃ t u, exec .pickerHold s = .next t ∧ u.line = s.line ∧
      t.line.ownDown = (queueSafety (ownCommand st 0) u).line.ownDown ∧
      t.line.overflow = (queueSafety (ownCommand st 0) u).line.overflow := by
  have hstate : ((onReasons p (fun h => { h with operator := true }) s).picker p).state = .running := by
    rw [onReasons, State.picker_onPicker_same]
    exact hrunning
  obtain ⟨u, hu, hqueues⟩ := enterHeld_queues (s := onReasons p (fun h => { h with operator := true }) s) hst
  refine ⟨_, u, exec_pickerHold hs hp, hu, ?_⟩
  rw [holdIfRunning_of_running hstate, ← hqueues]
  exact ⟨rfl, rfl⟩

/-- Settles O14: each choice of the transmitter is an equation of `exec .fPortTransmit`, with the frame it sends
(`startSending_eq`) and the queue it leaves (`takeOwnDown_eq`); a safety frame's entry is `queueSafety_of_waiting` or
`queueSafety_of_new`. -/
theorem transmitDownAndPoll : Obligations.TransmitDownAndPoll := by
  unfold Obligations.TransmitDownAndPoll
  refine ⟨fun s hsending hpoll => ⟨fun hown hforward => ?nothing, fun e hsafety => ?safety,
      fun e rest hsafety hown hrun => ?own, fun e rest hsafety hforward hrun => ?forward⟩,
    fun s => ⟨fun hbusy => ?busy, fun f hsending hkind hdest => ?poll, fun f hsending hother => ?other,
      fun p hpoll => ?noReply⟩,
    fun s f i p st hs hp hrunning hst => ?hold⟩
  case nothing => exact exec_fPortTransmit_nothing hsending hpoll hown hforward
  case safety =>
    obtain ⟨g, n, heq, hg⟩ := startSending_eq e.frame none (s.onLine (takeOwnDown e))
    refine ⟨_, g, exec_fPortTransmit_safety hsending hpoll hsafety, ?_⟩
    rw [heq, State.onLine_line, State.onLine_line, takeOwnDown_eq]
    exact ⟨rfl, hg, rfl, rfl, rfl, rfl⟩
  case own =>
    obtain ⟨g, n, heq, hg⟩ := startSending_eq e.frame none (s.onLine fun l =>
      { takeOwnDown e l with runDown := nextRun (!l.forwardDown.isEmpty) l.runDown })
    refine ⟨_, g, exec_fPortTransmit_own hsending hpoll hsafety hown hrun, ?_⟩
    rw [heq, State.onLine_line, State.onLine_line, takeOwnDown_eq]
    refine ⟨rfl, hg, rfl, ?_, ?_, rfl⟩
    · cases s.line.forwardDown <;> rfl
    · rw [hown, List.erase_cons_head]
  case forward =>
    obtain ⟨g, n, heq, hg⟩ := startSending_eq e.frame e.cls
      (s.onLine fun l => { l with forwardDown := l.forwardDown.drop 1, runDown := 0 })
    refine ⟨_, g, exec_fPortTransmit_forward hsending hpoll hsafety hforward hrun, ?_⟩
    rw [heq, State.onLine_line, State.onLine_line, hforward]
    exact ⟨rfl, hg, rfl, rfl, rfl, rfl⟩
  case busy => exact exec_fPortTransmit_busy hbusy
  case poll =>
    have hopens := (opensWindow_iff f).mpr ⟨hkind, hdest⟩
    rw [exec_fPortTransmissionEnd_eq hsending, exec_pollWindowOpen_eq hsending, if_pos hopens, if_pos hopens]
    exact ⟨rfl, rfl⟩
  case other =>
    have hopens : ¬opensWindow f = true := by rw [opensWindow_iff]; tauto
    rw [exec_fPortTransmissionEnd_eq hsending, exec_pollWindowOpen_eq hsending, if_neg hopens, if_neg hopens]
    exact ⟨rfl, rfl⟩
  case noReply =>
    rw [exec_noReplyPoll_eq hpoll]
    rfl
  case hold =>
    obtain ⟨t, u, hexec, hline, hdown, hoverflow⟩ := exec_pickerHold_queues hs hp hrunning hst
    refine ⟨t, hexec, ?_⟩
    rw [hdown, hoverflow, ← hline]
    refine ⟨fun hwaits => ?_, fun hnew => ?_⟩
    · rw [queueSafety_of_waiting (f := ownCommand st 0) hwaits]
      exact ⟨rfl, rfl⟩
    · obtain ⟨hjoins, hoverflows⟩ := queueSafety_of_new (f := ownCommand st 0) hnew
      refine ⟨fun hroom => ?_, fun hfull => ?_⟩
      · rw [hjoins hroom]
        exact ⟨rfl, rfl⟩
      · rw [hoverflows hfull]
        exact ⟨rfl, rfl⟩

end Sys2Proof.Machine
end

section
namespace Sys2Proof.Machine

/-! ### Fields read past other fields -/

theorem natAt_past_fieldNat {n v offset width : Nat} (rest : List Byte) (h : n ≤ offset) :
    natAt (fieldNat n v ++ rest) offset width = natAt rest (offset - n) width := by
  have hskip := natAt_skip (fieldNat n v) rest (offset - n) width
  rwa [fieldNat_length, Nat.add_sub_cancel' h] at hskip

theorem natAt_past_fieldInt {n offset width : Nat} {v : Int} (rest : List Byte) (h : n ≤ offset) :
    natAt (fieldInt n v ++ rest) offset width = natAt rest (offset - n) width := by
  have hskip := natAt_skip (fieldInt n v) rest (offset - n) width
  rwa [fieldInt_length, Nat.add_sub_cancel' h] at hskip

theorem intAt_past_fieldNat {n v offset width : Nat} (rest : List Byte) (h : n ≤ offset) :
    intAt (fieldNat n v ++ rest) offset width = intAt rest (offset - n) width := by
  have hskip := intAt_skip (fieldNat n v) rest (offset - n) width
  rwa [fieldNat_length, Nat.add_sub_cancel' h] at hskip

theorem intAt_past_fieldInt {n offset width : Nat} {v : Int} (rest : List Byte) (h : n ≤ offset) :
    intAt (fieldInt n v ++ rest) offset width = intAt rest (offset - n) width := by
  have hskip := intAt_skip (fieldInt n v) rest (offset - n) width
  rwa [fieldInt_length, Nat.add_sub_cancel' h] at hskip

/-- A field that ends the bytes is read back. -/
theorem natAt_last {n v : Nat} (h : v < 256 ^ n) : natAt (fieldNat n v) 0 n = v := by
  have hfield := natAt_zero [] h
  rwa [List.append_nil] at hfield

theorem intAt_two {v : Int} (rest : List Byte) (low : -32768 ≤ v) (high : v < 32768) : intAt (fieldInt 2 v ++ rest) 0 2 = v :=
  intAt_zero rest (by decide) low high

/-! ### The entries a content spells (R37, R83, R108, R164) -/

theorem parsePickerConfig_fields {quiet limit route : Nat} (hquiet : quiet < 65536) (hlimit : limit < 65536)
    (hroute : route < 256) : parsePickerConfig (fieldNat 2 quiet ++ fieldNat 2 limit ++ fieldNat 1 route) =
      if 2 ≤ quiet ∧ quiet ≤ 60 ∧ 10 ≤ limit ∧ limit ≤ 600 ∧ quiet < limit ∧ route < 64 then
        some { quiet := quiet, limit := limit, route := BitVec.ofNat 6 route }
      else none := by
  simp (disch := omega) only [parsePickerConfig, List.append_assoc, natAt_zero, natAt_past_fieldNat, natAt_last, Nat.reduceSub]
  refine if_congr ?_ rfl rfl
  simp only [within, Bool.and_eq_true, decide_eq_true_eq]
  omega

theorem parsePressConfig_fields {target minimum tare quiet compress tie eject window : Nat} (htarget : target < 4294967296)
    (hminimum : minimum < 4294967296) (htare : tare < 65536) (hquiet : quiet < 65536) (hcompress : compress < 65536)
    (htie : tie < 65536) (heject : eject < 65536) (hwindow : window < 65536) :
    parsePressConfig (fieldNat 4 target ++ fieldNat 4 minimum ++ fieldNat 2 tare ++ fieldNat 2 quiet ++ fieldNat 2 compress ++
        fieldNat 2 tie ++ fieldNat 2 eject ++ fieldNat 2 window) =
      if 200 ≤ target ∧ target ≤ 10000 ∧ minimum ≤ target ∧ tare ≤ 2000 ∧ 1 ≤ quiet ∧ quiet ≤ 30 ∧ 5 ≤ compress ∧
          compress ≤ 300 ∧ 5 ≤ tie ∧ tie ≤ 300 ∧ 5 ≤ eject ∧ eject ≤ 300 ∧ 2 ≤ window ∧ window ≤ 60 then
        some { target := target, minimum := minimum, tare := tare, quiet := quiet, compressTimeout := compress,
               tieTimeout := tie, ejectTimeout := eject, weighWindow := window }
      else none := by
  simp (disch := omega) only [parsePressConfig, List.append_assoc, natAt_zero, natAt_past_fieldNat, natAt_last, Nat.reduceSub]
  refine if_congr ?_ rfl rfl
  simp only [pressConfigOk, within, Bool.and_eq_true, decide_eq_true_eq]
  omega

theorem parseLineSettings_fields {broadcast window : Nat} (hbroadcast : broadcast < 256) (hwindow : window < 65536) :
    parseLineSettings (fieldNat 1 broadcast ++ fieldNat 2 window) =
      if (broadcast = 1 ∨ broadcast = 2) ∧ 2 ≤ window ∧ window ≤ 50 then
        some { broadcastPass := decide (broadcast = 2), replyWindow := window }
      else none := by
  simp (disch := omega) only [parseLineSettings, natAt_zero, natAt_past_fieldNat, natAt_last, Nat.reduceSub]
  refine if_congr ?_ rfl rfl
  simp only [isChoice, within, Bool.and_eq_true, decide_eq_true_eq]
  omega

theorem pressOf_eq_some_iff {n : Nat} {b : PressId} : pressOf n = some b ↔ n = pressIndex b + 1 := by
  unfold pressOf
  split <;> cases b <;> simp_all [pressIndex]

theorem parseKilnConfig_fields {sched pile capacity yield moisture fan refresh drop wait action period : Nat} {hold top : Int}
    (hsched : sched < 256) (hpile : pile < 256) (hcapacity : capacity < 4294967296) (hyield : yield < 65536)
    (hmoisture : moisture < 65536) (hfan : fan < 256) (hrefresh : refresh < 65536) (hdrop : drop < 65536)
    (hwait : wait < 65536) (haction : action < 256) (hperiod : period < 65536) (hhold : -32768 ≤ hold) (hhold' : hold < 32768)
    (htop : -32768 ≤ top) (htop' : top < 32768) :
    parseKilnConfig (fieldNat 1 sched ++ fieldNat 1 pile ++ fieldNat 4 capacity ++ fieldNat 2 yield ++ fieldNat 2 moisture ++
        fieldInt 2 hold ++ fieldInt 2 top ++ fieldNat 1 fan ++ fieldNat 2 refresh ++ fieldNat 2 drop ++ fieldNat 2 wait ++
        fieldNat 1 action ++ fieldNat 2 period) =
      if 1 ≤ sched ∧ sched ≤ 8 ∧ (pile = 1 ∨ pile = 2) ∧ 1000 ≤ capacity ∧ capacity ≤ 50000 ∧ 100 ≤ yield ∧ yield ≤ 400 ∧
          moisture ≤ 1000 ∧ 0 ≤ hold ∧ hold ≤ top ∧ top ≤ 1500 ∧ fan ≤ 100 ∧ 5 ≤ refresh ∧ refresh ≤ 60 ∧ 30 ≤ drop ∧
          drop ≤ 900 ∧ (wait = 0 ∨ (60 ≤ wait ∧ wait ≤ 7200)) ∧ (action = 1 ∨ action = 2) ∧ 2 ≤ period ∧ period ≤ 120 then
        some { schedule := sched, pile := if pile = 1 then .b1 else .b2, capacity := capacity, nominalYield := yield,
               moistureTarget := moisture, holdSetpoint := hold, maxSetpoint := top, purgeFan := fan, refresh := refresh,
               dropTimeout := drop, awaitingLimit := wait, bandAction := if action = 1 then .notice else .hold,
               renewalPeriod := period }
      else none := by
  simp (disch := omega) only [parseKilnConfig, List.append_assoc, natAt_zero, natAt_past_fieldNat, natAt_past_fieldInt,
    intAt_past_fieldNat, intAt_past_fieldInt, intAt_two, natAt_last, Nat.reduceSub]
  split
  · rename_i hnone
    have hpile : ¬(pile = 1 ∨ pile = 2) := by
      rintro (rfl | rfl) <;> simp [pressOf] at hnone
    exact (if_neg (by tauto)).symm
  · rename_i b hb
    have hb' : (if pile = 1 then PressId.b1 else .b2) = b ∧ (pile = 1 ∨ pile = 2) := by
      rw [pressOf_eq_some_iff] at hb
      subst hb
      cases b <;> simp [pressIndex]
    rw [hb'.1]
    refine if_congr ?_ rfl rfl
    simp only [kilnConfigOk, isChoice, within, Bool.and_eq_true, Bool.or_eq_true, decide_eq_true_eq, beq_iff_eq]
    omega

end Sys2Proof.Machine
end

section
namespace Sys2Proof.Machine

/-! ### Plain writes (R177, R178) -/

theorem State.kiln_congr {s t : State} (h : t.kilns = s.kilns) (k : KilnId) : t.kiln k = s.kiln k := by
  cases k <;> simp only [State.kiln, h]

theorem State.press_congr {s t : State} (h : t.presses = s.presses) (b : PressId) : t.press b = s.press b := by
  cases b <;> simp only [State.press, h]

theorem discardStaging_of_closed {s : State} (h : s.agent.staging = none) : discardStaging s = s := if_neg (by simp [h])

theorem discardStaging_of_open {s : State} (h : s.agent.staging ≠ none) :
    discardStaging s = latch srcStagingDiscarded (s.onAgent fun a => { a with staging := none }) :=
  if_pos (Option.isSome_iff_ne_none.mpr h)

/-- R177: a plain write that its tests refuse. -/
theorem exec_tableWritePlain_refused {s : State} {f : Frame} {tn i : Nat} {content : List Byte} {r : ResultCode}
    (hs : s.serves f (.tableWritePlain tn i content))
    (h : tableWritePlain tn i content s = refused r (discardStaging s)) :
    exec .tableWritePlain s = .next ((discardStaging s).reply f (.refuse r)) := by
  obtain ⟨g, hg⟩ := discardStaging_eq s
  exact congrArg Host.Outcome.next (serve_eq_reply hs h (by rw [hg]; rfl))

/-- R177: a plain write that takes effect. -/
theorem exec_tableWritePlain_taken {s t : State} {f : Frame} {tn i : Nat} {content : List Byte} {table : TableId}
    (hs : s.serves f (.tableWritePlain tn i content)) (htable : tableOf tn = some table)
    (h : plainWrite table i content (discardStaging s) = .taken t) (hu : t.line.ownUp = s.line.ownUp) :
    exec .tableWritePlain s = .next ((countWrite table i t).reply f (.done [])) := by
  have hrun : tableWritePlain tn i content s = some (some (.done []), countWrite table i t) := by
    simp only [tableWritePlain, htable, h, replied]
  exact congrArg Host.Outcome.next (serve_eq_reply hs hrun hu)

/-- R177, R178: what a plain write leaves but for the entry: its Reply, its count raised, and the staging closed. -/
def State.plainWritten (s t : State) (f : Frame) (table : TableId) (i : Nat) : Prop :=
  s.answeredAs t f (.done []) ∧ t.writeCount table i = (s.writeCount table i + 1) % 256 ∧
    (∀ u j, countKey u j ≠ countKey table i → t.writeCount u j = s.writeCount u j) ∧
    t.agent.staging = none ∧ (s.agent.staging ≠ none → t.latchedNow 2) ∧ (s.agent.staging = none → t.notice = s.notice) ∧
    t = { s with agent := t.agent, notice := t.notice, line := t.line, pickers := t.pickers, kilns := t.kilns,
                 presses := t.presses }

/-- An entry replaced: a change of the units and the line that queues no frame for the host. -/
def ReplacesEntry (e : State → State) : Prop :=
  ∀ s, e s = { s with line := (e s).line, pickers := (e s).pickers, kilns := (e s).kilns, presses := (e s).presses } ∧
    (e s).line.ownUp = s.line.ownUp

/-- R176, R177, R178: a plain write replaces its entry in the state the staging is discarded from. -/
theorem exec_tableWritePlain_written {s : State} {f : Frame} {tn i : Nat} {content : List Byte} {table : TableId}
    {e : State → State} (hs : s.serves f (.tableWritePlain tn i content)) (htable : tableOf tn = some table)
    (he : ReplacesEntry e) (h : plainWrite table i content (discardStaging s) = .taken (e (discardStaging s))) :
    ∃ t d, exec .tableWritePlain s = .next t ∧ s.plainWritten t f table i ∧ d.pickers = s.pickers ∧ d.kilns = s.kilns ∧
      d.presses = s.presses ∧ d.line = s.line ∧ t.pickers = (e d).pickers ∧ t.kilns = (e d).kilns ∧
      t.presses = (e d).presses ∧ t.line.settings = (e d).line.settings := by
  obtain ⟨hframe, hup⟩ := he (discardStaging s)
  obtain ⟨g, hg⟩ := discardStaging_eq s
  have hagent : (e (discardStaging s)).agent = { s.agent with staging := none } := by rw [hframe, hg]; rfl
  have hnotice : (e (discardStaging s)).notice = (discardStaging s).notice := by rw [hframe]
  have hcounts (u : TableId) (j : Nat) : (e (discardStaging s)).writeCount u j = s.writeCount u j := by
    rw [State.writeCount, hagent, State.writeCount]
  refine ⟨_, discardStaging s, exec_tableWritePlain_taken hs htable h (hup.trans (by rw [hg]; rfl)),
    ⟨⟨?up, ?requests⟩, ?count, fun u j hj => ?others, ?staging, fun hopen => ?latched, fun hclosed => ?notice, ?frame⟩,
    by rw [hg]; rfl, by rw [hg]; rfl, by rw [hg]; rfl, by rw [hg]; rfl, rfl, rfl, rfl, rfl⟩
  case up =>
    change (e (discardStaging s)).line.ownUp ++ _ = _
    rw [hup, hg]
    rfl
  case requests =>
    change (e (discardStaging s)).agent.requests.drop 1 = _
    rw [hagent]
  case count =>
    rw [← hcounts]
    exact tableGet_tableSet_self 0 _ _ _
  case others =>
    rw [← hcounts]
    exact congrArg (Option.getD · 0) (tableGet_tableSet_of_ne 0 _ _ (Ne.symm hj))
  case staging =>
    change (e (discardStaging s)).agent.staging = none
    rw [hagent]
  case latched =>
    change (e (discardStaging s)).notice.latched.getLsbD 2 = true
    rw [hnotice, discardStaging_of_open hopen]
    exact latchedNow_latch srcStagingDiscarded _ (by decide)
  case notice =>
    change (e (discardStaging s)).notice = s.notice
    rw [hnotice, discardStaging_of_closed hclosed]
  case frame =>
    rw [hframe, hg]
    rfl

/-- R178: what a refused plain write leaves: its Reply, and the staging closed, with StagingDiscarded where it was open. -/
def State.plainRefused (s t : State) (f : Frame) (r : ResultCode) : Prop :=
  s.answeredAs t f (.refuse r) ∧ (s.agent.staging = none → t = s.reply f (.refuse r)) ∧
    (s.agent.staging ≠ none → s.notice.claimed t.notice 2 ∧
      t = ({ s with agent := { s.agent with staging := none }, notice := t.notice } : State).reply f (.refuse r))

theorem plainRefused_discardStaging (s : State) (f : Frame) (r : ResultCode) :
    s.plainRefused ((discardStaging s).reply f (.refuse r)) f r := by
  obtain ⟨g, hg⟩ := discardStaging_eq s
  refine ⟨?_, fun hclosed => by rw [discardStaging_of_closed hclosed], fun hopen => ⟨?_, ?_⟩⟩
  · rw [hg]
    exact ⟨rfl, rfl⟩
  · rw [discardStaging_of_open hopen]
    exact latch_claimed (by decide) (s.onAgent fun a => { a with staging := none })
  · rw [hg]
    rfl

section
variable {s : State} {f : Frame} {tn i : Nat} {content : List Byte} (hs : s.serves f (.tableWritePlain tn i content))
include hs

theorem exec_tableWritePlain_refuses {table : TableId} {r : ResultCode} (htable : tableOf tn = some table)
    (h : plainWrite table i content (discardStaging s) = .refused r) :
    ∃ t, exec .tableWritePlain s = .next t ∧ s.plainRefused t f r :=
  ⟨_, exec_tableWritePlain_refused hs (by simp only [tableWritePlain, htable, h]), plainRefused_discardStaging s f r⟩

theorem exec_tableWritePlain_noTable (htable : tableOf tn = none) :
    ∃ t, exec .tableWritePlain s = .next t ∧ s.plainRefused t f .badArgument :=
  ⟨_, exec_tableWritePlain_refused hs (by simp only [tableWritePlain, htable]), plainRefused_discardStaging s f .badArgument⟩

end

/-! ### The tests of a plain write (R177) -/

section
variable {i : Nat} {content : List Byte} {s : State}

theorem plainWrite_station_of_bad (h : i < 2 ∨ 126 < i ∨ parseStation content [] = none) :
    plainWrite .station i content s = .refused .badArgument := by
  by_cases hi : isStation i = true
  · have hrange : 2 ≤ i ∧ i ≤ 126 := by simpa [isStation] using hi
    have hparse : parseStation content [] = none := by
      rcases h with h | h | h
      · omega
      · omega
      · exact h
    simp only [plainWrite, if_pos hi, writeStation, hparse]
  · exact if_neg hi

theorem plainWrite_station (hlow : 2 ≤ i) (hhigh : i ≤ 126) {e : StationEntry} (hparse : parseStation content [] = some e) :
    plainWrite .station i content s = if s.bindsTwice i e then .refused .badArgument
      else if s.stationLocked i e then .refused .locked else .taken (commitStation i e s) := by
  simp only [plainWrite, if_pos (isStation_of_range hlow hhigh), hparse, writeStation]

theorem plainWrite_picker_of_bad (h : pickerOf i = none ∨ parsePickerConfig content = none) :
    plainWrite .pickerConfig i content s = .refused .badArgument := by
  cases hp : pickerOf i with
  | none => simp only [plainWrite, hp, writeUnit]
  | some p => simp only [plainWrite, hp, writeUnit, h.resolve_left (by simp [hp]), writeTaken]

theorem plainWrite_kiln_of_bad (h : kilnOf i = none ∨ parseKilnConfig content = none) :
    plainWrite .kilnConfig i content s = .refused .badArgument := by
  cases hk : kilnOf i with
  | none => simp only [plainWrite, hk, writeUnit]
  | some k => simp only [plainWrite, hk, writeUnit, h.resolve_left (by simp [hk]), writeKilnConfig]

theorem plainWrite_kiln {k : KilnId} {c : KilnConfig} (hk : kilnOf i = some k) (hc : parseKilnConfig content = some c) :
    plainWrite .kilnConfig i content s =
      if s.permitHolds k then .refused .locked else .taken (s.onKiln k fun r => { r with config := c }) := by
  simp only [plainWrite, hk, writeUnit, hc, writeKilnConfig]

theorem plainWrite_press_of_bad (h : pressOf i = none ∨ parsePressConfig content = none) :
    plainWrite .pressConfig i content s = .refused .badArgument := by
  cases hb : pressOf i with
  | none => simp only [plainWrite, hb, writeUnit]
  | some b => simp only [plainWrite, hb, writeUnit, h.resolve_left (by simp [hb]), writeTaken]

theorem plainWrite_watch_of_bad (h : i < 1 ∨ 24 < i ∨ parseWatch content = none) :
    plainWrite .watch i content s = .refused .badArgument := by
  by_cases hi : isWatch i = true
  · have hrange : 1 ≤ i ∧ i ≤ 24 := by simpa [isWatch] using hi
    have hparse : parseWatch content = none := by
      rcases h with h | h | h
      · omega
      · omega
      · exact h
    simp only [plainWrite, if_pos hi, hparse, writeTaken]
  · exact if_neg hi

theorem plainWrite_settings_of_bad (h : i ≠ 1 ∨ parseLineSettings content = none) :
    plainWrite .lineSettings i content s = .refused .badArgument := by
  by_cases hi : i = 1
  · simp only [plainWrite, if_pos hi, h.resolve_left (not_not.mpr hi), writeTaken]
  · exact if_neg hi

theorem permitHolds_iff (s : State) (k : KilnId) :
    s.permitHolds k = true ↔ (s.kiln k).permit.state = .staged ∨ (s.kiln k).permit.state = .live := by
  simp [State.permitHolds]

theorem permitHolds_discardStaging (s : State) (k : KilnId) : (discardStaging s).permitHolds k = s.permitHolds k := by
  obtain ⟨g, hg⟩ := discardStaging_eq s
  rw [hg]
  cases k <;> rfl

theorem tableOf_eq_none {n : Nat} (h : n = 0 ∨ 7 < n) : tableOf n = none := by
  rcases h with rfl | h
  · rfl
  · obtain ⟨m, rfl⟩ : ∃ m, n = m + 8 := ⟨n - 8, by omega⟩
    rfl

end

/-- Settles O26. The contents are read field by field (`parseKilnConfig_fields` and its fellows); a write that takes effect is
`exec_tableWritePlain_written` for the replacement of its entry, and a refused one `exec_tableWritePlain_refuses` for the test
that fails. -/
theorem plainWrites : Obligations.PlainWrites := by
  unfold Obligations.PlainWrites
  refine ⟨⟨?picker, ?kiln, ?press, ?settings⟩, fun s f tn i content hs => ?written, fun s f tn i content hs => ?refused⟩
  case picker => exact fun quiet limit route => parsePickerConfig_fields
  case kiln =>
    intro sched pile capacity yield moisture fan refresh drop wait action period hold top
    exact parseKilnConfig_fields
  case press =>
    intro target minimum tare quiet compress tie eject window
    exact parsePressConfig_fields
  case settings => exact fun broadcast window => parseLineSettings_fields
  case written =>
    refine ⟨fun p c htn hp hc => ?picker, fun k c htn hk hc hstaged hlive => ?kiln, fun b c htn hb hc => ?press,
      fun c htn hi hc => ?settings⟩
    case picker =>
      subst htn
      obtain ⟨t, d, hexec, hwritten, hpickers, hkilns, hpresses, hline, htp, htk, htb, htl⟩ :=
        exec_tableWritePlain_written (e := fun s => s.onPicker p fun r => { r with config := c }) hs rfl
          (fun _ => ⟨rfl, rfl⟩) (by simp only [plainWrite, hp, writeUnit, hc, writeTaken])
      refine ⟨t, ⟨hexec, hwritten⟩, htk.trans hkilns, htb.trans hpresses, htl.trans (by rw [← hline]; rfl), ?_, fun q hq => ?_⟩
      · rw [State.picker_congr htp, State.picker_onPicker_same, State.picker_congr hpickers]
      · rw [State.picker_congr htp, State.picker_onPicker_other _ _ _ _ hq, State.picker_congr hpickers]
    case kiln =>
      subst htn
      have hfree : (discardStaging s).permitHolds k = false := by
        rw [permitHolds_discardStaging, Bool.eq_false_iff, Ne, permitHolds_iff]
        exact fun h => h.elim hstaged hlive
      obtain ⟨t, d, hexec, hwritten, hpickers, hkilns, hpresses, hline, htp, htk, htb, htl⟩ :=
        exec_tableWritePlain_written (e := fun s => s.onKiln k fun r => { r with config := c }) hs rfl
          (fun _ => ⟨rfl, rfl⟩) (by rw [plainWrite_kiln hk hc, hfree]; rfl)
      refine ⟨t, ⟨hexec, hwritten⟩, htp.trans hpickers, htb.trans hpresses, htl.trans (by rw [← hline]; rfl), ?_, fun j hj => ?_⟩
      · rw [State.kiln_congr htk, State.kiln_onKiln_same, State.kiln_congr hkilns]
      · rw [State.kiln_congr htk, State.kiln_onKiln_other _ _ _ _ hj, State.kiln_congr hkilns]
    case press =>
      subst htn
      obtain ⟨t, d, hexec, hwritten, hpickers, hkilns, hpresses, hline, htp, htk, htb, htl⟩ :=
        exec_tableWritePlain_written (e := fun s => s.onPress b fun r => { r with config := c }) hs rfl
          (fun _ => ⟨rfl, rfl⟩) (by simp only [plainWrite, hb, writeUnit, hc, writeTaken])
      refine ⟨t, ⟨hexec, hwritten⟩, htp.trans hpickers, htk.trans hkilns, htl.trans (by rw [← hline]; rfl), ?_, fun a ha => ?_⟩
      · rw [State.press_congr htb, State.press_onPress_same, State.press_congr hpresses]
      · rw [State.press_congr htb, State.press_onPress_other _ _ _ _ ha, State.press_congr hpresses]
    case settings =>
      subst htn
      obtain ⟨t, d, hexec, hwritten, hpickers, hkilns, hpresses, hline, htp, htk, htb, htl⟩ :=
        exec_tableWritePlain_written (e := fun s => s.onLine fun l => { l with settings := c }) hs rfl
          (fun _ => ⟨rfl, rfl⟩) (by simp only [plainWrite, if_pos hi, hc, writeTaken])
      exact ⟨t, ⟨hexec, hwritten⟩, htp.trans hpickers, htk.trans hkilns, htb.trans hpresses, htl⟩
  case refused =>
    obtain ⟨g, hg⟩ := discardStaging_eq s
    have hlocks (e : StationEntry) := locks_congr (s := s) (s' := discardStaging s) (by rw [hg]; rfl) (by rw [hg]; rfl) (by rw [hg]; rfl)
      (by rw [hg]; rfl) i e
    refine ⟨fun htn => ?table, fun htn h => ?station, fun e htn hlow hhigh he => ⟨fun htwice => ?twice, fun hnot hlocked => ?lock⟩,
      fun htn h => ?picker, fun htn h => ?kiln, fun k c htn hk hc hholds => ?permit, fun htn h => ?press, fun htn h => ?watch,
      fun htn h => ?settings⟩
    case table =>
      by_cases hschedule : tn = 4
      · exact exec_tableWritePlain_refuses hs (table := .schedule) (by rw [hschedule]; rfl) rfl
      · exact exec_tableWritePlain_noTable hs (tableOf_eq_none (by tauto))
    case station => subst htn; exact exec_tableWritePlain_refuses hs rfl (plainWrite_station_of_bad h)
    case twice =>
      subst htn
      exact exec_tableWritePlain_refuses hs rfl (by rw [plainWrite_station hlow hhigh he, (hlocks e).1, htwice]; rfl)
    case lock =>
      subst htn
      exact exec_tableWritePlain_refuses hs rfl
        (by rw [plainWrite_station hlow hhigh he, (hlocks e).1, (hlocks e).2, hnot, hlocked]; rfl)
    case picker => subst htn; exact exec_tableWritePlain_refuses hs rfl (plainWrite_picker_of_bad h)
    case kiln => subst htn; exact exec_tableWritePlain_refuses hs rfl (plainWrite_kiln_of_bad h)
    case permit =>
      subst htn
      exact exec_tableWritePlain_refuses hs rfl
        (by rw [plainWrite_kiln hk hc, permitHolds_discardStaging, (permitHolds_iff s k).mpr hholds]; rfl)
    case press => subst htn; exact exec_tableWritePlain_refuses hs rfl (plainWrite_press_of_bad h)
    case watch => subst htn; exact exec_tableWritePlain_refuses hs rfl (plainWrite_watch_of_bad h)
    case settings => subst htn; exact exec_tableWritePlain_refuses hs rfl (plainWrite_settings_of_bad h)

end Sys2Proof.Machine
end

section
namespace Sys2Proof.Machine

/-! ### What the Yard Reset moves (R60, R104, R126)

Every operation of the reset takes the units one way: a picker that is Stopped stays so, a kiln keeps its state or leaves
its cycle, and a press in Idle, Paused or Faulted stays in one of these. -/

/-- The kiln states outside a cycle, a drop and a trip. -/
def KilnState.outOfCycle (st : KilnState) : Prop := st = .idle ∨ st = .awaiting ∨ st = .loading ∨ st = .ready

/-- The press states outside a fill, a phase and a weighing. -/
def PressState.rests (st : PressState) : Prop := st = .idle ∨ st = .paused ∨ st = .faulted

/-- What the Yard Reset, its permits already Off, may make of a kiln. -/
structure Kiln.yardMoves (r t : Kiln) : Prop where
  permit : t.permit = .reset
  config : t.config = r.config
  scheduleFlag : t.scheduleFlag = r.scheduleFlag
  holdOff : t.holdOff = r.holdOff
  state : t.state.outOfCycle ∨ (t.state = r.state ∧ t.ring.drop = r.ring.drop)

/-- What the Yard Reset may make of a picker. -/
structure Picker.yardMoves (r t : Picker) : Prop where
  config : t.config = r.config
  feedEnable : t.feedEnable = r.feedEnable
  stopped : r.state = .stopped → t.state = .stopped

/-- What the Yard Reset may make of a press. -/
structure Press.yardMoves (r t : Press) : Prop where
  config : t.config = r.config
  manual : r.auto = false → t.auto = false
  rests : r.state.rests → t.state.rests

/-- What the Yard Reset may make of the units; the watches are kept. -/
structure State.yardMoves (s t : State) : Prop where
  kiln : ∀ k, (s.kiln k).yardMoves (t.kiln k)
  picker : ∀ p, (s.picker p).yardMoves (t.picker p)
  press : ∀ b, (s.press b).yardMoves (t.press b)
  watches : t.watches = s.watches

theorem State.yardMoves.refl {s : State} (h : ∀ k, (s.kiln k).permit = .reset) : s.yardMoves s where
  kiln k := ⟨h k, rfl, rfl, rfl, .inr ⟨rfl, rfl⟩⟩
  picker _ := ⟨rfl, rfl, id⟩
  press _ := ⟨rfl, id, id⟩
  watches := rfl

theorem Kiln.yardMoves.trans {r t u : Kiln} (h : r.yardMoves t) (h' : t.yardMoves u) : r.yardMoves u where
  permit := h'.permit
  config := h'.config.trans h.config
  scheduleFlag := h'.scheduleFlag.trans h.scheduleFlag
  holdOff := h'.holdOff.trans h.holdOff
  state := by
    rcases h'.state with hout | ⟨hstate, hdrop⟩
    · exact .inl hout
    · exact h.state.imp (fun hout => hstate ▸ hout) fun ⟨hs, hd⟩ => ⟨hstate.trans hs, hdrop.trans hd⟩

theorem Picker.yardMoves.trans {r t u : Picker} (h : r.yardMoves t) (h' : t.yardMoves u) : r.yardMoves u where
  config := h'.config.trans h.config
  feedEnable := h'.feedEnable.trans h.feedEnable
  stopped hr := h'.stopped (h.stopped hr)

theorem Press.yardMoves.trans {r t u : Press} (h : r.yardMoves t) (h' : t.yardMoves u) : r.yardMoves u where
  config := h'.config.trans h.config
  manual hr := h'.manual (h.manual hr)
  rests hr := h'.rests (h.rests hr)

theorem State.yardMoves.trans {s t u : State} (h : s.yardMoves t) (h' : t.yardMoves u) : s.yardMoves u where
  kiln k := (h.kiln k).trans (h'.kiln k)
  picker p := (h.picker p).trans (h'.picker p)
  press b := (h.press b).trans (h'.press b)
  watches := h'.watches.trans h.watches

variable {s u : State}

/-- What leaves the units and the watches leaves the moves of the reset. -/
theorem State.yardMoves.of_units {t : State} (h : s.yardMoves u) (hkilns : t.kilns = u.kilns) (hpickers : t.pickers = u.pickers)
    (hpresses : t.presses = u.presses) (hwatches : t.watches = u.watches) : s.yardMoves t where
  kiln k := State.kiln_congr hkilns k ▸ h.kiln k
  picker p := State.picker_congr hpickers p ▸ h.picker p
  press b := State.press_congr hpresses b ▸ h.press b
  watches := hwatches.trans h.watches

/-! #### Updates of the units -/

/-- A kiln update that leaves its mode, its state and its drop. -/
def KeepsCycle (f : Kiln → Kiln) : Prop :=
  ∀ r, (f r).permit = r.permit ∧ (f r).config = r.config ∧ (f r).scheduleFlag = r.scheduleFlag ∧ (f r).holdOff = r.holdOff ∧
    (f r).state = r.state ∧ (f r).ring.drop = r.ring.drop

/-- A picker update that leaves its configuration and its feed. -/
def KeepsFeed (f : Picker → Picker) : Prop := ∀ r, (f r).config = r.config ∧ (f r).feedEnable = r.feedEnable

/-- A press update that leaves its configuration and sets no Auto. -/
def KeepsManual (f : Press → Press) : Prop := ∀ r, (f r).config = r.config ∧ (r.auto = false → (f r).auto = false)

theorem State.yardMoves.onKiln_to (h : s.yardMoves u) (k : KilnId) (f : Kiln → Kiln)
    (hf : (s.kiln k).yardMoves (f (u.kiln k))) : s.yardMoves (u.onKiln k f) where
  kiln j := by
    by_cases hj : j = k
    · subst hj; rwa [State.kiln_onKiln_same]
    · rw [State.kiln_onKiln_other _ _ _ _ hj]; exact h.kiln j
  picker := h.picker
  press := h.press
  watches := h.watches

theorem State.yardMoves.onPicker_to (h : s.yardMoves u) (p : PickerId) (f : Picker → Picker)
    (hf : (s.picker p).yardMoves (f (u.picker p))) : s.yardMoves (u.onPicker p f) where
  kiln := h.kiln
  picker q := by
    by_cases hq : q = p
    · subst hq; rwa [State.picker_onPicker_same]
    · rw [State.picker_onPicker_other _ _ _ _ hq]; exact h.picker q
  press := h.press
  watches := h.watches

theorem State.yardMoves.onPress_to (h : s.yardMoves u) (b : PressId) (f : Press → Press)
    (hf : (s.press b).yardMoves (f (u.press b))) : s.yardMoves (u.onPress b f) where
  kiln := h.kiln
  picker := h.picker
  press c := by
    by_cases hc : c = b
    · subst hc; rwa [State.press_onPress_same]
    · rw [State.press_onPress_other _ _ _ _ hc]; exact h.press c
  watches := h.watches

theorem KeepsCycle.yardMoves {f : Kiln → Kiln} (hf : KeepsCycle f) {r t : Kiln} (h : r.yardMoves t) : r.yardMoves (f t) := by
  obtain ⟨hpermit, hconfig, hflag, hhold, hstate, hdrop⟩ := hf t
  exact ⟨hpermit.trans h.permit, hconfig.trans h.config, hflag.trans h.scheduleFlag, hhold.trans h.holdOff,
    by rw [hstate, hdrop]; exact h.state⟩

theorem State.yardMoves.onKiln (h : s.yardMoves u) (k : KilnId) {f : Kiln → Kiln} (hf : KeepsCycle f) :
    s.yardMoves (u.onKiln k f) := h.onKiln_to k f (hf.yardMoves (h.kiln k))

theorem State.yardMoves.onRing (h : s.yardMoves u) (k : KilnId) {f : Ring → Ring} (hf : ∀ r, (f r).drop = r.drop) :
    s.yardMoves (u.onRing k f) := h.onKiln k fun r => ⟨rfl, rfl, rfl, rfl, rfl, hf r.ring⟩

/-- A kiln may leave its cycle. -/
theorem State.yardMoves.leaveCycle (h : s.yardMoves u) (k : KilnId) {st : KilnState} (hst : st.outOfCycle) :
    s.yardMoves (u.onKiln k fun r => { r with state := st }) :=
  have hk := h.kiln k
  h.onKiln_to k _ ⟨hk.permit, hk.config, hk.scheduleFlag, hk.holdOff, .inl hst⟩

theorem State.yardMoves.onPicker (h : s.yardMoves u) (p : PickerId) {f : Picker → Picker} (hf : KeepsFeed f)
    (hstop : ∀ r, r.state = .stopped → (f r).state = .stopped) : s.yardMoves (u.onPicker p f) :=
  have hp := h.picker p
  h.onPicker_to p f ⟨(hf _).1.trans hp.config, (hf _).2.trans hp.feedEnable, fun hs => hstop _ (hp.stopped hs)⟩

/-- A picker not Stopped as the reset found it may be in any state. -/
theorem State.yardMoves.onPicker_busy (h : s.yardMoves u) (p : PickerId) {f : Picker → Picker}
    (hp : (s.picker p).state ≠ .stopped) (hf : KeepsFeed f) : s.yardMoves (u.onPicker p f) :=
  h.onPicker_to p f ⟨(hf _).1.trans (h.picker p).config, (hf _).2.trans (h.picker p).feedEnable, fun hs => absurd hs hp⟩

theorem State.yardMoves.onPress (h : s.yardMoves u) (b : PressId) {f : Press → Press} (hf : KeepsManual f)
    (hrest : ∀ r, r.state.rests → (f r).state.rests) : s.yardMoves (u.onPress b f) :=
  have hb := h.press b
  h.onPress_to b f ⟨(hf _).1.trans hb.config, fun hs => (hf _).2 (hb.manual hs), fun hs => hrest _ (hb.rests hs)⟩

/-- A press in a fill or a phase as the reset found it may be in any state. -/
theorem State.yardMoves.onPress_busy (h : s.yardMoves u) (b : PressId) {f : Press → Press}
    (hb : ¬(s.press b).state.rests) (hf : KeepsManual f) : s.yardMoves (u.onPress b f) :=
  h.onPress_to b f ⟨(hf _).1.trans (h.press b).config, fun hs => (hf _).2 ((h.press b).manual hs), fun hs => absurd hs hb⟩

theorem State.yardMoves.picker_busy (h : s.yardMoves u) {p : PickerId} (hp : (u.picker p).state ≠ .stopped) :
    (s.picker p).state ≠ .stopped := fun hs => hp ((h.picker p).stopped hs)

theorem State.yardMoves.press_busy (h : s.yardMoves u) {b : PressId} (hb : ¬(u.press b).state.rests) :
    ¬(s.press b).state.rests := fun hs => hb ((h.press b).rests hs)

/-! #### Operations of the line, the store and the lots -/

theorem yardMoves_latch (h : s.yardMoves u) (n : Nat) : s.yardMoves (latch n u) := by
  obtain ⟨g, hg⟩ := latch_eq_onNotice n u
  rw [hg]
  exact h.of_units rfl rfl rfl rfl

theorem yardMoves_safetyCommand (h : s.yardMoves u) (role : Role) (unit : UnitId) (v : Int) :
    s.yardMoves (safetyCommand role unit v u) := by
  obtain ⟨g, hg⟩ := safetyCommand_eq_onLine role unit v u
  rw [hg]
  exact h.of_units rfl rfl rfl rfl

theorem yardMoves_queueDistributor (h : s.yardMoves u) (p : PickerId) (k : KilnId) : s.yardMoves (queueDistributor p k u) := by
  obtain ⟨g, -, hg⟩ := queueDistributor_eq_onLine p k u
  rw [hg]
  exact h.of_units rfl rfl rfl rfl

theorem yardMoves_beltPollTimer (h : s.yardMoves u) (p : PickerId) (fast : Bool) : s.yardMoves (beltPollTimer p fast u) := by
  obtain ⟨g, hg⟩ := beltPollTimer_eq_onChan p fast u
  rw [hg]
  exact h.of_units rfl rfl rfl rfl

theorem yardMoves_onLot (h : s.yardMoves u) (n : Nat) (f : Lot → Lot) : s.yardMoves (u.onLot n f) := by
  obtain ⟨l, hl⟩ := State.onLot_eq_withLots u n f
  rw [hl]
  exact h.of_units rfl rfl rfl rfl

theorem yardMoves_onCharge (h : s.yardMoves u) (n : Nat) (f : Charge → Charge) : s.yardMoves (u.onCharge n f) := by
  obtain ⟨l, hl⟩ := State.onCharge_eq_onPool u n f
  rw [hl]
  exact h.of_units rfl rfl rfl rfl

theorem yardMoves_issueTicket (h : s.yardMoves u) (kind : TicketKind) (lot grower : Nat) (body : TicketBody) :
    s.yardMoves (issueTicket kind lot grower body u) := by
  unfold issueTicket
  split
  · exact h
  · exact h.of_units rfl rfl rfl rfl

theorem yardMoves_settleTest (h : s.yardMoves u) (n : Nat) : s.yardMoves (settleTest n u) := by
  unfold settleTest
  split
  · exact h
  · split
    · exact yardMoves_onLot (yardMoves_issueTicket h _ _ _ _) _ _
    · exact h

theorem yardMoves_grantReservation (h : s.yardMoves u) (kind : TicketKind) : s.yardMoves (grantReservation kind u) := by
  obtain ⟨g, hg⟩ := grantReservation_eq kind u
  rw [hg]
  exact h.of_units rfl rfl rfl rfl

theorem yardMoves_askReservation (h : s.yardMoves u) (kind : TicketKind) : s.yardMoves (askReservation kind u).2 := by
  unfold askReservation
  split
  · exact yardMoves_grantReservation h kind
  · obtain ⟨g, hg⟩ := refuseReservation_eq u
    rw [hg]
    exact h.of_units rfl rfl rfl rfl

/-- R136: a wake marks the pickers and presses and moves none. -/
theorem yardMoves_returnReservation (h : s.yardMoves u) (kind : TicketKind) : s.yardMoves (returnReservation kind u) := by
  have hpicker : KeepsFeed fun r => if r.reasons.noTicketSlot then { r with woken := true } else r := fun r => by
    dsimp only; split <;> exact ⟨rfl, rfl⟩
  have hpress : KeepsManual fun r => if r.reservationWait then { r with fillDue := true } else r := fun r => by
    dsimp only; split <;> exact ⟨rfl, id⟩
  have hstop (r : Picker) (hr : r.state = .stopped) :
      (if r.reasons.noTicketSlot then { r with woken := true } else r).state = .stopped := by split <;> exact hr
  have hrest (r : Press) (hr : r.state.rests) :
      (if r.reservationWait then { r with fillDue := true } else r).state.rests := by split <;> exact hr
  have hstore : s.yardMoves (u.onStore fun t => t.onKind kind (· - 1)) := h.of_units rfl rfl rfl rfl
  have hwoken := (hstore.onPicker .p1 hpicker hstop).onPicker .p2 hpicker hstop
  have hmarked := (hwoken.onPress .b1 hpress hrest).onPress .b2 hpress hrest
  exact hmarked

/-! #### Operations of the kilns -/

theorem yardMoves_inject (h : s.yardMoves u) (k : KilnId) : s.yardMoves (inject k u) := by
  obtain ⟨f, g, hf, -, hg⟩ := inject_eq k u
  have hkeeps : KeepsCycle f := fun r => by
    obtain ⟨_, _, _, hr⟩ := hf r
    rw [hr]
    exact ⟨rfl, rfl, rfl, rfl, rfl, rfl⟩
  rw [hg]
  exact (h.onKiln k hkeeps).of_units rfl rfl rfl rfl

theorem yardMoves_enterKiln (h : s.yardMoves u) (k : KilnId) {st : KilnState} (hst : st.outOfCycle) :
    s.yardMoves (enterKiln k st u) := yardMoves_inject (h.leaveCycle k hst) k

/-- R49: the offers of upper floors move no unit. -/
theorem State.yardMoves.reoffered {t : State} (h : s.yardMoves u) (hoffers : u.reoffered t) : s.yardMoves t := by
  obtain ⟨⟨g, rfl⟩, hkilns⟩ := hoffers
  refine ⟨fun k => ?_, h.picker, h.press, h.watches⟩
  rw [(hkilns k).eq]
  exact ⟨(h.kiln k).permit, (h.kiln k).config, (h.kiln k).scheduleFlag, (h.kiln k).holdOff, (h.kiln k).state⟩

theorem openOffer_reoffered (k : KilnId) (declined : List PickerId) (s : State) : s.reoffered (openOffer k declined s) :=
  (onRing_reoffered s k (f := fun r => { r with offered := true, declined := declined }) fun _ => ⟨_, _, rfl⟩).trans
    (settleOffer_reoffered k _)

theorem offerKiln_reoffered (k : KilnId) (s : State) : s.reoffered (offerKiln k s) := by
  unfold offerKiln
  split
  · exact openOffer_reoffered k [] s
  · exact .refl s

theorem yardMoves_enterAwaitingOrIdle (h : s.yardMoves u) (k : KilnId) : s.yardMoves (enterAwaitingOrIdle k u) := by
  unfold enterAwaitingOrIdle
  split
  · exact (yardMoves_enterKiln (h.onKiln k (f := fun r => { r with awaitingStart := some u.now, overdue := false })
      fun _ => ⟨rfl, rfl, rfl, rfl, rfl, rfl⟩) k (.inr (.inl rfl))).reoffered (offerKiln_reoffered k _)
  · exact (yardMoves_enterKiln h k (.inl rfl)).reoffered (offerKiln_reoffered k _)

/-- R86: no cycle starts while the permit is Off. -/
theorem not_mayStart_of_off {k : KilnId} (h : (u.kiln k).permit = .reset) : ¬u.mayStart k = true := by
  simp [State.mayStart, h, Permit.reset]

theorem enterReady_of_off (h : s.yardMoves u) (k : KilnId) : enterReady k u = enterKiln k .ready u :=
  tryStart_of_not_mayStart (not_mayStart_of_off ((yardMoves_enterKiln h k (.inr (.inr (.inr rfl)))).kiln k).permit)

theorem yardMoves_enterReady (h : s.yardMoves u) (k : KilnId) : s.yardMoves (enterReady k u) := by
  rw [enterReady_of_off h]
  exact yardMoves_enterKiln h k (.inr (.inr (.inr rfl)))

theorem yardMoves_leaveLoading (h : s.yardMoves u) (k : KilnId) : s.yardMoves (leaveLoading k u) := by
  unfold leaveLoading
  split
  · exact yardMoves_enterReady h k
  · exact h

theorem Ring.setSlot_drop (r : Ring) (n : Fin 3) (v : Slot) : (r.setSlot n v).drop = r.drop := by
  unfold Ring.setSlot
  split
  · rfl
  · split <;> rfl

/-! #### Operations of the pickers -/

theorem yardMoves_closeToReady (h : s.yardMoves u) (p : PickerId) (reason : CloseReason) :
    s.yardMoves (closeToReady p reason u) := by
  unfold closeToReady
  split
  · exact h
  · refine yardMoves_leaveLoading ?_ _
    unfold closeCore
    exact (yardMoves_issueTicket ((yardMoves_onCharge h _ _).onRing _ fun r => r.setSlot_drop _ _) _ _ _ _).onPicker p
      (fun _ => ⟨rfl, rfl⟩) fun _ => id

theorem yardMoves_finishClearance (h : s.yardMoves u) (p : PickerId) : s.yardMoves (finishClearance p u) := by
  refine yardMoves_beltPollTimer (State.yardMoves.onPicker ?_ p ?_ ?_) p false
  · exact yardMoves_closeToReady h p .lotChange
  · exact fun _ => ⟨rfl, rfl⟩
  · exact fun _ => id

theorem yardMoves_enterStopped (h : s.yardMoves u) (p : PickerId) : s.yardMoves (enterStopped p u) :=
  yardMoves_safetyCommand (h.onPicker p (f := fun r => { r with state := .stopped, retryFrom := none, woken := false })
    (fun _ => ⟨rfl, rfl⟩) fun _ _ => rfl) _ _ _

theorem yardMoves_dropOpeningReasons (h : s.yardMoves u) (p : PickerId) : s.yardMoves (dropOpeningReasons p u) := by
  unfold dropOpeningReasons
  refine State.yardMoves.reoffered ?_ (leaveOffers_reoffered p _)
  exact h.onPicker p (fun _ => ⟨rfl, rfl⟩) fun _ => id

section
variable {p : PickerId} (hp : (s.picker p).state ≠ .stopped)
include hp

theorem yardMoves_enterHeld (h : s.yardMoves u) : s.yardMoves (enterHeld p u) := by
  refine yardMoves_safetyCommand (yardMoves_latch ?_ _) _ _ _
  exact h.onPicker_busy p hp fun _ => ⟨rfl, rfl⟩

theorem yardMoves_failOpening (h : s.yardMoves u) (floor : Bool) : s.yardMoves (failOpening p floor u) := by
  unfold failOpening
  dsimp only
  have hfail := h.onPicker p (f := fun r =>
    { r with
      reasons := { r.reasons with noFloor := floor, noTicketSlot := !floor }
      waitStart := some (r.waitStart.getD u.now) }) (fun _ => ⟨rfl, rfl⟩) fun _ => id
  split
  · exact hfail
  · exact yardMoves_enterHeld hp hfail

theorem yardMoves_refuseLot (h : s.yardMoves u) (k : KilnId) (lot : Nat) : s.yardMoves (refuseLot p k lot u) := by
  unfold refuseLot
  dsimp only
  refine yardMoves_returnReservation (State.yardMoves.reoffered ?_ (openOffer_reoffered k [p] _)) _
  have hrefused := yardMoves_latch (h.onPicker p (f := fun r =>
    { r with
      reasons := { r.reasons with noFloor := false, noTicketSlot := false, unknownLot := true }
      refusedLot := some lot }) (fun _ => ⟨rfl, rfl⟩) fun _ => id) (srcUnknownLot p)
  split
  · exact hrefused
  · exact yardMoves_enterHeld hp hrefused

theorem yardMoves_completeOpening (h : s.yardMoves u) (k : KilnId) (lot : Nat) : s.yardMoves (completeOpening p k lot u) := by
  unfold completeOpening enterLoading enterRunning
  refine yardMoves_enterKiln (State.yardMoves.onKiln ?_ k (f := fun r =>
    { r with capture := none, awaitingStart := none, overdue := false }) fun _ => ⟨rfl, rfl, rfl, rfl, rfl, rfl⟩) k
    (.inr (.inr (.inl rfl)))
  refine (yardMoves_queueDistributor ?_ p k).onPicker_busy p hp fun _ => ⟨rfl, rfl⟩
  refine State.yardMoves.onPicker ?_ p (fun _ => ⟨rfl, rfl⟩) fun _ => id
  refine State.yardMoves.onRing (yardMoves_onLot ?_ _ _) k fun r => r.setSlot_drop _ _
  exact h.of_units rfl rfl rfl rfl

/-- R48: an attempt of a picker not Stopped. -/
theorem yardMoves_tryOpen (h : s.yardMoves u) (target : OpeningTarget) : s.yardMoves (tryOpen p target u).2 := by
  unfold tryOpen
  split
  · exact h
  · dsimp only
    have hasks := h.onPicker p (f := fun r => { r with woken := false, retryFrom := none }) (fun _ => ⟨rfl, rfl⟩) fun _ => id
    have hasked := yardMoves_askReservation hasks .charge
    split
    · split
      · rename_i heq
        rw [heq] at hasked
        exact yardMoves_failOpening hp hasked false
      · rename_i heq
        rw [heq] at hasked
        have hfailed := yardMoves_returnReservation (yardMoves_failOpening hp hasked true) .charge
        split
        · split
          · exact hfailed
          · split
            · exact yardMoves_completeOpening hp hasked _ _
            · exact yardMoves_refuseLot hp hasked _ _
        · exact hfailed
    · refine yardMoves_failOpening hp ?_ true
      exact hasks.onPicker p (fun _ => ⟨rfl, rfl⟩) fun _ => id

end

/-- R49: a kiln stands offered to no picker that is Stopped. -/
theorem not_stopped_of_offerNext {p : PickerId} {k : KilnId} (h : u.offerNext k = some p) : (u.picker p).state ≠ .stopped := by
  intro hstopped
  exact offerNext_ne_of_not_waiting (by simp [Picker.waitsForFloor, hstopped]) k h

theorem yardMoves_takeOffer (h : s.yardMoves u) (p : PickerId) (k : KilnId) : s.yardMoves (takeOffer p k u) := by
  unfold takeOffer
  split
  · rename_i hoffer
    have hp := h.picker_busy (not_stopped_of_offerNext hoffer)
    have hasked := h.onRing k (f := fun r => { r with declined := r.declined ++ [p] }) fun _ => rfl
    refine State.yardMoves.reoffered ?_ (settleOffer_reoffered k _)
    split
    · exact yardMoves_tryOpen hp hasked _
    · exact hasked
  · exact h

theorem yardMoves_takeOffers (k : KilnId) (fuel : Nat) (h : s.yardMoves u) : s.yardMoves (takeOffers k fuel u) := by
  induction fuel generalizing u with
  | zero => exact h
  | succ fuel ih =>
    unfold takeOffers
    split
    · exact ih (yardMoves_takeOffer h _ k)
    · exact h

end Sys2Proof.Machine
end

section
namespace Sys2Proof.Machine

variable {s u : State}

/-! #### Operations of the piles and the presses -/

theorem yardMoves_wakePileFull (h : s.yardMoves u) (b : PressId) : s.yardMoves (wakePileFull b u) := by
  have hwake : KeepsCycle fun r => if r.state = .pileFull ∧ r.config.pile = b then { r with pileWoken := true } else r :=
    fun r => by dsimp only; split <;> exact ⟨rfl, rfl, rfl, rfl, rfl, rfl⟩
  have heach := onKilns_every (fun r => if r.state = .pileFull ∧ r.config.pile = b then { r with pileWoken := true } else r) u
  unfold wakePileFull
  rw [heach]
  exact (((((h.onKiln .k1 hwake).onKiln .k2 hwake).onKiln .k3 hwake).onKiln .k4 hwake).onKiln .k5 hwake).onKiln .k6 hwake

theorem yardMoves_wakeNoFloor (h : s.yardMoves u) : s.yardMoves (wakeNoFloor u) := by
  have hkeeps : KeepsFeed fun r => if r.reasons.noFloor then { r with woken := true } else r := fun r => by
    dsimp only; split <;> exact ⟨rfl, rfl⟩
  have hstop (r : Picker) (hr : r.state = .stopped) :
      (if r.reasons.noFloor then { r with woken := true } else r).state = .stopped := by split <;> exact hr
  have hwoken := (h.onPicker .p1 hkeeps hstop).onPicker .p2 hkeeps hstop
  exact hwoken

theorem yardMoves_retireHead (h : s.yardMoves u) (b : PressId) : s.yardMoves (retireHead b u) := by
  unfold retireHead
  split
  · exact h
  · rename_i c rest _
    have hretired := yardMoves_wakePileFull
      (h.onPress b (f := fun r => { r with entries := rest }) (fun _ => ⟨rfl, id⟩) fun _ => id) b
    exact yardMoves_wakeNoFloor ((yardMoves_settleTest (yardMoves_onLot hretired _ _) _).of_units rfl rfl rfl rfl)

theorem yardMoves_retireZeros (b : PressId) (fuel : Nat) (h : s.yardMoves u) : s.yardMoves (retireZeros b fuel u) := by
  induction fuel generalizing u with
  | zero => exact h
  | succ fuel ih =>
    unfold retireZeros
    split
    · exact ih (yardMoves_retireHead h b)
    · exact h

theorem yardMoves_giveRun (h : s.yardMoves u) (b : PressId) : s.yardMoves (giveRun b u) := by
  obtain ⟨owed, g, hg, -⟩ := giveRun_eq b u
  rw [hg]
  exact (h.onPress b (f := fun r => { r with feedRun := true, runOwed := owed }) (fun _ => ⟨rfl, id⟩) fun _ => id).of_units
    rfl rfl rfl rfl

theorem yardMoves_giveStop (h : s.yardMoves u) (b : PressId) : s.yardMoves (giveStop b u) :=
  yardMoves_safetyCommand (h.onPress b (f := fun r => { r with feedRun := false, runOwed := false }) (fun _ => ⟨rfl, id⟩)
    fun _ => id) _ _ _

theorem yardMoves_onBale (h : s.yardMoves u) (b : PressId) (f : Bale → Bale) : s.yardMoves (u.onBale b f) :=
  h.onPress b (f := fun r => { r with bale := r.bale.map f }) (fun _ => ⟨rfl, id⟩) fun _ => id

theorem yardMoves_pausePress (h : s.yardMoves u) (b : PressId) (point : ResumePoint) : s.yardMoves (pausePress b point u) :=
  h.onPress b (f := fun r => { r with state := .paused, resume := some point }) (fun _ => ⟨rfl, id⟩) fun _ _ => .inr (.inl rfl)

theorem yardMoves_faultPress (h : s.yardMoves u) (b : PressId) (cause : FaultCause) : s.yardMoves (faultPress b cause u) := by
  refine yardMoves_latch (yardMoves_safetyCommand ?_ _ _ _) _
  exact h.onPress b (fun _ => ⟨rfl, id⟩) fun _ _ => .inr (.inr rfl)

/-- R115: a fill that ends at a press the reset found filling or starved. -/
theorem yardMoves_endFill (h : s.yardMoves u) {b : PressId} (hb : ¬(s.press b).state.rests) (reason : FillEnd) :
    s.yardMoves (endFill b reason u) := by
  unfold endFill
  split
  · exact h
  · rename_i x _
    dsimp only
    have hstop : s.yardMoves (if (u.press b).feedRun then giveStop b u else u) := by
      split
      · exact yardMoves_giveStop h b
      · exact h
    split
    · refine yardMoves_settleTest (yardMoves_onLot (yardMoves_returnReservation ?_ _) _ _) _
      exact hstop.onPress_busy b hb fun _ => ⟨rfl, id⟩
    · exact (yardMoves_onBale hstop b _).onPress_busy b hb fun _ => ⟨rfl, id⟩

theorem not_rests_starved : ¬PressState.starved.rests := by simp [PressState.rests]

/-- R116: a press that takes an append moves where it is Starved. -/
theorem yardMoves_takeAppend (h : s.yardMoves u) (b : PressId) : s.yardMoves (takeAppend b u) := by
  unfold takeAppend
  split
  · rename_i hstate _ _
    have hb := h.press_busy (hstate ▸ not_rests_starved)
    split
    · exact (yardMoves_giveRun (yardMoves_onBale h b _) b).onPress_busy b hb fun _ => ⟨rfl, id⟩
    · exact yardMoves_endFill h hb _
  · exact h.onPress b (fun _ => ⟨rfl, id⟩) fun _ => id
  · exact h

theorem yardMoves_lotEndTest (h : s.yardMoves u) (b : PressId) : s.yardMoves (lotEndTest b u) := by
  unfold lotEndTest
  split
  · rename_i hstate _
    split
    · exact yardMoves_endFill h (h.press_busy (hstate ▸ not_rests_starved)) _
    · exact h
  · exact h

theorem yardMoves_appendToPile (h : s.yardMoves u) (b : PressId) (c : Nat) : s.yardMoves (appendToPile b c u) := by
  refine yardMoves_takeAppend (yardMoves_retireZeros b _ ?_) b
  exact h.onPress b (fun _ => ⟨rfl, id⟩) fun _ => id

/-! #### A kiln's turn (R81, R104) -/

theorem yardMoves_closeGate (h : s.yardMoves u) (k : KilnId) : s.yardMoves (closeGate k u) := by
  unfold closeGate
  split
  · exact h
  · split
    · exact h.of_units rfl rfl rfl rfl
    · exact h.onRing k fun _ => rfl

theorem yardMoves_creditDrop (h : s.yardMoves u) (k : KilnId) (d : Drop) : s.yardMoves (creditDrop k d u) := by
  unfold creditDrop
  split
  · exact h
  · exact yardMoves_onLot (yardMoves_onCharge h _ _) _ _

theorem yardMoves_interruptDrop (h : s.yardMoves u) (k : KilnId) : s.yardMoves (interruptDrop k u) := by
  unfold interruptDrop
  split
  · exact yardMoves_onCharge h _ _
  · exact h

/-- An entry to a state is what the kiln's offers leave it in. -/
theorem outOfCycle_of_reoffered {t : State} {k : KilnId} {st : KilnState} (hst : st.outOfCycle)
    (h : (enterKiln k st u).reoffered t) : (t.kiln k).state.outOfCycle := by
  obtain ⟨_, _, _, hentered⟩ := kiln_enterKiln_same k st u
  rw [(h.2 k).eq, hentered]
  exact hst

theorem enterAwaitingOrIdle_outOfCycle (k : KilnId) (s : State) : ((enterAwaitingOrIdle k s).kiln k).state.outOfCycle := by
  unfold enterAwaitingOrIdle
  split
  · exact outOfCycle_of_reoffered (.inr (.inl rfl)) (offerKiln_reoffered k _)
  · exact outOfCycle_of_reoffered (.inl rfl) (offerKiln_reoffered k _)

/-- A kiln whose ring alone the reset wrote, and that has left its cycle since, has moved as the reset moves it. -/
theorem State.yardMoves.of_onRing {t : State} {k : KilnId} {f : Ring → Ring} (h : s.yardMoves u)
    (hring : (u.onRing k f).yardMoves t) (hout : (t.kiln k).state.outOfCycle) : s.yardMoves t where
  kiln j := by
    have hj := hring.kiln j
    by_cases hjk : j = k
    · subst hjk
      rw [State.kiln_onRing_same] at hj
      have hu := h.kiln j
      exact ⟨hj.permit, hj.config.trans hu.config, hj.scheduleFlag.trans hu.scheduleFlag, hj.holdOff.trans hu.holdOff,
        .inl hout⟩
    · rw [State.onRing, State.kiln_onKiln_other _ _ _ _ hjk] at hj
      exact (h.kiln j).trans hj
  picker p := (h.picker p).trans (hring.picker p)
  press b := (h.press b).trans (hring.press b)
  watches := hring.watches.trans h.watches

theorem completeDrop_of_no_drop {k : KilnId} (h : (u.kiln k).ring.drop = none) : completeDrop k u = u := by
  simp only [completeDrop, h]

theorem interruptDrop_of_no_drop {k : KilnId} (h : (u.kiln k).ring.drop = none) : interruptDrop k u = u := by
  simp only [interruptDrop, h]

theorem permits_off_onRing (h : s.yardMoves u) (k : KilnId) (f : Ring → Ring) (j : KilnId) :
    ((u.onRing k f).kiln j).permit = .reset := by
  by_cases hjk : j = k
  · subst hjk; rw [State.kiln_onRing_same]; exact (h.kiln j).permit
  · rw [State.onRing, State.kiln_onKiln_other _ _ _ _ hjk]; exact (h.kiln j).permit

/-- R75, R81: a drop in progress completes, and its kiln, its permit Off, enters Awaiting or Idle. -/
theorem completeDrop_moves (h : s.yardMoves u) {k : KilnId} (hdrop : (u.kiln k).ring.drop ≠ none) :
    s.yardMoves (completeDrop k u) ∧ ((completeDrop k u).kiln k).state.outOfCycle := by
  obtain ⟨d, hd⟩ := Option.ne_none_iff_exists'.mp hdrop
  have hcredit := yardMoves_creditDrop h k d
  simp only [completeDrop, hd]
  generalize hring : (creditDrop k d u).onRing k _ = v
  have hv : v.yardMoves v := by
    subst hring
    exact .refl (permits_off_onRing hcredit k _)
  have hclosed := yardMoves_closeGate (yardMoves_lotEndTest (yardMoves_appendToPile hv d.pile d.charge) (otherPress d.pile)) k
  have hafter : afterDrop k (closeGate k (lotEndTest (otherPress d.pile) (appendToPile d.pile d.charge v))) =
      enterAwaitingOrIdle k (closeGate k (lotEndTest (otherPress d.pile) (appendToPile d.pile d.charge v))) :=
    if_neg (by rw [(hclosed.kiln k).permit]; decide)
  rw [hafter]
  have hout := enterAwaitingOrIdle_outOfCycle k (closeGate k (lotEndTest (otherPress d.pile) (appendToPile d.pile d.charge v)))
  subst hring
  exact ⟨hcredit.of_onRing (yardMoves_enterAwaitingOrIdle hclosed k) hout, hout⟩

/-- R104: a kiln whose cycle is lost leaves it. -/
theorem loseCycle_moves (h : s.yardMoves u) (k : KilnId) :
    s.yardMoves (loseCycle k u) ∧ ((loseCycle k u).kiln k).state.outOfCycle := by
  have hcleared : s.yardMoves (clearExcursion k (clearCycle k u)) := by
    refine State.yardMoves.onKiln (State.yardMoves.onKiln h k ?_) k ?_
    · exact fun _ => ⟨rfl, rfl, rfl, rfl, rfl, rfl⟩
    · exact fun _ => ⟨rfl, rfl, rfl, rfl, rfl, rfl⟩
  unfold loseCycle
  dsimp only
  split
  · refine ⟨yardMoves_enterReady hcleared k, ?_⟩
    rw [enterReady_of_off hcleared]
    exact outOfCycle_of_reoffered (.inr (.inr (.inr rfl))) (.refl _)
  · exact ⟨yardMoves_enterAwaitingOrIdle hcleared k, enterAwaitingOrIdle_outOfCycle k _⟩

/-- A unit at rest as the Yard Reset leaves it; a kiln may stand in Dropping with no drop in progress. -/
def State.atYardRest (s : State) : UnitId → Prop
  | .picker p => (s.picker p).state = .stopped
  | .kiln k => (s.kiln k).state.outOfCycle ∨ ((s.kiln k).state = .dropping ∧ (s.kiln k).ring.drop = none)
  | .press b => (s.press b).auto = false ∧ (s.press b).state.rests

/-- What the reset does after a unit's turn leaves the unit at rest. -/
theorem State.yardMoves.atYardRest {t : State} (h : s.yardMoves t) {x : UnitId} (hx : s.atYardRest x) : t.atYardRest x := by
  cases x with
  | picker p => exact (h.picker p).stopped hx
  | press b =>
    obtain ⟨hauto, hrests⟩ := hx
    exact ⟨(h.press b).manual hauto, (h.press b).rests hrests⟩
  | kiln k =>
    rcases (h.kiln k).state with hout | ⟨hstate, hdrop⟩
    · exact .inl hout
    · simpa only [State.atYardRest, hstate, hdrop] using hx

theorem yardKiln_moves (h : s.yardMoves u) (k : KilnId) :
    s.yardMoves (yardKiln k u) ∧ (yardKiln k u).atYardRest (.kiln k) := by
  have hu : u.yardMoves u := .refl fun j => (h.kiln j).permit
  have offers {v : State} (hv : s.yardMoves v) (hrest : v.atYardRest (.kiln k)) :
      s.yardMoves (takeOffers k 3 v) ∧ (takeOffers k 3 v).atYardRest (.kiln k) :=
    ⟨yardMoves_takeOffers k 3 hv, (yardMoves_takeOffers k 3 (.refl fun j => (hv.kiln j).permit)).atYardRest hrest⟩
  unfold yardKiln
  split
  case h_1 hstate =>
    by_cases hdrop : (u.kiln k).ring.drop = none
    · rw [interruptDrop_of_no_drop hdrop, completeDrop_of_no_drop hdrop]
      exact offers h (.inr ⟨hstate, hdrop⟩)
    · have hsame : ((interruptDrop k u).kiln k).ring.drop = (u.kiln k).ring.drop := by
        unfold interruptDrop
        split
        · rw [kiln_onCharge]
        · rfl
      obtain ⟨hmoves, hout⟩ := completeDrop_moves (k := k) (yardMoves_interruptDrop h k) (hsame ▸ hdrop)
      exact offers hmoves (.inl hout)
  case h_2 hstate => exact ⟨h, .inl (.inl hstate)⟩
  case h_3 hstate => exact ⟨h, .inl (.inr (.inl hstate))⟩
  case h_4 hstate => exact ⟨h, .inl (.inr (.inr (.inl hstate)))⟩
  case h_5 hstate => exact ⟨h, .inl (.inr (.inr (.inr hstate)))⟩
  case h_6 =>
    obtain ⟨hmoves, hout⟩ := loseCycle_moves h k
    exact offers hmoves (.inl hout)

/-! #### A picker's turn (R60) -/

theorem enterStopped_stopped (p : PickerId) (s : State) : ((enterStopped p s).picker p).state = .stopped := by
  obtain ⟨g, hg⟩ := enterStopped_eq p s
  rw [hg]
  simp

theorem yardPicker_moves (h : s.yardMoves u) (p : PickerId) :
    s.yardMoves (yardPicker p u) ∧ (yardPicker p u).atYardRest (.picker p) := by
  unfold yardPicker
  split
  · rename_i hstate
    exact ⟨h, hstate⟩
  · refine ⟨yardMoves_enterStopped ?_ p, enterStopped_stopped p _⟩
    exact (yardMoves_finishClearance h p).onPicker p (fun _ => ⟨rfl, rfl⟩) fun _ => id
  · exact ⟨yardMoves_enterStopped (yardMoves_dropOpeningReasons h p) p, enterStopped_stopped p _⟩

/-! #### A press's turn (R126) -/

theorem yardMoves_endReweighUnweighed (h : s.yardMoves u) (b : PressId) : s.yardMoves (endReweighUnweighed b u) := by
  have hreturned := yardMoves_returnReservation h .reweigh
  unfold endReweighUnweighed oweReweighReply
  split
  · exact hreturned.of_units rfl rfl rfl rfl
  · exact hreturned.onPress b (fun _ => ⟨rfl, id⟩) fun _ => id

/-- R124: a Reweigh that ends with Auto clear resumes nothing. -/
theorem yardMoves_afterReweigh (h : s.yardMoves u) {b : PressId} (hauto : (u.press b).auto = false) :
    s.yardMoves (afterReweigh b u) := by
  have hslot : s.yardMoves (u.onPress b fun r => { r with slot := none, reweighTag := none }) :=
    h.onPress b (fun _ => ⟨rfl, id⟩) fun _ => id
  unfold afterReweigh
  dsimp only
  rw [State.press_onPress_same]
  split
  · exact hslot.onPress b (fun _ => ⟨rfl, id⟩) fun _ => id
  · rw [if_neg (by simp [hauto])]
    exact hslot
  · exact hslot

theorem yardMoves_yardReweigh (h : s.yardMoves u) {b : PressId} (hauto : (s.press b).auto = false) :
    s.yardMoves (yardReweigh b u) := by
  unfold yardReweigh
  split
  · split
    · have hended := yardMoves_endReweighUnweighed h b
      exact yardMoves_afterReweigh hended ((hended.press b).manual hauto)
    · exact h
  · exact h

theorem press_faultPress_state (b : PressId) (cause : FaultCause) (s : State) :
    ((faultPress b cause s).press b).state = .faulted := by
  unfold faultPress
  dsimp only
  obtain ⟨g, hg⟩ := safetyCommand_eq_onLine .pressHydraulics (.press b) 0
    (s.onPress b fun r => { r with state := .faulted, cause := some cause, phaseStart := none, phaseOwed := false })
  rw [hg]
  obtain ⟨g', hg'⟩ := latch_eq_onNotice (srcFaulted b) (State.onLine _ g)
  rw [hg']
  simp

theorem yardFill_moves (h : s.yardMoves u) (b : PressId) :
    s.yardMoves (yardFill b u) ∧ ((yardFill b u).press b).state = .paused := by
  unfold yardFill
  split
  · refine ⟨yardMoves_pausePress ?_ b _, by rw [pausePress, State.press_onPress_same]⟩
    exact h.onPress b (fun _ => ⟨rfl, id⟩) fun _ => id
  · refine ⟨yardMoves_pausePress ?_ b _, by rw [pausePress, State.press_onPress_same]⟩
    split
    · exact yardMoves_giveStop h b
    · exact h

/-- R126: the press whose Auto is clear, at the Yard Reset input. -/
theorem yardPress_moves_of_manual {b : PressId} (hoff : ∀ k, (s.kiln k).permit = .reset) (hauto : (s.press b).auto = false) :
    s.yardMoves (yardPress b s) ∧ ((yardPress b s).press b).state.rests := by
  unfold yardPress
  dsimp only
  generalize hv : State.onPress (yardReweigh b (s.onPress b fun r => { r with auto := false })) b _ = v
  have hmoves : s.yardMoves v := by
    subst hv
    refine State.yardMoves.onPress (yardMoves_yardReweigh ?_ hauto) b ?_ ?_
    · exact (State.yardMoves.refl hoff).onPress b (fun _ => ⟨rfl, fun _ => rfl⟩) fun _ => id
    · exact fun _ => ⟨rfl, id⟩
    · exact fun _ => id
  have hfault := yardMoves_faultPress hmoves b .yardReset
  have hfaulted := press_faultPress_state b .yardReset v
  have hfill : s.yardMoves (yardFill b v) ∧ ((yardFill b v).press b).state.rests := by
    obtain ⟨hmoved, hpaused⟩ := yardFill_moves hmoves b
    exact ⟨hmoved, .inr (.inl hpaused)⟩
  cases hstate : (v.press b).state with
  | idle => exact ⟨hmoves, .inl hstate⟩
  | filling => exact hfill
  | starved => exact hfill
  | compressing => exact ⟨hfault, .inr (.inr hfaulted)⟩
  | tying => exact ⟨hfault, .inr (.inr hfaulted)⟩
  | ejecting => exact ⟨hfault, .inr (.inr hfaulted)⟩
  | weighing =>
    refine ⟨hfault.onPress b (fun _ => ⟨rfl, id⟩) fun _ => id, ?_⟩
    dsimp only
    rw [State.press_onPress_same]
    exact .inr (.inr hfaulted)
  | paused => exact ⟨hmoves, .inr (.inl hstate)⟩
  | faulted => exact ⟨hmoves, .inr (.inr hstate)⟩

theorem yardPress_manual (b : PressId) (s : State) :
    yardPress b (s.onPress b fun r => { r with auto := false }) = yardPress b s := by
  unfold yardPress
  rw [State.onPress_onPress]

theorem yardPress_moves (h : s.yardMoves u) (b : PressId) :
    s.yardMoves (yardPress b u) ∧ (yardPress b u).atYardRest (.press b) := by
  have hclear : s.yardMoves (u.onPress b fun r => { r with auto := false }) :=
    h.onPress b (fun _ => ⟨rfl, fun _ => rfl⟩) fun _ => id
  have hauto : ((u.onPress b fun r => { r with auto := false }).press b).auto = false := by rw [State.press_onPress_same]
  obtain ⟨hmoves, hrests⟩ := yardPress_moves_of_manual (fun k => (hclear.kiln k).permit) hauto
  rw [yardPress_manual] at hmoves hrests
  exact ⟨hclear.trans hmoves, (hmoves.press b).manual hauto, hrests⟩

/-! #### The whole reset -/

theorem yardUnit_moves (h : s.yardMoves u) (x : UnitId) : s.yardMoves (yardUnit u x) ∧ (yardUnit u x).atYardRest x := by
  cases x with
  | picker p => exact yardPicker_moves h p
  | kiln k => exact yardKiln_moves h k
  | press b => exact yardPress_moves h b

/-- Each unit of an order comes to rest at its turn and stays so. -/
theorem foldl_yardUnit_moves (l : List UnitId) (h : s.yardMoves u) :
    s.yardMoves (l.foldl yardUnit u) ∧ ∀ x ∈ l, (l.foldl yardUnit u).atYardRest x := by
  induction l generalizing s u with
  | nil => exact ⟨h, fun _ hx => by cases hx⟩
  | cons x l ih =>
    obtain ⟨hmoves, hrest⟩ := yardUnit_moves h x
    have hfrom : (yardUnit u x).yardMoves (yardUnit u x) := .refl fun k => (hmoves.kiln k).permit
    refine ⟨(ih hmoves).1, fun y hy => ?_⟩
    rcases List.mem_cons.mp hy with rfl | hy
    · exact (ih hfrom).1.atYardRest hrest
    · exact (ih hfrom).2 y hy

theorem mem_allUnits (x : UnitId) : x ∈ allUnits := by
  cases x with
  | picker p => cases p <;> decide
  | kiln k => cases k <;> decide
  | press b => cases b <;> decide

/-- Every unit has its turn. -/
theorem mem_unitOrder (order : List UnitId) (x : UnitId) : x ∈ unitOrder order := by
  unfold unitOrder
  split
  · rename_i h
    have hall := (Bool.and_eq_true_iff.mp h).2
    simpa using List.all_eq_true.mp hall x (mem_allUnits x)
  · exact mem_allUnits x

/-- A kiln with its permit Off. -/
def Kiln.permitOff (r : Kiln) : Kiln := { r with permit := .reset }

/-- R104: every permit goes to Off at once. -/
theorem permitsOff_eq (s : State) :
    permitsOff s = s.onKilns fun t =>
      { k1 := t.k1.permitOff, k2 := t.k2.permitOff, k3 := t.k3.permitOff, k4 := t.k4.permitOff, k5 := t.k5.permitOff,
        k6 := t.k6.permitOff } := by
  rw [onKilns_every Kiln.permitOff s]
  rfl

theorem permitsOff_moves (s : State) : s.yardMoves (permitsOff s) := by
  rw [permitsOff_eq]
  refine ⟨fun k => ?_, fun _ => ⟨rfl, rfl, id⟩, fun _ => ⟨rfl, id, id⟩, rfl⟩
  cases k <;> exact ⟨rfl, rfl, rfl, rfl, .inr ⟨rfl, rfl⟩⟩

theorem schedules_closed (v : List (Nat × List Stage)) : Closed fun t => t.schedules = v where
  kiln _ _ _ hs := hs
  picker _ _ _ hs := hs
  press _ _ _ hs := hs
  reserve _ _ hs := hs
  issued kind lot grower body hs := by
    obtain ⟨g, hg⟩ := issueTicket_eq_onStore kind lot grower body _
    rw [hg]
    exact hs
  transfer _ hs := hs
  ended hs := hs
  lot n f hs := by
    obtain ⟨l, hl⟩ := State.onLot_eq_withLots _ n f
    rw [hl]
    exact hs
  charge n f hs := by
    obtain ⟨l, hl⟩ := State.onCharge_eq_onPool _ n f
    rw [hl]
    exact hs
  opened _ _ _ hs := hs
  freed _ hs := hs
  watch _ _ hs := hs
  latched n hs := by
    obtain ⟨g, hg⟩ := latch_eq_onNotice n _
    rw [hg]
    exact hs
  timer st ch i hs := by
    obtain ⟨g, hg⟩ := startPollTimer_eq_onChan st ch i _
    rw [hg]
    exact hs
  down _ _ hs := hs
  safety _ hs := hs

/-- R104: what the reset keeps of the parts no unit owns. -/
theorem yardReset_keeps_parts (order : List UnitId) (s : State) :
    let t := (unitOrder order).foldl yardUnit (permitsOff s)
    t.clock = s.clock ∧ t.schedules = s.schedules ∧ t.agent = s.agent ∧ t.chan.stations = s.chan.stations ∧
      t.line.settings = s.line.settings ∧ t.line.counters = s.line.counters := by
  have hkept : s.keepsMonitor ((unitOrder order).foldl yardUnit (permitsOff s)) :=
    execYardReset_keeps (keepsMonitor_closed s) (fun _ _ h => h) keepsMonitor_queueUp order (.refl s) _ rfl
  have hschedules : ((unitOrder order).foldl yardUnit (permitsOff s)).schedules = s.schedules :=
    execYardReset_keeps (schedules_closed _) (fun _ _ h => h) (fun _ _ h => h) order rfl _ rfl
  have hline : (((unitOrder order).foldl yardUnit (permitsOff s)).line.settings,
      ((unitOrder order).foldl yardUnit (permitsOff s)).line.counters) = (s.line.settings, s.line.counters) := by
    refine execYardReset_keeps (lineReading_closed (reading := fun l => (l.settings, l.counters)) (fun _ _ _ => rfl) _)
      (fun _ _ h => h) (fun f o h => ?_) order rfl _ rfl
    unfold queueUp
    dsimp only [State.onLine_line]
    split <;> exact h
  obtain ⟨hclock, hagent, hstations, -⟩ := hkept
  obtain ⟨hsettings, hcounters⟩ := Prod.mk.inj hline
  exact ⟨hclock, hschedules, hagent, hstations, hsettings, hcounters⟩

/-- R104: the state the reset ends in. -/
theorem exec_yardReset (order : List UnitId) (s : State) :
    ∃ t, exec (.yardReset order) s = .next t ∧ s.yardMoves t ∧ (∀ x, t.atYardRest x) ∧ t.clock = s.clock ∧
      t.schedules = s.schedules ∧ t.agent = s.agent ∧ t.chan.stations = s.chan.stations ∧
      t.line.settings = s.line.settings ∧ t.line.counters = s.line.counters := by
  obtain ⟨hmoves, hrest⟩ := foldl_yardUnit_moves (unitOrder order) (permitsOff_moves s)
  exact ⟨_, rfl, hmoves, fun x => hrest x (mem_unitOrder order x), yardReset_keeps_parts order s⟩

/-- Settles O59: every operation of the reset takes the units one way (`State.yardMoves`), each unit comes to rest at its
turn (`foldl_yardUnit_moves`), and the rest is what no unit operation changes. -/
theorem yardResetStopsEveryUnit : Obligations.YardResetStopsEveryUnit := by
  unfold Obligations.YardResetStopsEveryUnit
  intro order s
  obtain ⟨t, hexec, hmoves, hrest, hclock, hschedules, hagent, hstations, hsettings, hcounters⟩ := exec_yardReset order s
  refine ⟨t, hexec, fun k => ?_, fun p => ?_, fun b => ?_, hclock, hschedules, hagent, hmoves.watches, hstations, hsettings,
    hcounters⟩
  · obtain ⟨hpermit, hconfig, hflag, hhold, hmoved⟩ := hmoves.kiln k
    have hstate : (t.kiln k).state.outOfCycle ∨
        ((t.kiln k).state = .dropping ∧ (s.kiln k).state = .dropping ∧ (s.kiln k).ring.drop = none) := by
      rcases hmoved with hout | ⟨hsame, hdrop⟩
      · exact .inl hout
      · exact (hrest (.kiln k)).imp id fun ⟨hdropping, hnone⟩ =>
          ⟨hdropping, hsame.symm.trans hdropping, hdrop.symm.trans hnone⟩
    refine ⟨hpermit, hconfig, hflag, hhold, by simpa only [KilnState.outOfCycle, or_assoc] using hstate, ?_⟩
    intro hmatches hdropping
    rcases hstate with hout | ⟨_, hfrom, hnone⟩
    · simp [KilnState.outOfCycle, hdropping] at hout
    · exact (hmatches k).mp hfrom hnone
  · exact ⟨hrest (.picker p), (hmoves.picker p).config, (hmoves.picker p).feedEnable⟩
  · obtain ⟨hauto, hrests⟩ := hrest (.press b)
    exact ⟨hauto, (hmoves.press b).config, hrests⟩

end Sys2Proof.Machine
end

section
namespace Sys2Proof.Machine

/-! ### Orders on the line (R161, R172) -/

/-- The entries that wait for the field: the Own queue down and the safety overflow list. -/
def Line.waiting (l : Line) : List OwnDown := l.ownDown ++ l.overflow

/-- No entry waits for a station. -/
def Line.clearOf (l : Line) (st : Nat) : Prop := ∀ e ∈ l.waiting, e.frame.dest ≠ st

/-- Entries joined a line, each for a station of a kind, and nothing else changed. -/
def Line.grows (own : Nat → Prop) (l m : Line) : Prop :=
  ∃ more rest, m = { l with ownDown := l.ownDown ++ more, overflow := l.overflow ++ rest } ∧
    ∀ e ∈ more ++ rest, own e.frame.dest

section
variable {own other : Nat → Prop} {l m n : Line}

theorem Line.grows.refl (l : Line) : l.grows own l := ⟨[], [], by simp, fun _ h => by cases h⟩

theorem Line.grows.trans (h : l.grows own m) (h' : m.grows own n) : l.grows own n := by
  obtain ⟨more, rest, rfl, hown⟩ := h
  obtain ⟨more', rest', rfl, hown'⟩ := h'
  refine ⟨more ++ more', rest ++ rest', by simp, fun e he => ?_⟩
  have hsplit : e ∈ more ++ rest ∨ e ∈ more' ++ rest' := by
    simp only [List.mem_append] at he ⊢
    tauto
  exact hsplit.elim (hown e) (hown' e)

theorem Line.grows.mono (h : l.grows own m) (himp : ∀ st, own st → other st) : l.grows other m := by
  obtain ⟨more, rest, hm, hown⟩ := h
  exact ⟨more, rest, hm, fun e he => himp _ (hown e he)⟩

theorem Line.grows.ownDown (h : l.grows own m) : ∃ more, m.ownDown = l.ownDown ++ more := by
  obtain ⟨more, _, rfl, _⟩ := h
  exact ⟨more, rfl⟩

theorem Line.grows.waiting (h : l.grows own m) {e : OwnDown} (he : e ∈ l.waiting) : e ∈ m.waiting := by
  obtain ⟨more, rest, rfl, _⟩ := h
  simp only [Line.waiting, List.mem_append] at he ⊢
  tauto

/-- An order that waits, or is owed at a full queue, does so in a longer queue. -/
theorem Line.grows.keepsOrder (h : l.grows own m) {e : OwnDown} {owed : Bool}
    (horder : (owed = false ∧ e ∈ l.ownDown) ∨ (owed = true ∧ 6 ≤ l.ownDown.length)) :
    (owed = false ∧ e ∈ m.ownDown) ∨ (owed = true ∧ 6 ≤ m.ownDown.length) := by
  obtain ⟨more, hmore⟩ := h.ownDown
  rw [hmore]
  refine horder.imp (fun ⟨howed, he⟩ => ⟨howed, List.mem_append_left _ he⟩) fun ⟨howed, hfull⟩ => ⟨howed, ?_⟩
  rw [List.length_append]
  omega

/-- A station that is not of the kind stays clear. -/
theorem Line.grows.clearOf (h : l.grows own m) {st : Nat} (hst : ¬own st) (hclear : l.clearOf st) : m.clearOf st := by
  obtain ⟨more, rest, rfl, hown⟩ := h
  intro e he
  have hsplit : e ∈ l.waiting ∨ e ∈ more ++ rest := by
    simp only [Line.waiting, List.mem_append] at he ⊢
    tauto
  rcases hsplit with hold | hnew
  · exact hclear e hold
  · exact fun hdest => hst (hdest ▸ hown e hnew)

end

/-- An ordinary order given: it joins the Own queue down of the station bound, or it is owed, where no place is free or where
another entry waits for the station. -/
def Line.takesOrder (l m : Line) (bound : Option Nat) (e : Nat → OwnDown) (owed : Bool) : Prop :=
  (∃ st, bound = some st ∧ owed = false ∧ m = { l with ownDown := l.ownDown ++ [e st] }) ∨
    (m = l ∧ ∀ st, bound = some st → owed = true ∧ (6 ≤ l.ownDown.length ∨ ¬l.clearOf st))

section
variable {l m : Line} {bound : Option Nat} {e : Nat → OwnDown} {owed : Bool} (h : l.takesOrder m bound e owed)
include h

/-- An order taken is the one new entry. -/
theorem Line.takesOrder.entries {R : OwnDown → Prop} (hold : ∀ d ∈ l.waiting, R d) (hnew : ∀ st, bound = some st → R (e st)) :
    ∀ d ∈ m.waiting, R d := by
  rcases h with ⟨st, hst, -, rfl⟩ | ⟨rfl, -⟩
  · intro d hd
    have hsplit : d ∈ l.waiting ∨ d = e st := by
      simp only [Line.waiting, List.mem_append, List.mem_singleton] at hd ⊢
      tauto
    rcases hsplit with hd | rfl
    · exact hold d hd
    · exact hnew st hst
  · exact hold

theorem Line.takesOrder.grows (hdest : ∀ st, (e st).frame.dest = st) : l.grows (fun st => bound = some st) m := by
  rcases h with ⟨st, hst, -, rfl⟩ | ⟨rfl, -⟩
  · refine ⟨[e st], [], by simp, fun d hd => ?_⟩
    rw [List.append_nil, List.mem_singleton] at hd
    rw [hd, hdest, hst]
  · exact .refl m

/-- An order given to a station no entry waits for waits or is owed. -/
theorem Line.takesOrder.waitsOrOwed {st : Nat} (hst : bound = some st) (hclear : l.clearOf st) :
    (owed = false ∧ e st ∈ m.ownDown) ∨ (owed = true ∧ 6 ≤ m.ownDown.length) := by
  rcases h with ⟨st', hst', howed, rfl⟩ | ⟨rfl, howed⟩
  · rw [hst, Option.some_inj] at hst'
    subst hst'
    exact .inl ⟨howed, by simp⟩
  · obtain ⟨htrue, hfull⟩ := howed st hst
    exact .inr ⟨htrue, hfull.resolve_right (not_not.mpr hclear)⟩

end

/-- The place an ordinary order finds or does not find. -/
theorem takesOrder_of_place {t : State} {st : Nat} {e : Nat → OwnDown} :
    (t.downFree = true → t.line.takesOrder { t.line with ownDown := t.line.ownDown ++ [e st] } (some st) e false) ∧
      (¬t.downFree = true → t.line.takesOrder t.line (some st) e true) := by
  refine ⟨fun _ => .inl ⟨st, rfl, rfl, rfl⟩, fun hfull => .inr ⟨rfl, fun _ _ => ⟨rfl, .inl ?_⟩⟩⟩
  exact Nat.not_lt.mp fun hlength => hfull (decide_eq_true hlength)

theorem takesOrder_none (l : Line) (e : Nat → OwnDown) (owed : Bool) : l.takesOrder l none e owed :=
  .inr ⟨rfl, fun st hst => by cases hst⟩

theorem queueDown_of_downFree {t : State} (h : t.downFree = true) (f : Frame) (injected : Bool) :
    queueDown f injected t = t.onLine fun _ =>
      { t.line with ownDown := t.line.ownDown ++ [{ frame := f, safety := false, injected := injected }] } :=
  queueDown_of_room (of_decide_eq_true h) f injected

/-! #### The units' ordinary orders -/

/-- R61: the Distributor command of a picker's loading charge. -/
theorem redistribute_takes (p : PickerId) (t : State) : ∃ o l,
    redistribute p t = (t.onPicker p fun r => { r with distributorOwed := o }).onLine (fun _ => l) ∧
      (t.loadingCharge p = none → l = t.line) ∧
      ∀ n c, t.loadingCharge p = some (n, c) →
        t.line.takesOrder l (t.bound .distributor (.picker p)) (fun st => orderTo st (kilnIndex c.kiln + 1)) o := by
  unfold redistribute
  cases hcharge : t.loadingCharge p with
  | none => exact ⟨false, t.line, rfl, fun _ => rfl, fun n c h => by cases h⟩
  | some nc =>
    obtain ⟨n, c⟩ := nc
    cases hbound : t.bound .distributor (.picker p) with
    | none =>
      refine ⟨!t.downFree, t.line, ?_, fun _ => rfl, fun _ _ _ => takesOrder_none _ _ _⟩
      cases hfree : t.downFree <;> simp [queueDistributor, hbound] <;> rfl
    | some st =>
      obtain ⟨hplace, hfull⟩ := takesOrder_of_place (t := t) (st := st) (e := fun st => orderTo st (kilnIndex c.kiln + 1))
      by_cases hfree : t.downFree = true
      · refine ⟨false, _, ?_, fun h => by (cases h), fun _ _ h => by cases h; exact hplace hfree⟩
        have hfree' : (t.onPicker p fun r => { r with distributorOwed := false }).downFree = true := hfree
        simp only [if_pos hfree, queueDistributor, State.onPicker_bound_keep, hbound, queueDown_of_downFree hfree']
        rfl
      · exact ⟨true, _, if_neg hfree, fun _ => rfl, fun _ _ h => by cases h; exact hfull hfree⟩

/-- R81: a kiln's gate order. -/
theorem regate_takes (k : KilnId) (t : State) : ∃ o l,
    regate k t = (t.onRing k fun r => { r with gateRestore := o }).onLine (fun _ => l) ∧
      t.line.takesOrder l (t.bound .dropGate (.kiln k))
        (fun st => orderTo st (if (t.kiln k).ring.drop = none then 0 else 1)) o := by
  unfold regate
  cases hbound : t.bound .dropGate (.kiln k) with
  | none => exact ⟨false, t.line, rfl, takesOrder_none _ _ _⟩
  | some st =>
    obtain ⟨hplace, hfull⟩ := takesOrder_of_place (t := t) (st := st)
      (e := fun st => orderTo st (if (t.kiln k).ring.drop = none then 0 else 1))
    by_cases hfree : t.downFree = true
    · refine ⟨false, _, ?_, hplace hfree⟩
      have hfree' : (t.onRing k fun r => { r with gateRestore := false }).downFree = true := hfree
      have hbound' : (t.onRing k fun r => { r with gateRestore := false }).bound .dropGate (.kiln k) = some st := hbound
      simp only [if_pos hfree, queueGate, hbound', queueDown_of_downFree hfree']
      cases hdrop : (t.kiln k).ring.drop <;> simp <;> rfl
    · exact ⟨true, _, if_neg hfree, hfull hfree⟩

/-- R92: one injected Command. -/
theorem injectTo_takes (k : KilnId) (target : HeatTarget) (v : Int × Nat) (t : State) : ∃ o l,
    injectTo k target v t = (setOwed k target o t).onLine (fun _ => l) ∧
      t.line.takesOrder l (t.bound (targetRole target) (.kiln k)) (fun st => injectionTo st (injectionValue target v)) o ∧
      (t.bound (targetRole target) (.kiln k) = none → o = false) := by
  unfold injectTo
  cases hbound : t.bound (targetRole target) (.kiln k) with
  | none => exact ⟨false, t.line, rfl, takesOrder_none _ _ _, fun _ => rfl⟩
  | some st =>
    obtain ⟨hplace, hfull⟩ := takesOrder_of_place (t := t) (st := st)
      (e := fun st => injectionTo st (injectionValue target v))
    by_cases hfree : t.downFree = true
    · by_cases hwaits : t.injectionWaits st = true
      · refine ⟨true, t.line, by simp only [hwaits, Bool.true_or, if_true]; rfl, .inr ⟨rfl, fun st' hst' => ⟨rfl, .inr ?_⟩⟩,
          fun h => by cases h⟩
        obtain ⟨e, he, hmatch⟩ := List.any_eq_true.mp hwaits
        cases hst'
        intro hclear
        refine hclear e (List.mem_append_left _ he) ?_
        simpa using (Bool.and_eq_true_iff.mp hmatch).2
      · refine ⟨false, _, ?_, hplace hfree, fun _ => rfl⟩
        simp only [hfree, hwaits, Bool.not_true, Bool.or_false, if_false, Bool.false_eq_true, queueDown_of_downFree hfree]
        cases target <;> rfl
    · exact ⟨true, _, by simp only [hfree, Bool.not_false, Bool.or_true, if_true]; rfl, hfull hfree, fun h => by cases h⟩

/-- R112, R127: the Run order of a press whose feed runs. -/
theorem giveRun_takes {b : PressId} {t : State} (hrun : (t.press b).feedRun = true) : ∃ o l,
    giveRun b t = (t.onPress b fun r => { r with runOwed := o }).onLine (fun _ => l) ∧
      t.line.takesOrder l (t.bound .pileFeed (.press b)) (fun st => orderTo st 1) o := by
  have hmark (o : Bool) : (t.onPress b fun r => { r with feedRun := true, runOwed := o }) =
      t.onPress b fun r => { r with runOwed := o } := State.onPress_congr (by rw [← hrun])
  unfold giveRun
  simp only [hmark, State.onPress_bound_keep, State.onPress_downFree_keep]
  cases hbound : t.bound .pileFeed (.press b) with
  | none => exact ⟨false, t.line, rfl, takesOrder_none _ _ _⟩
  | some st =>
    obtain ⟨hplace, hfull⟩ := takesOrder_of_place (t := t) (st := st) (e := fun st => orderTo st 1)
    by_cases hfree : t.downFree = true
    · have hfree' : (t.onPress b fun r => { r with runOwed := false }).downFree = true := hfree
      refine ⟨false, _, ?_, hplace hfree⟩
      simp only [if_pos hfree, queueDown_of_downFree hfree']
      rfl
    · refine ⟨true, _, ?_, hfull hfree⟩
      simp only [if_neg hfree, State.onPress_onPress]
      rfl

/-- R118, R127: the phase order of a press. -/
theorem sendPhase_takes (b : PressId) (ph : Phase) (t : State) : ∃ o l,
    sendPhase b ph t = (t.onPress b fun r => { r with phaseOwed := o }).onLine (fun _ => l) ∧
      t.line.takesOrder l (t.bound .pressHydraulics (.press b)) (fun st => orderTo st (phaseCode ph)) o := by
  unfold sendPhase
  cases hbound : t.bound .pressHydraulics (.press b) with
  | none => exact ⟨false, t.line, rfl, takesOrder_none _ _ _⟩
  | some st =>
    obtain ⟨hplace, hfull⟩ := takesOrder_of_place (t := t) (st := st) (e := fun st => orderTo st (phaseCode ph))
    by_cases hfree : t.downFree = true
    · refine ⟨false, _, ?_, hplace hfree⟩
      simp only [if_pos hfree, queueDown_of_downFree hfree]
      rfl
    · exact ⟨true, _, if_neg hfree, hfull hfree⟩

/-! #### The units' safety frames -/

/-- A safety frame queued keeps what waits, but for a frame to its station that takes its value. -/
theorem queueSafety_entries {R : OwnDown → Prop} {t : State} {st : Nat} {v : Int} (hnew : R (safetyTo st v))
    (hsafe : ∀ e, R e → e.safety = true → ∃ st' v', e = safetyTo st' v') (hold : ∀ e ∈ t.line.waiting, R e) :
    ∀ e ∈ (queueSafety (ownCommand st v) t).line.waiting, R e := by
  have htaken (e : OwnDown) (he : R e) : R (takeValue (ownCommand st v) e) := by
    unfold takeValue
    split
    · rename_i hmatch
      obtain ⟨hsafety, haddress⟩ := Bool.and_eq_true_iff.mp hmatch
      obtain ⟨st', v', rfl⟩ := hsafe e he hsafety
      have hst : st' = st := by simpa [sameAddress, safetyTo, ownCommand] using haddress
      subst hst
      exact hnew
    · exact he
  have hkept (e : OwnDown) (he : e ∈ t.line.ownDown.filter fun e => e.safety || !sameAddress (ownCommand st v) e) : R e :=
    hold e (List.mem_append_left _ (List.mem_of_mem_filter he))
  have hover (e : OwnDown) (he : e ∈ t.line.overflow) : R e := hold e (List.mem_append_right _ he)
  intro e he
  unfold queueSafety at he
  simp only [State.onLine_line] at he
  split at he
  · rcases List.mem_append.mp he with he | he <;> obtain ⟨d, hd, rfl⟩ := List.mem_map.mp he
    · exact htaken d (hkept d hd)
    · exact htaken d (hover d hd)
  · split at he
    · rcases List.mem_append.mp he with he | he
      · rcases List.mem_append.mp he with he | he
        · exact hkept e he
        · rw [List.mem_singleton] at he
          rw [he]
          exact hnew
      · exact hover e he
    · rcases List.mem_append.mp he with he | he
      · exact hkept e he
      · rcases List.mem_append.mp he with he | he
        · exact hover e he
        · rw [List.mem_singleton] at he
          rw [he]
          exact hnew

theorem safetyCommand_entries {R : OwnDown → Prop} {t : State} {role : Role} {x : UnitId} {v : Int}
    (hnew : ∀ st, t.bound role x = some st → R (safetyTo st v))
    (hsafe : ∀ e, R e → e.safety = true → ∃ st' v', e = safetyTo st' v') (hold : ∀ e ∈ t.line.waiting, R e) :
    ∀ e ∈ (safetyCommand role x v t).line.waiting, R e := by
  unfold safetyCommand
  split
  · rename_i st hst
    exact queueSafety_entries (hnew st hst) hsafe hold
  · exact hold

/-- A safety frame to a station no entry waits for joins what waits. -/
theorem queueSafety_grows {t : State} {st : Nat} (v : Int) (hclear : t.line.clearOf st) :
    t.line.grows (fun d => d = st) (queueSafety (ownCommand st v) t).line ∧
      safetyTo st v ∈ (queueSafety (ownCommand st v) t).line.waiting := by
  have hno (e : OwnDown) (he : e ∈ t.line.waiting) : sameAddress (ownCommand st v) e = false := by
    have hdest := hclear e he
    simp [sameAddress, ownCommand, hdest]
  have hkept : (t.line.ownDown.filter fun e => e.safety || !sameAddress (ownCommand st v) e) = t.line.ownDown :=
    List.filter_eq_self.mpr fun e he => by simp [hno e (List.mem_append_left _ he)]
  obtain ⟨hroom, hfull⟩ := queueSafety_of_new (f := ownCommand st v) (s := t) fun e he => by
    rw [hkept] at he
    exact .inr (hno e he)
  rw [hkept] at hroom hfull
  by_cases hlength : t.line.ownDown.length < 8
  · rw [hroom hlength]
    refine ⟨⟨[safetyTo st v], [], by simp [safetyTo], fun e he => ?_⟩, by simp [Line.waiting, safetyTo]⟩
    rw [List.append_nil, List.mem_singleton] at he
    rw [he]
    rfl
  · rw [hfull (Nat.not_lt.mp hlength)]
    refine ⟨⟨[], [safetyTo st v], by simp [safetyTo], fun e he => ?_⟩, by simp [Line.waiting, safetyTo]⟩
    rw [List.nil_append, List.mem_singleton] at he
    rw [he]
    rfl

theorem safetyCommand_grows {t : State} {role : Role} {x : UnitId} (v : Int)
    (hclear : ∀ st, t.bound role x = some st → t.line.clearOf st) :
    t.line.grows (fun st => t.bound role x = some st) (safetyCommand role x v t).line ∧
      ∀ st, t.bound role x = some st → safetyTo st v ∈ (safetyCommand role x v t).line.waiting := by
  unfold safetyCommand
  split
  · rename_i st hst
    obtain ⟨hgrows, hwaits⟩ := queueSafety_grows v (hclear st hst)
    refine ⟨hgrows.mono fun d hd => hd ▸ hst, fun st' hst' => ?_⟩
    rw [hst, Option.some_inj] at hst'
    exact hst' ▸ hwaits
  · rename_i hnone
    exact ⟨.refl _, fun st hst => by rw [hnone] at hst; cases hst⟩

/-- A value of a Command is read back where it fits. -/
theorem safetyWaits_of_mem {t : State} {st : Nat} {v : Int} (h : safetyTo st v ∈ t.line.waiting) (hlow : -2147483648 ≤ v)
    (hhigh : v < 2147483648) : t.safetyWaits st v := by
  refine ⟨_, h, rfl, rfl, rfl, ?_⟩
  have hvalue := intOfBytes_fieldInt (n := 4) (v := v) (by decide) (by simpa using hlow) (by simpa using hhigh)
  rwa [safetyTo, commandValue, ownCommand, List.take_of_length_le (by simp)]

end Sys2Proof.Machine
end

section
namespace Sys2Proof.Machine

/-! ### A unit's turn at a Line Reset (R61, R81, R105, R127) -/

/-- What a unit queues again. -/
def State.unitRestores (s : State) : UnitId → OwnDown → Prop
  | .picker p, e =>
    ∃ st, (∃ n c, s.loadingCharge p = some (n, c) ∧ s.bound .distributor (.picker p) = some st ∧
        e = orderTo st (kilnIndex c.kiln + 1)) ∨
      ((s.picker p).state ≠ .running ∧ s.bound .feedDrive (.picker p) = some st ∧ e = safetyTo st 0)
  | .kiln k, e =>
    ∃ st, (s.bound .dropGate (.kiln k) = some st ∧ e = orderTo st (if (s.kiln k).ring.drop = none then 0 else 1)) ∨
      ((s.kiln k).queuesPurge ∧ ((s.bound .burner (.kiln k) = some st ∧ e = safetyTo st 0) ∨
        (s.bound .fan (.kiln k) = some st ∧ e = safetyTo st (s.kiln k).config.purgeFan))) ∨
      (¬(s.kiln k).queuesPurge ∧ ∃ v, (s.kiln k).injection = some v ∧
        ((s.bound .burner (.kiln k) = some st ∧ e = injectionTo st v.1) ∨
          (s.bound .fan (.kiln k) = some st ∧ e = injectionTo st v.2)))
  | .press b, e =>
    ∃ st, (s.bound .pileFeed (.press b) = some st ∧ (((s.press b).feedRun = true ∧ e = orderTo st 1) ∨
        ((s.press b).feedRun = false ∧ (s.press b).bale ≠ none ∧ e = safetyTo st 0))) ∨
      (s.bound .pressHydraulics (.press b) = some st ∧
        ((∃ v, phaseOrderOf (s.press b).state = some v ∧ e = orderTo st v) ∨
          ((s.press b).state = .faulted ∧ e = safetyTo st 0)))

/-- The orders of a unit wait or are owed. -/
def State.ordersWait (s t : State) : UnitId → Prop
  | .picker p =>
    (∀ n c st, s.loadingCharge p = some (n, c) → s.bound .distributor (.picker p) = some st →
        t.waitsOrOwed (orderTo st (kilnIndex c.kiln + 1)) (t.picker p).distributorOwed) ∧
      ((s.picker p).state ≠ .running → s.feedStopWaits t p)
  | .kiln k =>
    (∀ st, s.bound .dropGate (.kiln k) = some st →
        t.waitsOrOwed (orderTo st (if (s.kiln k).ring.drop = none then 0 else 1)) (t.kiln k).ring.gateRestore) ∧
      ((s.kiln k).queuesPurge → (t.kiln k).burnerOwed = false ∧ (t.kiln k).fanOwed = false ∧
        (∀ st, s.bound .burner (.kiln k) = some st → t.safetyWaits st 0) ∧
        ((s.kiln k).config.purgeFan ≤ 100 → ∀ st, s.bound .fan (.kiln k) = some st →
          t.safetyWaits st (s.kiln k).config.purgeFan)) ∧
      (¬(s.kiln k).queuesPurge →
        ((s.kiln k).injection = none → (t.kiln k).burnerOwed = false ∧ (t.kiln k).fanOwed = false) ∧
        ∀ v, (s.kiln k).injection = some v → (t.kiln k).lastInjection = some s.now ∧
          (s.bound .burner (.kiln k) = none → (t.kiln k).burnerOwed = false) ∧
          (s.bound .fan (.kiln k) = none → (t.kiln k).fanOwed = false) ∧
          (∀ st, s.bound .burner (.kiln k) = some st → t.waitsOrOwed (injectionTo st v.1) (t.kiln k).burnerOwed) ∧
          (∀ st, s.bound .fan (.kiln k) = some st → t.waitsOrOwed (injectionTo st v.2) (t.kiln k).fanOwed))
  | .press b =>
    (∀ st, s.bound .pileFeed (.press b) = some st →
        ((s.press b).feedRun = true → t.waitsOrOwed (orderTo st 1) (t.press b).runOwed) ∧
        ((s.press b).feedRun = false → (s.press b).bale ≠ none → t.safetyWaits st 0)) ∧
      ∀ st, s.bound .pressHydraulics (.press b) = some st →
        (∀ v, phaseOrderOf (s.press b).state = some v → t.waitsOrOwed (orderTo st v) (t.press b).phaseOwed) ∧
        ((s.press b).state = .faulted → t.safetyWaits st 0)

/-- A kiln with other marks and another last injection. -/
def Kiln.remarked (gate burner fan : Bool) (last : Option Nat) (r : Kiln) : Kiln :=
  { r with burnerOwed := burner, fanOwed := fan, lastInjection := last, ring := { r.ring with gateRestore := gate } }

/-- A state with other marks at one unit, and another line. -/
def State.remarked (s t : State) : UnitId → Prop
  | .picker p => ∃ o l, t = (s.onPicker p fun r => { r with distributorOwed := o }).onLine fun _ => l
  | .kiln k => ∃ gate burner fan last l, t = (s.onKiln k (Kiln.remarked gate burner fan last)).onLine fun _ => l
  | .press b => ∃ run phase l, t = (s.onPress b fun r => { r with runOwed := run, phaseOwed := phase }).onLine fun _ => l

/-- No injection of a kiln is owed. -/
def State.unowed (s : State) : UnitId → Prop
  | .kiln k => (s.kiln k).burnerOwed = false ∧ (s.kiln k).fanOwed = false
  | _ => True

/-- No two bindings name one station. -/
def State.bindsApart (s : State) : Prop :=
  ∀ role role' x x' st, s.bound role x = some st → s.bound role' x' = some st → role = role' ∧ x = x'

/-- The stations bound to a unit. -/
def State.ownStation (s : State) (x : UnitId) (st : Nat) : Prop := ∃ role, s.bound role x = some st

/-- Entries of which every safety frame is one of the units' own. -/
def OwnSafety (R : OwnDown → Prop) : Prop := ∀ e, R e → e.safety = true → ∃ st v, e = safetyTo st v

/-- What a unit's turn does: it writes the unit's marks, it queues what the unit restores, and its orders wait, where its
stations are its own and nothing waits for them. -/
structure State.restoredBy (s t : State) (x : UnitId) : Prop where
  marks : s.remarked t x
  entries : ∀ {R : OwnDown → Prop}, OwnSafety R → (∀ e, s.unitRestores x e → R e) → (∀ e ∈ s.line.waiting, R e) →
    ∀ e ∈ t.line.waiting, R e
  orders : s.bindsApart → (∀ st, s.ownStation x st → s.line.clearOf st) → s.unowed x →
    s.line.grows (s.ownStation x) t.line ∧ s.ordersWait t x

section
variable {s t u : State} {own : Nat → Prop}

theorem waitsOrOwed_of_grows (h : t.line.grows own u.line) {e : OwnDown} {owed : Bool} (hwaits : t.waitsOrOwed e owed) :
    u.waitsOrOwed e owed := h.keepsOrder hwaits

theorem safetyWaits_of_grows (h : t.line.grows own u.line) {st : Nat} {v : Int} (hwaits : t.safetyWaits st v) :
    u.safetyWaits st v := by
  obtain ⟨e, he, hsafe⟩ := hwaits
  exact ⟨e, h.waiting he, hsafe⟩

/-- The stations of another role are still clear. -/
theorem clearOf_other_role (hapart : s.bindsApart) {x : UnitId} {role role' : Role} (hne : role ≠ role') {l m : Line}
    (hgrows : l.grows (fun st => s.bound role x = some st) m) {st : Nat} (hst : s.bound role' x = some st)
    (hclear : l.clearOf st) : m.clearOf st :=
  hgrows.clearOf (fun hother => hne (hapart role role' x x st hother hst).1) hclear

end

/-! #### A picker's turn -/

theorem restorePicker_restoredBy (p : PickerId) (s : State) : s.restoredBy (restorePicker p s) (.picker p) := by
  obtain ⟨o, l, heq, hnone, htakes⟩ := redistribute_takes p s
  have hgrows : s.line.grows (fun st => s.bound .distributor (.picker p) = some st) l := by
    cases hcharge : s.loadingCharge p with
    | none => exact hnone hcharge ▸ .refl _
    | some nc => exact (htakes nc.1 nc.2 hcharge).grows fun _ => rfl
  have hentries {R : OwnDown → Prop} (hR : ∀ e, s.unitRestores (.picker p) e → R e) (hold : ∀ e ∈ s.line.waiting, R e) :
      ∀ e ∈ l.waiting, R e := by
    cases hcharge : s.loadingCharge p with
    | none => exact hnone hcharge ▸ hold
    | some nc =>
      exact (htakes nc.1 nc.2 hcharge).entries hold fun st hst => hR _ ⟨st, .inl ⟨nc.1, nc.2, hcharge, hst, rfl⟩⟩
  have howed : ((redistribute p s).picker p).distributorOwed = o := by rw [heq]; simp
  have hstate : ((redistribute p s).picker p).state = (s.picker p).state := by rw [heq]; simp
  have hbound (role : Role) : (redistribute p s).bound role (.picker p) = s.bound role (.picker p) := by rw [heq]; simp
  have hline : (redistribute p s).line = l := by rw [heq]; rfl
  have horder (hclear : ∀ st, s.ownStation (.picker p) st → s.line.clearOf st) (n : Nat) (c : Charge) (st : Nat)
      (hcharge : s.loadingCharge p = some (n, c)) (hst : s.bound .distributor (.picker p) = some st) :
      (redistribute p s).waitsOrOwed (orderTo st (kilnIndex c.kiln + 1)) o := by
    rw [State.waitsOrOwed, hline]
    exact (htakes n c hcharge).waitsOrOwed hst (hclear st ⟨_, hst⟩)
  have hown {role : Role} {st : Nat} (h : s.bound role (.picker p) = some st) : s.ownStation (.picker p) st := ⟨role, h⟩
  by_cases hrun : (s.picker p).state = .running
  · rw [restorePicker, if_pos (hstate.trans hrun)]
    refine ⟨⟨o, l, heq⟩, fun _ hR hold => by rw [hline]; exact hentries hR hold, fun _ hclear _ => ⟨?_, ?_, ?_⟩⟩
    · rw [hline]
      exact hgrows.mono fun _ h => hown h
    · rw [howed]
      exact horder hclear
    · exact fun h => absurd hrun h
  · rw [restorePicker, if_neg (fun h => hrun (hstate.symm.trans h)), feedStop]
    obtain ⟨g, hg⟩ := safetyCommand_eq_onLine .feedDrive (.picker p) 0 (redistribute p s)
    refine ⟨⟨o, g l, by rw [hg, heq]; rfl⟩, fun hsafe hR hold => ?_, fun hapart hclear _ => ?_⟩
    · refine safetyCommand_entries (fun st hst => hR _ ⟨st, .inr ⟨hrun, ?_, rfl⟩⟩) hsafe ?_
      · rwa [hbound] at hst
      · rw [hline]
        exact hentries hR hold
    · obtain ⟨hgrew, hwaits⟩ := safetyCommand_grows (t := redistribute p s) (role := .feedDrive) (x := .picker p) 0
        fun st hst => by
          rw [hbound] at hst
          rw [hline]
          exact clearOf_other_role hapart (by decide) hgrows hst (hclear st (hown hst))
      refine ⟨?_, fun n c st hcharge hst => ?_, fun _ st hst => ?_⟩
      · refine (hgrows.mono fun _ h => hown h).trans ?_
        rw [← hline]
        exact hgrew.mono fun st h => hown ((hbound _).symm.trans h)
      · have hsame : ((safetyCommand .feedDrive (.picker p) 0 (redistribute p s)).picker p).distributorOwed = o := by
          rw [hg, State.onLine_picker_keep, howed]
        rw [hsame]
        exact waitsOrOwed_of_grows hgrew (horder hclear n c st hcharge hst)
      · exact safetyWaits_of_mem (hwaits st ((hbound _).trans hst)) (by decide) (by decide)

end Sys2Proof.Machine
end

section
namespace Sys2Proof.Machine

/-! #### A kiln's turn -/

theorem State.bindsApart_congr {s t : State} (h : t.chan.stations = s.chan.stations) (hapart : s.bindsApart) : t.bindsApart := by
  intro role role' x x' st hst hst'
  rw [State.bound_congr h] at hst hst'
  exact hapart role role' x x' st hst hst'

/-- R105: the purge frames of a kiln, Burner Off and Fan purge. -/
theorem purgeFrames_entries {R : OwnDown → Prop} (hsafe : OwnSafety R) {k : KilnId} {t : State}
    (hburner : ∀ st, t.bound .burner (.kiln k) = some st → R (safetyTo st 0))
    (hfan : ∀ st, t.bound .fan (.kiln k) = some st → R (safetyTo st (t.kiln k).config.purgeFan))
    (hold : ∀ e ∈ t.line.waiting, R e) : ∀ e ∈ (purgeFrames k t).line.waiting, R e := by
  refine safetyCommand_entries (fun st hst => hfan st ?_) hsafe (safetyCommand_entries hburner hsafe hold)
  obtain ⟨g, hg⟩ := safetyCommand_eq_onLine .burner (.kiln k) 0 t
  rwa [hg] at hst

theorem purgeFrames_grows {k : KilnId} {t : State} (hapart : t.bindsApart)
    (hburner : ∀ st, t.bound .burner (.kiln k) = some st → t.line.clearOf st)
    (hfan : ∀ st, t.bound .fan (.kiln k) = some st → t.line.clearOf st) :
    t.line.grows (t.ownStation (.kiln k)) (purgeFrames k t).line ∧
      (∀ st, t.bound .burner (.kiln k) = some st → safetyTo st 0 ∈ (purgeFrames k t).line.waiting) ∧
      ∀ st, t.bound .fan (.kiln k) = some st →
        safetyTo st (t.kiln k).config.purgeFan ∈ (purgeFrames k t).line.waiting := by
  obtain ⟨hgrows, hwaits⟩ := safetyCommand_grows (t := t) (role := .burner) (x := .kiln k) 0 hburner
  obtain ⟨g, hg⟩ := safetyCommand_eq_onLine .burner (.kiln k) 0 t
  have hbound : (safetyCommand .burner (.kiln k) 0 t).bound .fan (.kiln k) = t.bound .fan (.kiln k) := by rw [hg]; rfl
  obtain ⟨hgrows', hwaits'⟩ := safetyCommand_grows (t := safetyCommand .burner (.kiln k) 0 t) (role := .fan) (x := .kiln k)
    (t.kiln k).config.purgeFan fun st hst => by
      rw [hbound] at hst
      exact clearOf_other_role hapart (by decide) hgrows hst (hfan st hst)
  rw [hbound] at hgrows' hwaits'
  exact ⟨(hgrows.mono fun st h => ⟨_, h⟩).trans (hgrows'.mono fun st h => ⟨_, h⟩),
    fun st hst => hgrows'.waiting (hwaits st hst), hwaits'⟩

/-- R92: an injection gives an order to the Burner and then one to the Fan. -/
theorem inject_takes {k : KilnId} {t : State} {v : Int × Nat} (h : (t.kiln k).injection = some v) : ∃ burner fan m l,
    inject k t = (t.onKiln k fun r =>
      { r with burnerOwed := burner, fanOwed := fan, lastInjection := some t.now }).onLine (fun _ => l) ∧
      t.line.takesOrder m (t.bound .burner (.kiln k)) (fun st => injectionTo st v.1) burner ∧
      m.takesOrder l (t.bound .fan (.kiln k)) (fun st => injectionTo st v.2) fan ∧
      (t.bound .burner (.kiln k) = none → burner = false) ∧ (t.bound .fan (.kiln k) = none → fan = false) := by
  obtain ⟨burner, m, hburner, htakes, hunbound⟩ := injectTo_takes k .burner v t
  obtain ⟨fan, l, hfan, htakes', hunbound'⟩ := injectTo_takes k .fan v ((setOwed k .burner burner t).onLine fun _ => m)
  refine ⟨burner, fan, m, l, ?_, htakes, htakes', hunbound, hunbound'⟩
  simp only [inject, h, hburner, hfan]
  cases k <;> rfl

/-- R105: a Tripped kiln, or one in Dropping with its permit Tripped. -/
theorem Kiln.purged_iff (r : Kiln) : r.purged = true ↔ r.queuesPurge := by
  simp [Kiln.purged, Kiln.queuesPurge]

/-- R81: the state once a kiln's gate order is given. -/
structure State.regated (s t : State) (k : KilnId) (gate : Bool) : Prop where
  marks : ∃ l, t = (s.onRing k fun r => { r with gateRestore := gate }).onLine fun _ => l
  takes : s.line.takesOrder t.line (s.bound .dropGate (.kiln k))
    (fun st => orderTo st (if (s.kiln k).ring.drop = none then 0 else 1)) gate

section
variable {s t : State} {k : KilnId} {gate : Bool} (h : s.regated t k gate)
include h

theorem State.regated.stations : t.chan.stations = s.chan.stations := by obtain ⟨⟨_, rfl⟩, _⟩ := h; rfl

theorem State.regated.now : t.now = s.now := by obtain ⟨⟨_, rfl⟩, _⟩ := h; rfl

theorem State.regated.kiln : t.kiln k = { s.kiln k with ring := { (s.kiln k).ring with gateRestore := gate } } := by
  obtain ⟨⟨l, rfl⟩, _⟩ := h
  rw [State.onLine_kiln_keep, State.kiln_onRing_same]

theorem State.regated.injection : (t.kiln k).injection = (s.kiln k).injection := by rw [h.kiln]; rfl

theorem State.regated.queuesPurge : (t.kiln k).queuesPurge ↔ (s.kiln k).queuesPurge := by rw [h.kiln]; rfl

theorem State.regated.grows : s.line.grows (fun st => s.bound .dropGate (.kiln k) = some st) t.line :=
  h.takes.grows fun _ => rfl

/-- The kiln's other stations are still clear. -/
theorem State.regated.clearOf (hapart : s.bindsApart) {role : Role} (hrole : Role.dropGate ≠ role) {st : Nat}
    (hst : s.bound role (.kiln k) = some st) (hclear : ∀ st, s.ownStation (.kiln k) st → s.line.clearOf st) :
    t.line.clearOf st := clearOf_other_role hapart hrole h.grows hst (hclear st ⟨role, hst⟩)

theorem State.regated.entries {R : OwnDown → Prop} (hR : ∀ e, s.unitRestores (.kiln k) e → R e)
    (hold : ∀ e ∈ s.line.waiting, R e) : ∀ e ∈ t.line.waiting, R e :=
  h.takes.entries hold fun st hst => hR _ ⟨st, .inl ⟨hst, rfl⟩⟩

/-- What follows the gate order keeps it. -/
theorem State.regated.orders {u : State} {own : Nat → Prop} (hgrew : t.line.grows own u.line)
    (hgate : (u.kiln k).ring.gateRestore = gate) (hclear : ∀ st, s.ownStation (.kiln k) st → s.line.clearOf st) (st : Nat)
    (hst : s.bound .dropGate (.kiln k) = some st) :
    u.waitsOrOwed (orderTo st (if (s.kiln k).ring.drop = none then 0 else 1)) (u.kiln k).ring.gateRestore := by
  rw [hgate]
  exact waitsOrOwed_of_grows hgrew (h.takes.waitsOrOwed hst (hclear st ⟨_, hst⟩))

theorem State.regated.purge_restoredBy (hpurge : (s.kiln k).queuesPurge) : s.restoredBy (purgeFrames k t) (.kiln k) := by
  obtain ⟨g, hg⟩ : ∃ g, purgeFrames k t = t.onLine g := by
    obtain ⟨g, hg⟩ := safetyCommand_eq_onLine .burner (.kiln k) 0 t
    obtain ⟨g', hg'⟩ := safetyCommand_eq_onLine .fan (.kiln k) (t.kiln k).config.purgeFan
      (safetyCommand .burner (.kiln k) 0 t)
    exact ⟨fun l => g' (g l), by rw [purgeFrames, hg', hg]; rfl⟩
  have hbound (role : Role) : t.bound role (.kiln k) = s.bound role (.kiln k) := State.bound_congr h.stations _ _
  have hconfig : (t.kiln k).config = (s.kiln k).config := by rw [h.kiln]
  have hkiln : (purgeFrames k t).kiln k = t.kiln k := by rw [hg, State.onLine_kiln_keep]
  refine ⟨?_, fun hsafe hR hold => ?_, fun hapart hclear hunowed => ?_⟩
  · obtain ⟨l, hl⟩ := h.marks
    refine ⟨gate, (s.kiln k).burnerOwed, (s.kiln k).fanOwed, (s.kiln k).lastInjection, g l, ?_⟩
    rw [hg, hl, State.onRing, State.onLine_onLine]
    exact congrArg (State.onLine · fun _ => g l) (State.onKiln_congr rfl)
  · refine purgeFrames_entries hsafe (fun st hst => hR _ ⟨st, .inr (.inl ⟨hpurge, .inl ⟨?_, rfl⟩⟩)⟩)
      (fun st hst => hR _ ⟨st, .inr (.inl ⟨hpurge, .inr ⟨?_, by rw [hconfig]⟩⟩)⟩) (h.entries hR hold)
    · rwa [hbound] at hst
    · rwa [hbound] at hst
  · obtain ⟨hburnerOwed, hfanOwed⟩ := hunowed
    have hafter (role : Role) (hrole : Role.dropGate ≠ role) (st : Nat) (hst : t.bound role (.kiln k) = some st) :
        t.line.clearOf st := by
      rw [hbound] at hst
      exact h.clearOf hapart hrole hst hclear
    obtain ⟨hgrew, hburner, hfan⟩ := purgeFrames_grows (State.bindsApart_congr h.stations hapart)
      (hafter .burner (by decide)) (hafter .fan (by decide))
    simp only [hbound, hconfig] at hburner hfan
    refine ⟨?_, h.orders hgrew (by rw [hkiln, h.kiln]) hclear, fun _ => ?_, fun hno => absurd hpurge hno⟩
    · refine (h.grows.mono fun st hst => ⟨_, hst⟩).trans (hgrew.mono fun st ⟨role, hst⟩ => ⟨role, ?_⟩)
      rwa [hbound] at hst
    · rw [hkiln, h.kiln]
      refine ⟨hburnerOwed, hfanOwed, fun st hst => safetyWaits_of_mem (hburner st hst) (by decide) (by decide),
        fun hsmall st hst => safetyWaits_of_mem (hfan st hst) (by omega) (by omega)⟩

theorem State.regated.inject_restoredBy (hpurge : ¬(s.kiln k).queuesPurge) : s.restoredBy (inject k t) (.kiln k) := by
  have hbound (role : Role) : t.bound role (.kiln k) = s.bound role (.kiln k) := State.bound_congr h.stations _ _
  obtain ⟨m, hm⟩ := h.marks
  cases hinjection : (s.kiln k).injection with
  | none =>
    have hsame : inject k t = t := by simp only [inject, h.injection, hinjection]
    rw [hsame]
    refine ⟨?_, fun _ hR hold => h.entries hR hold, fun hapart hclear hunowed => ?_⟩
    · refine ⟨gate, (s.kiln k).burnerOwed, (s.kiln k).fanOwed, (s.kiln k).lastInjection, m, ?_⟩
      rw [hm, State.onRing]
      exact congrArg (State.onLine · fun _ => m) (State.onKiln_congr rfl)
    · obtain ⟨hburnerOwed, hfanOwed⟩ := hunowed
      refine ⟨h.grows.mono fun st hst => ⟨_, hst⟩, h.orders (own := fun _ => True) (.refl _) (by rw [h.kiln]) hclear,
        fun hyes => absurd hyes hpurge, fun _ => ⟨fun _ => ?_, fun v hv => ?_⟩⟩
      · rw [h.kiln]
        exact ⟨hburnerOwed, hfanOwed⟩
      · rw [hinjection] at hv
        cases hv
  | some v =>
    obtain ⟨burner, fan, n, l, heq, hburner, hfan, hunbound, hunbound'⟩ := inject_takes (h.injection.trans hinjection)
    rw [hbound] at hburner hfan hunbound hunbound'
    have hkiln : (inject k t).kiln k = (s.kiln k).remarked gate burner fan (some s.now) := by
      rw [heq, State.onLine_kiln_keep, State.kiln_onKiln_same, h.kiln, h.now]
      rfl
    have hline : (inject k t).line = l := by rw [heq]; rfl
    have hgrew := hburner.grows fun _ => rfl
    have hgrew' := hfan.grows fun _ => rfl
    rw [← hline] at hgrew'
    refine ⟨⟨gate, burner, fan, some s.now, l, ?_⟩, fun _ hR hold => ?_, fun hapart hclear _ => ?_⟩
    · rw [heq, h.now, hm, State.onRing]
      cases k <;> rfl
    · rw [hline]
      refine hfan.entries (hburner.entries (h.entries hR hold) fun st hst => ?_) fun st hst => ?_
      · exact hR _ ⟨st, .inr (.inr ⟨hpurge, v, hinjection, .inl ⟨hst, rfl⟩⟩)⟩
      · exact hR _ ⟨st, .inr (.inr ⟨hpurge, v, hinjection, .inr ⟨hst, rfl⟩⟩)⟩
    · have hall : t.line.grows (s.ownStation (.kiln k)) (inject k t).line :=
        (hgrew.mono fun st hst => ⟨_, hst⟩).trans (hgrew'.mono fun st hst => ⟨_, hst⟩)
      refine ⟨(h.grows.mono fun st hst => ⟨_, hst⟩).trans hall, h.orders hall (by rw [hkiln]; rfl) hclear,
        fun hyes => absurd hyes hpurge, fun _ => ⟨fun hnone => ?_, fun w hw => ?_⟩⟩
      · rw [hinjection] at hnone
        cases hnone
      · rw [hinjection, Option.some_inj] at hw
        subst hw
        rw [hkiln]
        refine ⟨rfl, hunbound, hunbound', fun st hst => ?_, fun st hst => ?_⟩
        · have hclearBurner := h.clearOf hapart (by decide) hst hclear
          exact hgrew'.keepsOrder (hburner.waitsOrOwed hst hclearBurner)
        · have hclearFan := clearOf_other_role hapart (by decide) hgrew hst (h.clearOf hapart (by decide) hst hclear)
          rw [State.waitsOrOwed, hline]
          exact hfan.waitsOrOwed hst hclearFan

end

theorem restoreKiln_restoredBy (k : KilnId) (s : State) : s.restoredBy (restoreKiln k s) (.kiln k) := by
  obtain ⟨gate, l, heq, htakes⟩ := regate_takes k s
  have h : s.regated (regate k s) k gate := ⟨⟨l, heq⟩, by rw [heq]; exact htakes⟩
  have hpurged : ((regate k s).kiln k).purged = true ↔ (s.kiln k).queuesPurge :=
    (Kiln.purged_iff _).trans h.queuesPurge
  by_cases hpurge : (s.kiln k).queuesPurge
  · rw [restoreKiln, if_pos (hpurged.mpr hpurge)]
    exact h.purge_restoredBy hpurge
  · rw [restoreKiln, if_neg (fun hyes => hpurge (hpurged.mp hyes))]
    exact h.inject_restoredBy hpurge

end Sys2Proof.Machine
end

section
namespace Sys2Proof.Machine

/-! #### A press's turn -/

/-- What a press queues again for its PileFeed. -/
def State.feedRestores (s : State) (b : PressId) (e : OwnDown) : Prop :=
  ∃ st, s.bound .pileFeed (.press b) = some st ∧ (((s.press b).feedRun = true ∧ e = orderTo st 1) ∨
    ((s.press b).feedRun = false ∧ (s.press b).bale ≠ none ∧ e = safetyTo st 0))

/-- What a press queues again for its PressHydraulics. -/
def State.phaseRestores (s : State) (b : PressId) (e : OwnDown) : Prop :=
  ∃ st, s.bound .pressHydraulics (.press b) = some st ∧
    ((∃ v, phaseOrderOf (s.press b).state = some v ∧ e = orderTo st v) ∨
      ((s.press b).state = .faulted ∧ e = safetyTo st 0))

/-- The first half of a press's turn: its PileFeed order. -/
def restoreFeed (b : PressId) (s : State) : State :=
  if (s.press b).feedRun then giveRun b s
  else if (s.press b).bale.isSome then safetyCommand .pileFeed (.press b) 0 s
  else s

/-- The second half of a press's turn: its phase order. -/
def restorePhase (b : PressId) (s : State) : State :=
  match phaseOf (s.press b).state with
  | some ph => sendPhase b ph s
  | none => if (s.press b).state = .faulted then safetyCommand .pressHydraulics (.press b) 0 s else s

theorem restorePress_eq (b : PressId) (s : State) : restorePress b s = restorePhase b (restoreFeed b s) := rfl

theorem restoreFeed_eq (b : PressId) (s : State) : ∃ run l,
    restoreFeed b s = (s.onPress b fun r => { r with runOwed := run }).onLine fun _ => l := by
  have hself : (s.onPress b fun r => { r with runOwed := (s.press b).runOwed }) = s :=
    (State.onPress_congr (g := fun r => r) rfl).trans (by cases b <;> rfl)
  unfold restoreFeed
  split
  · rename_i hrun
    obtain ⟨o, l, heq, -⟩ := giveRun_takes hrun
    exact ⟨o, l, heq⟩
  · split
    · obtain ⟨g, hg⟩ := safetyCommand_eq_onLine .pileFeed (.press b) 0 s
      exact ⟨(s.press b).runOwed, g s.line, by rw [hg, hself]; rfl⟩
    · exact ⟨(s.press b).runOwed, s.line, by rw [hself]; rfl⟩

theorem restorePhase_eq (b : PressId) (s : State) : ∃ phase l,
    restorePhase b s = (s.onPress b fun r => { r with phaseOwed := phase }).onLine fun _ => l := by
  have hself : (s.onPress b fun r => { r with phaseOwed := (s.press b).phaseOwed }) = s :=
    (State.onPress_congr (g := fun r => r) rfl).trans (by cases b <;> rfl)
  unfold restorePhase
  split
  · obtain ⟨o, l, heq, -⟩ := sendPhase_takes b _ s
    exact ⟨o, l, heq⟩
  · split
    · obtain ⟨g, hg⟩ := safetyCommand_eq_onLine .pressHydraulics (.press b) 0 s
      exact ⟨(s.press b).phaseOwed, g s.line, by rw [hg, hself]; rfl⟩
    · exact ⟨(s.press b).phaseOwed, s.line, by rw [hself]; rfl⟩

theorem restoreFeed_entries {R : OwnDown → Prop} (hsafe : OwnSafety R) {b : PressId} {s : State}
    (hR : ∀ e, s.feedRestores b e → R e) (hold : ∀ e ∈ s.line.waiting, R e) :
    ∀ e ∈ (restoreFeed b s).line.waiting, R e := by
  unfold restoreFeed
  split
  · rename_i hrun
    obtain ⟨o, l, heq, htakes⟩ := giveRun_takes hrun
    rw [heq]
    exact htakes.entries hold fun st hst => hR _ ⟨st, hst, .inl ⟨hrun, rfl⟩⟩
  · rename_i hrun
    split
    · rename_i hbale
      exact safetyCommand_entries (fun st hst => hR _ ⟨st, hst, .inr
        ⟨Bool.not_eq_true _ ▸ hrun, Option.isSome_iff_ne_none.mp hbale, rfl⟩⟩) hsafe hold
    · exact hold

/-- R127: the PileFeed order of a press waits or is owed. -/
theorem restoreFeed_orders {b : PressId} {s : State}
    (hclear : ∀ st, s.bound .pileFeed (.press b) = some st → s.line.clearOf st) :
    s.line.grows (fun st => s.bound .pileFeed (.press b) = some st) (restoreFeed b s).line ∧
      ∀ st, s.bound .pileFeed (.press b) = some st →
        ((s.press b).feedRun = true →
          (restoreFeed b s).waitsOrOwed (orderTo st 1) ((restoreFeed b s).press b).runOwed) ∧
        ((s.press b).feedRun = false → (s.press b).bale ≠ none → (restoreFeed b s).safetyWaits st 0) := by
  unfold restoreFeed
  split
  · rename_i hrun
    obtain ⟨o, l, heq, htakes⟩ := giveRun_takes hrun
    have howed : ((giveRun b s).press b).runOwed = o := by rw [heq]; simp
    have hline : (giveRun b s).line = l := by rw [heq]; rfl
    rw [howed, hline]
    refine ⟨htakes.grows fun _ => rfl, fun st hst => ⟨fun _ => ?_, fun hno => by rw [hrun] at hno; cases hno⟩⟩
    rw [State.waitsOrOwed, hline]
    exact htakes.waitsOrOwed hst (hclear st hst)
  · rename_i hrun
    split
    · obtain ⟨hgrew, hwaits⟩ := safetyCommand_grows 0 hclear
      exact ⟨hgrew, fun st hst => ⟨fun hyes => absurd hyes hrun, fun _ _ =>
        safetyWaits_of_mem (hwaits st hst) (by decide) (by decide)⟩⟩
    · rename_i hbale
      exact ⟨.refl _, fun st _ => ⟨fun hyes => absurd hyes hrun, fun _ hsome =>
        absurd (Option.isSome_iff_ne_none.mpr hsome) hbale⟩⟩

/-- R118: the value that orders a phase. -/
theorem phaseOrderOf_eq (st : PressState) : phaseOrderOf st = (phaseOf st).map phaseCode := by
  cases st <;> rfl

theorem restorePhase_entries {R : OwnDown → Prop} (hsafe : OwnSafety R) {b : PressId} {s : State}
    (hR : ∀ e, s.phaseRestores b e → R e) (hold : ∀ e ∈ s.line.waiting, R e) :
    ∀ e ∈ (restorePhase b s).line.waiting, R e := by
  unfold restorePhase
  split
  · rename_i ph hph
    obtain ⟨o, l, heq, htakes⟩ := sendPhase_takes b ph s
    rw [heq]
    exact htakes.entries hold fun st hst => hR _ ⟨st, hst, .inl ⟨phaseCode ph, by rw [phaseOrderOf_eq, hph]; rfl, rfl⟩⟩
  · split
    · rename_i hfaulted
      exact safetyCommand_entries (fun st hst => hR _ ⟨st, hst, .inr ⟨hfaulted, rfl⟩⟩) hsafe hold
    · exact hold

/-- R127: the phase order of a press waits or is owed, and a Faulted press's Stop waits. -/
theorem restorePhase_orders {b : PressId} {s : State}
    (hclear : ∀ st, s.bound .pressHydraulics (.press b) = some st → s.line.clearOf st) :
    s.line.grows (fun st => s.bound .pressHydraulics (.press b) = some st) (restorePhase b s).line ∧
      ∀ st, s.bound .pressHydraulics (.press b) = some st →
        (∀ v, phaseOrderOf (s.press b).state = some v →
          (restorePhase b s).waitsOrOwed (orderTo st v) ((restorePhase b s).press b).phaseOwed) ∧
        ((s.press b).state = .faulted → (restorePhase b s).safetyWaits st 0) := by
  rw [phaseOrderOf_eq]
  unfold restorePhase
  split
  · rename_i ph hph
    obtain ⟨o, l, heq, htakes⟩ := sendPhase_takes b ph s
    have howed : ((sendPhase b ph s).press b).phaseOwed = o := by rw [heq]; simp
    have hline : (sendPhase b ph s).line = l := by rw [heq]; rfl
    rw [howed, hline, hph]
    refine ⟨htakes.grows fun _ => rfl, fun st hst => ⟨fun v hv => ?_, fun hfaulted => ?_⟩⟩
    · rw [Option.map_some, Option.some_inj] at hv
      subst hv
      rw [State.waitsOrOwed, hline]
      exact htakes.waitsOrOwed hst (hclear st hst)
    · rw [hfaulted] at hph
      cases hph
  · rename_i hph
    rw [hph]
    split
    · obtain ⟨hgrew, hwaits⟩ := safetyCommand_grows 0 hclear
      exact ⟨hgrew, fun st hst => ⟨fun v hv => (by cases hv), fun _ =>
        safetyWaits_of_mem (hwaits st hst) (by decide) (by decide)⟩⟩
    · rename_i hfaulted
      exact ⟨.refl _, fun st _ => ⟨fun v hv => (by cases hv), fun hyes => absurd hyes hfaulted⟩⟩

theorem restorePress_restoredBy (b : PressId) (s : State) : s.restoredBy (restorePress b s) (.press b) := by
  rw [restorePress_eq]
  obtain ⟨run, l, hfeed⟩ := restoreFeed_eq b s
  obtain ⟨phase, m, hphase⟩ := restorePhase_eq b (restoreFeed b s)
  have hbound (role : Role) : (restoreFeed b s).bound role (.press b) = s.bound role (.press b) := by rw [hfeed]; simp
  have hpress : (restoreFeed b s).press b = { s.press b with runOwed := run } := by
    rw [hfeed, State.onLine_press_keep, State.press_onPress_same]
  have hmarks : restorePhase b (restoreFeed b s) =
      (s.onPress b fun r => { r with runOwed := run, phaseOwed := phase }).onLine fun _ => m := by
    rw [hphase, hfeed]
    cases b <;> rfl
  refine ⟨⟨run, phase, m, hmarks⟩, fun hsafe hR hold => ?_, fun hapart hclear _ => ?_⟩
  · refine restorePhase_entries hsafe (fun e he => hR e ?_)
      (restoreFeed_entries hsafe (fun e ⟨st, he⟩ => hR e ⟨st, .inl he⟩) hold)
    rw [State.phaseRestores, hbound, hpress] at he
    obtain ⟨st, he⟩ := he
    exact ⟨st, .inr he⟩
  · obtain ⟨hgrew, horder⟩ := restoreFeed_orders (b := b) fun st hst => hclear st ⟨_, hst⟩
    obtain ⟨hgrew', horder'⟩ := restorePhase_orders (b := b) (s := restoreFeed b s) fun st hst => by
      rw [hbound] at hst
      exact clearOf_other_role hapart (by decide) hgrew hst (hclear st ⟨_, hst⟩)
    rw [hbound, hpress] at horder'
    rw [hbound] at hgrew'
    have howed : ((restorePhase b (restoreFeed b s)).press b).runOwed = ((restoreFeed b s).press b).runOwed := by
      rw [hmarks, hpress, State.onLine_press_keep, State.press_onPress_same]
    refine ⟨(hgrew.mono fun st h => ⟨_, h⟩).trans (hgrew'.mono fun st h => ⟨_, h⟩), fun st hst => ?_, horder'⟩
    obtain ⟨hrun, hstop⟩ := horder st hst
    rw [howed]
    exact ⟨fun h => waitsOrOwed_of_grows hgrew' (hrun h), fun h hbale => safetyWaits_of_grows hgrew' (hstop h hbale)⟩

theorem restoreUnit_restoredBy (x : UnitId) (s : State) : s.restoredBy (restoreUnit s x) x := by
  cases x with
  | picker p => exact restorePicker_restoredBy p s
  | kiln k => exact restoreKiln_restoredBy k s
  | press b => exact restorePress_restoredBy b s

end Sys2Proof.Machine
end

section
namespace Sys2Proof.Machine

/-! #### The units in their order (R172) -/

/-- A unit's record is unchanged. -/
def State.sameUnit (s t : State) : UnitId → Prop
  | .picker p => t.picker p = s.picker p
  | .kiln k => t.kiln k = s.kiln k
  | .press b => t.press b = s.press b

/-- Nothing changed but the line and the units. -/
def State.keepsParts (s t : State) : Prop :=
  ∃ l p k b, t = { s with line := l, pickers := p, kilns := k, presses := b }

theorem State.keepsParts.refl (s : State) : s.keepsParts s := ⟨s.line, s.pickers, s.kilns, s.presses, rfl⟩

theorem State.keepsParts.trans {s t u : State} (h : s.keepsParts t) (h' : t.keepsParts u) : s.keepsParts u := by
  obtain ⟨_, _, _, _, rfl⟩ := h
  obtain ⟨l, p, k, b, rfl⟩ := h'
  exact ⟨l, p, k, b, rfl⟩

/-- A kiln with its owed marks cleared at the emptying (R81, R105). -/
def Kiln.unowed (r : Kiln) : Kiln :=
  { r with burnerOwed := false, fanOwed := false, ring := { r.ring with gateCloseOwed := false } }

/-- A unit whose turn has not come stands as the emptying left it. -/
def State.unitEmptied (s t : State) : UnitId → Prop
  | .picker p => t.picker p = s.picker p
  | .kiln k => t.kiln k = (s.kiln k).unowed
  | .press b => t.press b = s.press b

/-- A state in which a unit restores the orders it has in another. -/
structure State.ordersAs (s t : State) (x : UnitId) : Prop where
  stations : t.chan.stations = s.chan.stations
  pool : t.pool = s.pool
  clock : t.clock = s.clock
  unit : s.unitEmptied t x

/-- What a Line Reset keeps of a unit. -/
def State.keepsUnit (s t : State) : UnitId → Prop
  | .picker p => (t.picker p).state = (s.picker p).state ∧ (t.picker p).loading = (s.picker p).loading
  | .kiln k =>
    (t.kiln k).state = (s.kiln k).state ∧ (t.kiln k).ring.gateCloseOwed = false ∧ (t.kiln k).permit = (s.kiln k).permit ∧
      (t.kiln k).stageElapsed = (s.kiln k).stageElapsed ∧ (t.kiln k).ring.drop = (s.kiln k).ring.drop
  | .press b =>
    (t.press b).state = (s.press b).state ∧ (t.press b).bale = (s.press b).bale ∧
      (t.press b).owedReplies = (s.press b).owedReplies

section
variable {s t u : State} {x y : UnitId}

theorem State.remarked.keepsParts (h : s.remarked t x) : s.keepsParts t := by
  cases x with
  | picker p => obtain ⟨_, _, rfl⟩ := h; exact ⟨_, _, _, _, rfl⟩
  | kiln k => obtain ⟨_, _, _, _, _, rfl⟩ := h; exact ⟨_, _, _, _, rfl⟩
  | press b => obtain ⟨_, _, _, rfl⟩ := h; exact ⟨_, _, _, _, rfl⟩

/-- A unit's turn leaves the records of the others. -/
theorem State.remarked.sameUnit (h : s.remarked t x) (hne : y ≠ x) : s.sameUnit t y := by
  cases x with
  | picker p =>
    obtain ⟨_, _, rfl⟩ := h
    cases y with
    | picker q =>
      rw [State.sameUnit, State.onLine_picker_keep]
      exact State.picker_onPicker_other _ _ _ _ fun hq => hne (congrArg _ hq)
    | kiln _ => exact State.kiln_congr rfl _
    | press _ => exact State.press_congr rfl _
  | kiln k =>
    obtain ⟨_, _, _, _, _, rfl⟩ := h
    cases y with
    | picker _ => exact State.picker_congr rfl _
    | kiln j =>
      rw [State.sameUnit, State.onLine_kiln_keep]
      exact State.kiln_onKiln_other _ _ _ _ fun hj => hne (congrArg _ hj)
    | press _ => exact State.press_congr rfl _
  | press b =>
    obtain ⟨_, _, _, rfl⟩ := h
    cases y with
    | picker _ => exact State.picker_congr rfl _
    | kiln _ => exact State.kiln_congr rfl _
    | press c =>
      rw [State.sameUnit, State.onLine_press_keep]
      exact State.press_onPress_other _ _ _ _ fun hc => hne (congrArg _ hc)

theorem State.sameUnit.trans (h : s.sameUnit t x) (h' : t.sameUnit u x) : s.sameUnit u x := by
  cases x <;> exact Eq.trans h' h

theorem State.sameUnit.refl (s : State) (x : UnitId) : s.sameUnit s x := by cases x <;> rfl

theorem State.keepsUnit.same (h : s.keepsUnit t x) (h' : t.sameUnit u x) : s.keepsUnit u x := by
  cases x <;> simp only [State.sameUnit] at h' <;> simpa only [State.keepsUnit, h'] using h

/-- The orders of a unit still wait when others have joined the queue. -/
theorem State.ordersWait.grows {own : Nat → Prop} (h : s.ordersWait t x) (h' : t.sameUnit u x)
    (hgrew : t.line.grows own u.line) : s.ordersWait u x := by
  have horder {e : OwnDown} {owed : Bool} : t.waitsOrOwed e owed → u.waitsOrOwed e owed := waitsOrOwed_of_grows hgrew
  have hsafe {st : Nat} {v : Int} : t.safetyWaits st v → u.safetyWaits st v := safetyWaits_of_grows hgrew
  cases x with
  | picker p =>
    simp only [State.sameUnit] at h'
    obtain ⟨hdistributor, hfeed⟩ := h
    simp only [State.ordersWait, h']
    exact ⟨fun n c st hc hst => horder (hdistributor n c st hc hst), fun hrun st hst => hsafe (hfeed hrun st hst)⟩
  | kiln k =>
    simp only [State.sameUnit] at h'
    obtain ⟨hgate, hpurge, hinjection⟩ := h
    simp only [State.ordersWait, h']
    refine ⟨fun st hst => horder (hgate st hst), fun hyes => ?_, fun hno => ?_⟩
    · obtain ⟨hburnerOwed, hfanOwed, hburner, hfan⟩ := hpurge hyes
      exact ⟨hburnerOwed, hfanOwed, fun st hst => hsafe (hburner st hst), fun hsmall st hst => hsafe (hfan hsmall st hst)⟩
    · obtain ⟨hnone, hsome⟩ := hinjection hno
      refine ⟨hnone, fun v hv => ?_⟩
      obtain ⟨hlast, hburnerOwed, hfanOwed, hburner, hfan⟩ := hsome v hv
      exact ⟨hlast, hburnerOwed, hfanOwed, fun st hst => horder (hburner st hst), fun st hst => horder (hfan st hst)⟩
  | press b =>
    simp only [State.sameUnit] at h'
    obtain ⟨hfeed, hphase⟩ := h
    simp only [State.ordersWait, h']
    refine ⟨fun st hst => ?_, fun st hst => ?_⟩
    · obtain ⟨hrun, hstop⟩ := hfeed st hst
      exact ⟨fun hyes => horder (hrun hyes), fun hno hbale => hsafe (hstop hno hbale)⟩
    · obtain ⟨horders, hfaulted⟩ := hphase st hst
      exact ⟨fun v hv => horder (horders v hv), fun hyes => hsafe (hfaulted hyes)⟩

/-! What holds of a unit's orders in the state of its turn holds in the state of the reset. -/

section
variable (h : s.ordersAs t x)
include h

theorem State.ordersAs.bound (role : Role) (y : UnitId) : t.bound role y = s.bound role y := State.bound_congr h.stations _ _

theorem State.ordersAs.unitRestores {e : OwnDown} (he : t.unitRestores x e) : s.unitRestores x e := by
  have hunit := h.unit
  cases x with
  | picker p =>
    simp only [State.unitEmptied] at hunit
    simpa only [State.unitRestores, State.loadingCharge, State.charge, h.bound, h.pool, hunit] using he
  | kiln k =>
    simp only [State.unitEmptied] at hunit
    simp only [State.unitRestores, h.bound, hunit] at he
    exact he
  | press b =>
    simp only [State.unitEmptied] at hunit
    simpa only [State.unitRestores, h.bound, hunit] using he

theorem State.ordersAs.ordersWait (hwait : t.ordersWait u x) : s.ordersWait u x := by
  have hunit := h.unit
  cases x with
  | picker p =>
    simp only [State.unitEmptied] at hunit
    simpa only [State.ordersWait, State.loadingCharge, State.charge, State.feedStopWaits, h.bound, h.pool, hunit] using hwait
  | kiln k =>
    simp only [State.unitEmptied] at hunit
    simp only [State.ordersWait, h.bound, hunit, State.now, h.clock] at hwait
    exact hwait
  | press b =>
    simp only [State.unitEmptied] at hunit
    simpa only [State.ordersWait, h.bound, hunit] using hwait

theorem State.ordersAs.unowed : t.unowed x := by
  have hunit := h.unit
  cases x with
  | picker p => trivial
  | kiln k =>
    simp only [State.unitEmptied] at hunit
    simp only [State.unowed, hunit]
    exact ⟨rfl, rfl⟩
  | press b => trivial

theorem State.ordersAs.keepsUnit (hmarks : t.remarked u x) : s.keepsUnit u x := by
  have hunit := h.unit
  cases x with
  | picker p =>
    obtain ⟨_, _, rfl⟩ := hmarks
    simp only [State.unitEmptied] at hunit
    simp only [State.keepsUnit, State.onLine_picker_keep, State.picker_onPicker_same, hunit, and_self]
  | kiln k =>
    obtain ⟨_, _, _, _, _, rfl⟩ := hmarks
    simp only [State.unitEmptied] at hunit
    simp only [State.keepsUnit, State.onLine_kiln_keep, State.kiln_onKiln_same, hunit]
    exact ⟨rfl, rfl, rfl, rfl, rfl⟩
  | press b =>
    obtain ⟨_, _, _, rfl⟩ := hmarks
    simp only [State.unitEmptied] at hunit
    simp only [State.keepsUnit, State.onLine_press_keep, State.press_onPress_same, hunit, and_self]

/-- Another unit's turn leaves a unit's orders as they are. -/
theorem State.ordersAs.other (hmarks : t.remarked u y) (hne : x ≠ y) : s.ordersAs u x := by
  have hsame := hmarks.sameUnit hne
  have hunit := h.unit
  obtain ⟨hstations, hpool, hclock, -⟩ := h
  obtain ⟨_, _, _, _, rfl⟩ := hmarks.keepsParts
  refine ⟨hstations, hpool, hclock, ?_⟩
  cases x <;> exact Eq.trans hsame hunit

end
end

/-- What the units' turns leave: the parts of no unit, the units whose turn it was not, what a reset keeps of the others, and
entries that a unit restores. -/
theorem foldl_restoreUnit {s : State} (l : List UnitId) (hnodup : l.Nodup) {u : State} (has : ∀ x ∈ l, s.ordersAs u x) :
    u.keepsParts (l.foldl restoreUnit u) ∧ (∀ y, y ∉ l → u.sameUnit (l.foldl restoreUnit u) y) ∧
      (∀ x ∈ l, s.keepsUnit (l.foldl restoreUnit u) x) ∧
      ((∀ e ∈ u.line.waiting, ∃ x, s.unitRestores x e) →
        ∀ e ∈ (l.foldl restoreUnit u).line.waiting, ∃ x, s.unitRestores x e) := by
  induction l generalizing u with
  | nil => exact ⟨.refl u, fun y _ => .refl u y, fun _ hx => (by cases hx), id⟩
  | cons x l ih =>
    obtain ⟨hx, hrestnodup⟩ := List.nodup_cons.mp hnodup
    have hturn := restoreUnit_restoredBy x u
    have hx' := has x List.mem_cons_self
    obtain ⟨hparts, hothers, hkept, hentries⟩ := ih hrestnodup (u := restoreUnit u x) fun y hy =>
      (has y (List.mem_cons_of_mem x hy)).other hturn.marks fun heq => hx (heq ▸ hy)
    refine ⟨hturn.marks.keepsParts.trans hparts, fun y hy => ?_, fun y hy => ?_, fun hold => hentries ?_⟩
    · obtain ⟨hne, hy⟩ := not_or.mp (List.mem_cons.not.mp hy)
      exact (hturn.marks.sameUnit hne).trans (hothers y hy)
    · rcases List.mem_cons.mp hy with rfl | hy
      · exact (hx'.keepsUnit hturn.marks).same (hothers y hx)
      · exact hkept y hy
    · refine hturn.entries (R := fun e => ∃ x, s.unitRestores x e) ?_ (fun e he => ⟨x, hx'.unitRestores he⟩) hold
      rintro e ⟨y, he⟩ hsafety
      cases y with
      | picker p =>
        rcases he with ⟨st, ⟨_, _, _, _, rfl⟩ | ⟨_, _, rfl⟩⟩
        · cases hsafety
        · exact ⟨_, _, rfl⟩
      | kiln k =>
        rcases he with ⟨st, ⟨_, rfl⟩ | ⟨_, ⟨_, rfl⟩ | ⟨_, rfl⟩⟩ | ⟨_, _, _, ⟨_, rfl⟩ | ⟨_, rfl⟩⟩⟩
        · cases hsafety
        · exact ⟨_, _, rfl⟩
        · exact ⟨_, _, rfl⟩
        · cases hsafety
        · cases hsafety
      | press b =>
        rcases he with ⟨st, ⟨_, ⟨_, rfl⟩ | ⟨_, _, rfl⟩⟩ | ⟨_, ⟨_, _, rfl⟩ | ⟨_, rfl⟩⟩⟩
        · cases hsafety
        · exact ⟨_, _, rfl⟩
        · cases hsafety
        · exact ⟨_, _, rfl⟩

/-- Where the stations of the units are their own, the orders of every unit wait or are owed. -/
theorem foldl_restoreUnit_orders {s : State} (hapart : s.bindsApart) (l : List UnitId) (hnodup : l.Nodup) {u : State}
    (has : ∀ x ∈ l, s.ordersAs u x) (hclear : ∀ x ∈ l, ∀ st, s.ownStation x st → u.line.clearOf st) :
    u.line.grows (fun _ => True) (l.foldl restoreUnit u).line ∧ ∀ x ∈ l, s.ordersWait (l.foldl restoreUnit u) x := by
  induction l generalizing u with
  | nil => exact ⟨.refl _, fun _ hx => by cases hx⟩
  | cons x l ih =>
    obtain ⟨hx, hrestnodup⟩ := List.nodup_cons.mp hnodup
    have hturn := restoreUnit_restoredBy x u
    have hx' := has x List.mem_cons_self
    have hown (y : UnitId) (st : Nat) : u.ownStation y st ↔ s.ownStation y st := by simp only [State.ownStation, hx'.bound]
    obtain ⟨hgrew, horder⟩ := hturn.orders (State.bindsApart_congr hx'.stations hapart)
      (fun st hst => hclear x List.mem_cons_self st ((hown x st).mp hst)) hx'.unowed
    have hrest (y : UnitId) (hy : y ∈ l) : s.ordersAs (restoreUnit u x) y :=
      (has y (List.mem_cons_of_mem x hy)).other hturn.marks fun heq => hx (heq ▸ hy)
    obtain ⟨hgrew', horders⟩ := ih hrestnodup hrest fun y hy st hst => by
      refine hgrew.clearOf (fun hmine => hx ?_) (hclear y (List.mem_cons_of_mem x hy) st hst)
      obtain ⟨role, hrole⟩ := (hown x st).mp hmine
      obtain ⟨role', hrole'⟩ := hst
      exact (hapart role role' x y st hrole hrole').2 ▸ hy
    refine ⟨(hgrew.mono fun _ _ => trivial).trans hgrew', fun y hy => ?_⟩
    rcases List.mem_cons.mp hy with rfl | hy
    · exact (hx'.ordersWait horder).grows ((foldl_restoreUnit l hrestnodup hrest).2.1 y hx) hgrew'
    · exact horders y hy

/-- The order the units are taken in names each once. -/
theorem unitOrder_nodup (order : List UnitId) : (unitOrder order).Nodup := by
  have hall : allUnits.Nodup := by decide
  unfold unitOrder
  split
  · rename_i h
    obtain ⟨hlength, hcontains⟩ := Bool.and_eq_true_iff.mp h
    have hsub : allUnits ⊆ order := fun x hx => by simpa using List.all_eq_true.mp hcontains x hx
    exact ((List.subperm_of_subset hall hsub).perm_of_length_le (beq_iff_eq.mp hlength).le).nodup hall
  · exact hall

/-- In a Station Table in canonical form no two bindings name one station. -/
theorem bindsApart_of_tablesOk {s : State} (hs : s.tablesOk) : s.bindsApart := by
  obtain ⟨_, _, _, ⟨hwf, _⟩, _⟩ := hs
  intro role role' x x' st hst hst'
  obtain ⟨⟨n, e⟩, hfind, rfl⟩ := Option.map_eq_some_iff.mp hst
  obtain ⟨⟨n', e'⟩, hfind', hn⟩ := Option.map_eq_some_iff.mp hst'
  have hget := (mem_iff_tableGet hwf n e).mp (List.mem_of_find?_eq_some hfind)
  have hget' := (mem_iff_tableGet hwf n' e').mp (List.mem_of_find?_eq_some hfind')
  simp only at hn
  rw [hn, hget, Option.some_inj] at hget'
  subst hget'
  have hmatch := List.find?_some hfind
  have hmatch' := List.find?_some hfind'
  simp only [Bool.and_eq_true, beq_iff_eq] at hmatch hmatch'
  obtain ⟨⟨-, hrole⟩, hunit⟩ := hmatch
  obtain ⟨⟨-, hrole'⟩, hunit'⟩ := hmatch'
  exact ⟨hrole.symm.trans hrole', Option.some_inj.mp (hunit.symm.trans hunit')⟩

end Sys2Proof.Machine
end

section
namespace Sys2Proof.Machine

/-! #### The emptying (R172, R183) -/

/-- R35: the self-poll timers started again. -/
theorem restartAllTimers_eq (s : State) : ∃ m, restartAllTimers s = s.onChan fun c => { c with samples := m } := by
  unfold restartAllTimers
  generalize s.chan.samples = l
  induction l generalizing s with
  | nil => exact ⟨s.chan.samples, rfl⟩
  | cons e l ih =>
    have hone : ∃ m, restartPollTimer (e.1 / 4) (e.1 % 4) s = s.onChan fun c => { c with samples := m } := by
      unfold restartPollTimer startPollTimer
      split
      · exact ⟨_, rfl⟩
      · exact ⟨s.chan.samples, rfl⟩
    obtain ⟨m, hm⟩ := hone
    obtain ⟨m', hm'⟩ := ih (s.onChan fun c => { c with samples := m })
    exact ⟨m', by rw [List.foldl_cons, hm, hm']; rfl⟩

/-- R140: an end frame of a transfer in the form of reason Reset. -/
def OwnUp.resetEnd (e : OwnUp) : OwnUp :=
  { e with frame := { e.frame with payload := e.frame.payload.take 2 ++ [3] ++ e.frame.payload.drop 3 } }

/-- R140: the end frames that wait when a Line Reset empties the Own queue up. -/
def resetEnds (l : List OwnUp) : List OwnUp := (l.filter fun e => e.origin == .fetchEnd).map OwnUp.resetEnd

/-- R160: a frame finds a place among the 8 of the Own queue up, or is lost. -/
theorem queueUp_eq_take {s : State} (h : s.line.ownUp.length ≤ 8) (f : Frame) (o : UpOrigin) :
    queueUp f o s = s.onLine fun l => { l with ownUp := (l.ownUp ++ [({ frame := f, origin := o } : OwnUp)]).take 8 } := by
  unfold queueUp State.onLine
  dsimp only
  split
  · rename_i hroom
    have hlt : s.line.ownUp.length < 8 := hroom
    rw [List.take_of_length_le (by rw [List.length_append, List.length_singleton]; omega)]
  · rename_i hfull
    have hlength : s.line.ownUp.length = 8 := Nat.le_antisymm h (Nat.not_lt.mp hfull)
    rw [List.take_left' hlength]

theorem take_append_take {α : Type} (n : Nat) (l m : List α) : (l.take n ++ m).take n = (l ++ m).take n := by
  rcases Nat.le_total l.length n with h | h
  · rw [List.take_of_length_le h]
  · rw [List.take_left' (List.length_take_of_le h), List.take_append_of_le_length h]

theorem requeueEnds_eq (l : List OwnUp) {s : State} (h : s.line.ownUp.length ≤ 8) :
    requeueEnds l s = s.onLine fun m => { m with ownUp := (m.ownUp ++ resetEnds l).take 8 } := by
  unfold requeueEnds
  induction l generalizing s with
  | nil =>
    simp only [List.foldl_nil, resetEnds, List.filter_nil, List.map_nil, List.append_nil, State.onLine,
      List.take_of_length_le h]
  | cons e l ih =>
    rw [List.foldl_cons]
    by_cases horigin : e.origin = .fetchEnd
    · rw [if_pos horigin, queueUp_eq_take h, ih (by simp)]
      have hend : resetEnds (e :: l) = { frame := resetEndFrame e.frame, origin := .fetchEnd } :: resetEnds l := by
        rw [resetEnds, List.filter_cons_of_pos (by simp [horigin]), List.map_cons, OwnUp.resetEnd, horigin]
        rfl
      rw [hend, State.onLine_onLine]
      refine congrArg s.onLine (funext fun m => ?_)
      simp only [take_append_take, List.append_assoc, List.singleton_append]
    · rw [if_neg horigin, ih h]
      have hend : resetEnds (e :: l) = resetEnds l := by
        rw [resetEnds, List.filter_cons_of_neg (by simp [horigin])]
        rfl
      rw [hend]

/-- R81, R105: the owed marks cleared at every kiln. -/
theorem clearOwed_eq (s : State) :
    clearOwed s = s.onKilns fun t =>
      { k1 := t.k1.unowed, k2 := t.k2.unowed, k3 := t.k3.unowed, k4 := t.k4.unowed, k5 := t.k5.unowed,
        k6 := t.k6.unowed } := by
  rw [onKilns_every Kiln.unowed s]
  rfl

/-- R183: the Reply of a Line Reset, with the frames removed and the Requests discarded. -/
def State.resetReply (s : State) (f : Frame) : OwnUp := { frame := replyFrame f (.done (removedCounts s)), origin := .reply }

/-- R140: the end frame of a transfer a Line Reset ends. -/
def Transfer.resetEnd (x : Transfer) : OwnUp := { frame := fetchEndFrame x .reset, origin := .fetchEnd }

/-- R172, R183: the state the emptying leaves, but for what the transfer in progress becomes. -/
structure State.emptied (s t : State) (f : Frame) : Prop where
  agent : t.agent = { s.agent with requests := [], staging := none }
  line : t.line = { emptyLine s.line with ownUp := t.line.ownUp }
  notice : t.notice = emptyNotice s.notice
  stations : t.chan.stations = s.chan.stations
  exceptions : t.chan.exceptions = [] ∧ t.chan.overflowed = false
  tables : t.clock = s.clock ∧ t.lots = s.lots ∧ t.pool = s.pool ∧ t.schedules = s.schedules ∧ t.watches = s.watches
  units : ∀ x, s.unitEmptied t x
  idle : s.store.transfer = none → t.line.ownUp = s.resetReply f :: (resetEnds s.line.ownUp).take 7 ∧ t.store = s.store
  fetching : ∀ x, s.store.transfer = some x →
    t.line.ownUp = s.resetReply f :: (resetEnds s.line.ownUp ++ [x.resetEnd]).take 7 ∧
      ((resetEnds s.line.ownUp).length < 7 → t.store = { s.store with transfer := none }) ∧
      (7 ≤ (resetEnds s.line.ownUp).length →
        t.store = { s.store with transfer := some { x with endReason := some .reset, endOwed := true } })

/-- R172, R183: the block emptied, its Reply the one frame of the Own queue up. -/
def State.resetStart (s : State) (f : Frame) : State :=
  { s with
    agent := { s.agent with requests := [], staging := none }
    line := { emptyLine s.line with ownUp := [s.resetReply f] }
    notice := emptyNotice s.notice
    chan := { s.chan with exceptions := [], overflowed := false } }

theorem lineResetCore_eq (f : Frame) (s : State) :
    lineResetCore f s = clearOwed (resetTransfer (requeueEnds s.line.ownUp (restartAllTimers (s.resetStart f)))) := rfl

/-- R35, R140: the block emptied, the end frames queued anew behind the Reply. -/
def State.requeued (s : State) (f : Frame) (samples : List (Nat × Sample)) : State :=
  ((s.resetStart f).onChan fun c => { c with samples := samples }).onLine fun l =>
    { l with ownUp := s.resetReply f :: (resetEnds s.line.ownUp).take 7 }

theorem requeued_eq (f : Frame) (s : State) :
    ∃ samples, requeueEnds s.line.ownUp (restartAllTimers (s.resetStart f)) = s.requeued f samples := by
  obtain ⟨samples, h⟩ := restartAllTimers_eq (s.resetStart f)
  refine ⟨samples, ?_⟩
  rw [h, requeueEnds_eq _ (s := (s.resetStart f).onChan fun c => { c with samples := samples })
    (by simp [State.resetStart])]
  rfl

theorem resetTransfer_of_idle {s : State} (h : s.store.transfer = none) : resetTransfer s = s := by
  simp only [resetTransfer, h]

/-- R139, R140: a transfer in progress ends: its end frame is queued where a place is free, and is owed else. -/
theorem resetTransfer_of_fetching {s : State} {x : Transfer} (h : s.store.transfer = some x) :
    (s.line.ownUp.length < 8 → resetTransfer s = (s.onLine fun l => { l with ownUp := l.ownUp ++ [x.resetEnd] }).onStore
        fun t => { t with transfer := none }) ∧
      (8 ≤ s.line.ownUp.length → resetTransfer s =
        s.onStore fun t => { t with transfer := some { x with endReason := some .reset, endOwed := true } }) := by
  simp only [resetTransfer, h, queueFetchEnd]
  refine ⟨fun hroom => ?_, fun hfull => ?_⟩
  · have hfree : 1 ≤ s.upFree := by simp only [State.upFree, Config.ownUpPlaces]; omega
    have hplace : s.line.ownUp.length < Config.ownUpPlaces := hroom
    rw [if_pos hfree, queueUp, State.onLine, if_pos hplace]
    rfl
  · have hfree : ¬1 ≤ s.upFree := by simp only [State.upFree, Config.ownUpPlaces]; omega
    rw [if_neg hfree, State.onTransfer, State.onStore, h]
    rfl

/-- The end of a transfer changes the Own queue up and the store alone. -/
theorem resetTransfer_eq (s : State) : ∃ l t, resetTransfer s = (s.onLine fun m => { m with ownUp := l }).onStore fun _ => t := by
  cases htransfer : s.store.transfer with
  | none => exact ⟨s.line.ownUp, s.store, by rw [resetTransfer_of_idle htransfer]; rfl⟩
  | some x =>
    obtain ⟨hroom, hfull⟩ := resetTransfer_of_fetching htransfer
    rcases Nat.lt_or_ge s.line.ownUp.length 8 with h | h
    · exact ⟨_, _, by rw [hroom h]; rfl⟩
    · exact ⟨s.line.ownUp, _, by rw [hfull h]; rfl⟩

/-- R139, R140: what the end of a transfer makes of the Own queue up and the store. -/
theorem resetTransfer_requeued {s : State} {f : Frame} {samples : List (Nat × Sample)} {x : Transfer}
    (hx : s.store.transfer = some x) :
    let t := resetTransfer (s.requeued f samples)
    t.line.ownUp = s.resetReply f :: (resetEnds s.line.ownUp ++ [x.resetEnd]).take 7 ∧
      ((resetEnds s.line.ownUp).length < 7 → t.store = { s.store with transfer := none }) ∧
      (7 ≤ (resetEnds s.line.ownUp).length →
        t.store = { s.store with transfer := some { x with endReason := some .reset, endOwed := true } }) := by
  have hup : (s.requeued f samples).line.ownUp = s.resetReply f :: (resetEnds s.line.ownUp).take 7 := rfl
  have hlength : (s.requeued f samples).line.ownUp.length = min 7 (resetEnds s.line.ownUp).length + 1 := by rw [hup]; simp
  obtain ⟨hroom, hfull⟩ := resetTransfer_of_fetching (s := s.requeued f samples) hx
  dsimp only
  rcases Nat.lt_or_ge (resetEnds s.line.ownUp).length 7 with h | h
  · rw [hroom (by omega)]
    refine ⟨?_, fun _ => rfl, fun hno => absurd h (Nat.not_lt.mpr hno)⟩
    simp only [State.onStore, State.onLine, hup]
    rw [List.take_of_length_le h.le, List.take_of_length_le (by simp; omega), List.cons_append]
  · rw [hfull (by omega)]
    refine ⟨?_, fun hno => absurd hno (Nat.not_lt.mpr h), fun _ => rfl⟩
    simp only [State.onStore, hup]
    rw [List.take_append_of_le_length h]

theorem lineResetCore_emptied (f : Frame) (s : State) : s.emptied (lineResetCore f s) f := by
  obtain ⟨samples, hrequeued⟩ := requeued_eq f s
  obtain ⟨l, t, hreset⟩ := resetTransfer_eq (s.requeued f samples)
  have hcore : lineResetCore f s = clearOwed (resetTransfer (s.requeued f samples)) := by rw [lineResetCore_eq, hrequeued]
  have hline : (lineResetCore f s).line = (resetTransfer (s.requeued f samples)).line := by rw [hcore, clearOwed_eq]; rfl
  have hstore : (lineResetCore f s).store = (resetTransfer (s.requeued f samples)).store := by rw [hcore, clearOwed_eq]; rfl
  rw [hreset, clearOwed_eq] at hcore
  constructor
  case idle =>
    intro hidle
    rw [hline, hstore, resetTransfer_of_idle (s := s.requeued f samples) hidle]
    exact ⟨rfl, rfl⟩
  case fetching =>
    intro x hx
    rw [hline, hstore]
    exact resetTransfer_requeued hx
  case units =>
    rw [hcore]
    intro x
    cases x with
    | picker p => exact State.picker_congr rfl p
    | kiln k => cases k <;> rfl
    | press b => exact State.press_congr rfl b
  all_goals rw [hcore]
  case exceptions => exact ⟨rfl, rfl⟩
  case tables => exact ⟨rfl, rfl, rfl, rfl, rfl⟩
  all_goals rfl

end Sys2Proof.Machine
end

section
namespace Sys2Proof.Machine

/-! #### The Line Reset (R172, R183) -/

section
variable {s c : State} {f : Frame} (h : s.emptied c f)
include h

/-- The emptying leaves every unit the orders it had. -/
theorem State.emptied.ordersAs (x : UnitId) : s.ordersAs c x := by
  obtain ⟨hclock, -, hpool, -, -⟩ := h.tables
  exact ⟨h.stations, hpool, hclock, h.units x⟩

/-- Nothing waits for the field. -/
theorem State.emptied.waiting : c.line.waiting = [] := by
  rw [h.line]
  rfl

theorem State.emptied.clearOf (st : Nat) : c.line.clearOf st := by
  intro e he
  rw [h.waiting] at he
  cases he

end

/-- A line but for what waits for the field. -/
def Line.unordered (l : Line) : Line := { l with ownDown := [], overflow := [] }

/-- What a Line Reset leaves, in terms of the state the emptying left. -/
structure State.lineResetTo (s c t : State) (f : Frame) : Prop where
  emptied : s.emptied c f
  parts : c.keepsParts t
  line : t.line.unordered = c.line.unordered
  units : ∀ x, s.keepsUnit t x
  entries : ∀ e ∈ t.line.waiting, ∃ x, s.unitRestores x e
  orders : s.bindsApart → ∀ x, s.ordersWait t x

theorem exec_lineReset {s : State} {f : Frame} (order : List UnitId) (hf : s.agent.requests.head? = some f)
    (hreset : s.requestOf f = some .lineReset) : ∃ c t, exec (.lineReset order) s = .next t ∧ s.lineResetTo c t f := by
  obtain ⟨rest, hrequests⟩ : ∃ rest, s.agent.requests = f :: rest := by
    obtain ⟨rest, h⟩ := List.head?_eq_some_iff.mp hf
    exact ⟨rest, h⟩
  have hexec : exec (.lineReset order) s = .next ((unitOrder order).foldl restoreUnit (lineResetCore f s)) := by
    change execLineReset order s = _
    simp only [execLineReset, hrequests, if_pos hreset]
  have hemptied := lineResetCore_emptied f s
  refine ⟨lineResetCore f s, _, hexec, ?_⟩
  generalize lineResetCore f s = c at hemptied
  obtain ⟨hparts, -, hunits, hentries⟩ := foldl_restoreUnit (unitOrder order) (unitOrder_nodup order)
    fun x _ => hemptied.ordersAs x
  refine ⟨hemptied, hparts, ?_, fun x => hunits x (mem_unitOrder order x), hentries ?_, fun hapart x => ?_⟩
  · exact foldl_closed (P := fun t => t.line.unordered = c.line.unordered) _ (fun _ x ht =>
      restoreUnit_closed (lineReading_closed (reading := Line.unordered) (fun _ _ _ => rfl) c.line.unordered) x ht) _ rfl
  · intro e he
    rw [hemptied.waiting] at he
    cases he
  · exact (foldl_restoreUnit_orders hapart (unitOrder order) (unitOrder_nodup order) (fun x _ => hemptied.ordersAs x)
      fun _ _ st _ => hemptied.clearOf st).2 x (mem_unitOrder order x)

/-- R139, R140: the end frame of reason Reset, field by field. -/
theorem Transfer.resetEnd_eq (x : Transfer) :
    let lastSent : List Byte := match x.lastSent with
      | some n => [1] ++ fieldNat 4 n
      | none => [0, 0, 0, 0, 0]
    x.resetEnd = { frame := ownUpFrame .reply x.tag ([73, 0, 3] ++ fieldNat 1 x.sent ++ lastSent), origin := .fetchEnd } := by
  unfold Transfer.resetEnd fetchEndFrame
  cases x.lastSent <;> rfl

section
variable {s c t : State} {f : Frame} (h : s.lineResetTo c t f)
include h

/-- R172: the line a Line Reset leaves, but for what waits for the field. -/
theorem State.lineResetTo.unordered : t.line.unordered = { emptyLine s.line with ownUp := c.line.ownUp } :=
  h.line.trans (congrArg Line.unordered h.emptied.line)

theorem State.lineResetTo.ownUp : t.line.ownUp = c.line.ownUp := by
  change t.line.unordered.ownUp = c.line.unordered.ownUp
  rw [h.line]

theorem State.lineResetTo.line_fields :
    t.line.forwardUp = [] ∧ t.line.forwardDown = [] ∧ t.line.poll = none ∧ t.line.runUp = 0 ∧ t.line.runDown = 0 ∧
      t.line.fSending = s.line.fSending ∧ t.line.settings = s.line.settings ∧ t.line.counters = .reset := by
  change t.line.unordered.forwardUp = [] ∧ t.line.unordered.forwardDown = [] ∧ t.line.unordered.poll = none ∧
    t.line.unordered.runUp = 0 ∧ t.line.unordered.runDown = 0 ∧ t.line.unordered.fSending = s.line.fSending ∧
    t.line.unordered.settings = s.line.settings ∧ t.line.unordered.counters = .reset
  rw [h.unordered]
  exact ⟨rfl, rfl, rfl, rfl, rfl, rfl, rfl, rfl⟩

theorem State.lineResetTo.restores {e : OwnDown} (he : e ∈ t.line.ownDown ++ t.line.overflow) :
    s.pickerRestores e ∨ s.kilnRestores e ∨ s.pressRestores e := by
  obtain ⟨x, hx⟩ := h.entries e he
  cases x with
  | picker p => exact .inl ⟨p, hx⟩
  | kiln k => exact .inr (.inl ⟨k, hx⟩)
  | press b => exact .inr (.inr ⟨b, hx⟩)

end

/-- Settles O60: the emptying leaves what `State.emptied` says, and each unit's turn queues its orders behind those of the
units before it (`State.restoredBy`), no two of which share a station. -/
theorem lineResetEmptiesTheLine : Obligations.LineResetEmptiesTheLine := by
  unfold Obligations.LineResetEmptiesTheLine
  refine ⟨fun order s f hf hreset => ?_, fun order s f htables hf hreset => ?_⟩
  · obtain ⟨c, t, hexec, h⟩ := exec_lineReset order hf hreset
    obtain ⟨hforwardUp, hforwardDown, hpoll, hrunUp, hrunDown, hsending, hsettings, hcounters⟩ := h.line_fields
    have hrestores {e : OwnDown} := h.restores (e := e)
    have hownUp := h.ownUp
    obtain ⟨hemptied, ⟨l, p, k, b, hparts⟩, -, hunits, -, -⟩ := h
    have hagent : t.agent = { s.agent with requests := [], staging := none } := by rw [hparts]; exact hemptied.agent
    have hstore : t.store = c.store := by rw [hparts]
    have hnotice : t.notice = emptyNotice s.notice := by rw [hparts]; exact hemptied.notice
    have hchan : t.chan = c.chan := by rw [hparts]
    have htables : t.clock = s.clock ∧ t.lots = s.lots ∧ t.pool = s.pool ∧ t.schedules = s.schedules ∧
      t.watches = s.watches := by rw [hparts]; exact hemptied.tables
    obtain ⟨hclock, hlots, hpool, hschedules, hwatches⟩ := htables
    obtain ⟨hexceptions, hoverflowed⟩ := hemptied.exceptions
    refine ⟨t, hexec, by rw [hagent], by rw [hagent], by rw [hagent], hforwardUp, hforwardDown, hpoll, hrunUp, hrunDown,
      hsending, hsettings, hcounters, ⟨fun hidle => ?_, fun x hx => ?_⟩, fun e => hrestores, hnotice,
      by rw [hchan, hexceptions], by rw [hchan, hoverflowed], by rw [hchan, hemptied.stations], hclock, hlots, hpool,
      hschedules, hwatches, fun k => hunits (.kiln k), fun p => hunits (.picker p), fun b => hunits (.press b)⟩
    · rw [hownUp, hstore]
      exact hemptied.idle hidle
    · intro lastSent last
      have hlast : last = x.resetEnd := x.resetEnd_eq.symm
      rw [hownUp, hstore, hlast]
      exact hemptied.fetching x hx
  · obtain ⟨c, t, hexec, h⟩ := exec_lineReset order hf hreset
    have horders := h.orders (bindsApart_of_tablesOk htables)
    exact ⟨t, hexec, fun p => horders (.picker p), fun k => horders (.kiln k), fun b => horders (.press b)⟩

end Sys2Proof.Machine
end

section
namespace Sys2Proof.Machine

/-! ### What the laws of the permits and the drops read of the kilns (R69, R96) -/

/-- A kiln is Dropping exactly while its ring holds a drop in progress (R69). -/
def Kiln.dropMatches (r : Kiln) : Prop := r.state = .dropping ↔ r.ring.drop ≠ none

/-- What the laws of a kiln's permit and of its drop read of it. -/
def Kiln.marks (r : Kiln) : Permit × Bool × Bool := (r.permit, r.state == .dropping, r.ring.drop.isSome)

/-- The marks of every kiln. -/
def State.marks (s : State) (k : KilnId) : Permit × Bool × Bool := (s.kiln k).marks

/-- A kiln update that leaves what the laws read. -/
def KeepsMarks (f : Kiln → Kiln) : Prop := ∀ r, (f r).marks = r.marks

theorem Kiln.dropMatches_iff (r : Kiln) : r.dropMatches ↔ r.marks.2.1 = r.marks.2.2 := by
  cases h : r.ring.drop <;> simp [Kiln.dropMatches, Kiln.marks, h]

section
variable (s : State)

theorem State.marks_of_kilns {t : State} (h : t.kilns = s.kilns) : t.marks = s.marks := by
  funext k
  rw [State.marks, State.kiln_congr h, State.marks]

theorem State.marks_onKiln (k : KilnId) {f : Kiln → Kiln} (hf : KeepsMarks f) : (s.onKiln k f).marks = s.marks := by
  funext j
  by_cases hj : j = k
  · subst hj
    rw [State.marks, State.kiln_onKiln_same, hf, State.marks]
  · rw [State.marks, State.kiln_onKiln_other _ _ _ _ hj, State.marks]

theorem State.marks_onRing (k : KilnId) {f : Ring → Ring} (hf : ∀ r, (f r).drop.isSome = r.drop.isSome) :
    (s.onRing k f).marks = s.marks := s.marks_onKiln k fun r => by simp [Kiln.marks, hf]

@[simp] theorem State.marks_onClock (f : Clock → Clock) : (s.onClock f).marks = s.marks := rfl
@[simp] theorem State.marks_onLine (f : Line → Line) : (s.onLine f).marks = s.marks := rfl
@[simp] theorem State.marks_onAgent (f : Agent → Agent) : (s.onAgent f).marks = s.marks := rfl
@[simp] theorem State.marks_onChan (f : Channels → Channels) : (s.onChan f).marks = s.marks := rfl
@[simp] theorem State.marks_onNotice (f : NoticeLatch → NoticeLatch) : (s.onNotice f).marks = s.marks := rfl
@[simp] theorem State.marks_onPool (f : Pool → Pool) : (s.onPool f).marks = s.marks := rfl
@[simp] theorem State.marks_onPickers (f : Pickers → Pickers) : (s.onPickers f).marks = s.marks := rfl
@[simp] theorem State.marks_onPresses (f : Presses → Presses) : (s.onPresses f).marks = s.marks := rfl
@[simp] theorem State.marks_onStore (f : Store → Store) : (s.onStore f).marks = s.marks := rfl
@[simp] theorem State.marks_onPicker (p : PickerId) (f : Picker → Picker) : (s.onPicker p f).marks = s.marks := rfl
@[simp] theorem State.marks_onPress (b : PressId) (f : Press → Press) : (s.onPress b f).marks = s.marks := rfl
@[simp] theorem State.marks_onBale (b : PressId) (f : Bale → Bale) : (s.onBale b f).marks = s.marks := rfl
@[simp] theorem State.marks_onTransfer (f : Transfer → Transfer) : (s.onTransfer f).marks = s.marks := rfl
@[simp] theorem State.marks_onCounters (f : Counters → Counters) : (s.onCounters f).marks = s.marks := rfl
@[simp] theorem State.marks_withWatches (w : List (Nat × Watch)) : (s.withWatches w).marks = s.marks := rfl
@[simp] theorem State.marks_withLots (l : List (Nat × Lot)) : (s.withLots l).marks = s.marks := rfl
@[simp] theorem State.marks_withSchedules (l : List (Nat × List Stage)) : (s.withSchedules l).marks = s.marks := rfl
@[simp] theorem State.marks_withPending (l : List Instr) : (s.withPending l).marks = s.marks := rfl
@[simp] theorem State.marks_putWatch (n : Nat) (w : Watch) : (s.putWatch n w).marks = s.marks := rfl
@[simp] theorem State.marks_putSample (st ch : Nat) (r : Sample) : (s.putSample st ch r).marks = s.marks := rfl

@[simp] theorem State.marks_onLot (n : Nat) (f : Lot → Lot) : (s.onLot n f).marks = s.marks := by
  obtain ⟨l, h⟩ := s.onLot_eq_withLots n f
  rw [h, State.marks_withLots]

@[simp] theorem State.marks_onCharge (n : Nat) (f : Charge → Charge) : (s.onCharge n f).marks = s.marks := by
  obtain ⟨l, h⟩ := s.onCharge_eq_onPool n f
  rw [h, State.marks_onPool]

/-! #### Operations of the line, the store and the lots -/

@[simp] theorem marks_latch (n : Nat) : (latch n s).marks = s.marks := by
  obtain ⟨g, h⟩ := latch_eq_onNotice n s
  rw [h, State.marks_onNotice]

@[simp] theorem marks_queueDown (f : Frame) (i : Bool) : (queueDown f i s).marks = s.marks := rfl
@[simp] theorem marks_queueSafety (f : Frame) : (queueSafety f s).marks = s.marks := rfl
@[simp] theorem marks_queueUp (f : Frame) (o : UpOrigin) : (queueUp f o s).marks = s.marks := rfl
@[simp] theorem marks_wakeStore : (wakeStore s).marks = s.marks := rfl
@[simp] theorem marks_wakeNoFloor : (wakeNoFloor s).marks = s.marks := rfl
@[simp] theorem marks_returnReservation (kind : TicketKind) : (returnReservation kind s).marks = s.marks := rfl

@[simp] theorem marks_safetyCommand (role : Role) (unit : UnitId) (v : Int) :
    (safetyCommand role unit v s).marks = s.marks := by
  obtain ⟨g, h⟩ := safetyCommand_eq_onLine role unit v s
  rw [h, State.marks_onLine]

@[simp] theorem marks_startPollTimer (st ch i : Nat) : (startPollTimer st ch i s).marks = s.marks := by
  obtain ⟨g, h⟩ := startPollTimer_eq_onChan st ch i s
  rw [h, State.marks_onChan]

@[simp] theorem marks_restartPollTimer (st ch : Nat) : (restartPollTimer st ch s).marks = s.marks :=
  marks_startPollTimer s st ch _

@[simp] theorem marks_issueTicket (kind : TicketKind) (lot grower : Nat) (body : TicketBody) :
    (issueTicket kind lot grower body s).marks = s.marks := by
  obtain ⟨g, h⟩ := issueTicket_eq_onStore kind lot grower body s
  rw [h, State.marks_onStore]

@[simp] theorem marks_grantReservation (kind : TicketKind) : (grantReservation kind s).marks = s.marks := by
  obtain ⟨g, h⟩ := grantReservation_eq kind s
  rw [h]
  rfl

@[simp] theorem marks_refuseReservation : (refuseReservation s).marks = s.marks := by
  obtain ⟨g, h⟩ := refuseReservation_eq s
  rw [h, State.marks_onNotice]

@[simp] theorem marks_askReservation (kind : TicketKind) : (askReservation kind s).2.marks = s.marks := by
  unfold askReservation
  split <;> simp

theorem marks_of_askReservation {kind : TicketKind} {granted : Bool} {t : State} (h : askReservation kind s = (granted, t)) :
    t.marks = s.marks := by
  rw [← marks_askReservation s kind, h]

@[simp] theorem marks_settleTest (n : Nat) : (settleTest n s).marks = s.marks := by
  obtain ⟨g, m, h⟩ := settleTest_eq n s
  rw [h]
  rfl

@[simp] theorem marks_queueFetchEnd (x : Transfer) (reason : FetchEnd) : (queueFetchEnd x reason s).marks = s.marks := by
  unfold queueFetchEnd
  split <;> rfl

@[simp] theorem marks_fetchEndTest : (fetchEndTest s).marks = s.marks := by
  unfold fetchEndTest
  split
  · rfl
  · split
    · rfl
    · split
      · simp
      · split <;> simp

/-! #### Operations of the piles and the presses -/

@[simp] theorem marks_wakePileFull (b : PressId) : (wakePileFull b s).marks = s.marks := by
  have hwake : KeepsMarks fun r => if r.state = .pileFull ∧ r.config.pile = b then { r with pileWoken := true } else r :=
    fun r => by dsimp only; split <;> rfl
  have heach := onKilns_every (fun r => if r.state = .pileFull ∧ r.config.pile = b then { r with pileWoken := true } else r) s
  unfold wakePileFull
  rw [heach]
  simp only [State.marks_onKiln _ _ hwake]

@[simp] theorem marks_retireHead (b : PressId) : (retireHead b s).marks = s.marks := by
  unfold retireHead
  split
  · rfl
  · simp [retireFromLot]

@[simp] theorem marks_retireZeros (b : PressId) (fuel : Nat) : (retireZeros b fuel s).marks = s.marks := by
  induction fuel generalizing s with
  | zero => rfl
  | succ fuel ih =>
    unfold retireZeros
    split
    · rw [ih, marks_retireHead]
    · rfl

@[simp] theorem marks_retireEntry (b : PressId) : (retireEntry b s).marks = s.marks := by simp [retireEntry]

@[simp] theorem marks_giveRun (b : PressId) : (giveRun b s).marks = s.marks := by
  obtain ⟨owed, g, h, -⟩ := giveRun_eq b s
  rw [h]
  rfl

@[simp] theorem marks_giveStop (b : PressId) : (giveStop b s).marks = s.marks := by simp [giveStop]

@[simp] theorem marks_appendContent (b : PressId) (c : Nat) : (appendContent b c s).marks = s.marks := rfl

@[simp] theorem marks_beginFill (b : PressId) : (beginFill b s).marks = s.marks := by
  unfold beginFill
  split
  · rfl
  · simp [startBaleOfLot]

@[simp] theorem marks_tryFill (b : PressId) : (tryFill b s).marks = s.marks := by
  unfold tryFill askFill
  split
  · dsimp only
    split <;> simp [marks_of_askReservation _ ‹_›]
  · rfl

@[simp] theorem marks_endFill (b : PressId) (reason : FillEnd) : (endFill b reason s).marks = s.marks := by
  unfold endFill
  split
  · rfl
  · dsimp only
    split <;> split <;> simp [withdrawBale, withdrawBaleOfLot]

@[simp] theorem marks_enterStarved (b : PressId) : (enterStarved b s).marks = s.marks := by simp [enterStarved]

@[simp] theorem marks_actOnHead (b : PressId) : (actOnHead b s).marks = s.marks := by
  unfold actOnHead
  split
  · rfl
  · split <;> simp

@[simp] theorem marks_bookRunning (b : PressId) (c : Nat) (v : Int) : (bookRunning b c v s).marks = s.marks := by
  unfold bookRunning
  dsimp only
  split <;> split <;> simp

@[simp] theorem marks_bookCoast (b : PressId) (c : Nat) (v : Int) : (bookCoast b c v s).marks = s.marks := by
  unfold bookCoast
  dsimp only
  split
  · split
    · simp
    · split
      · simp
      · split <;> simp
  · rfl

@[simp] theorem marks_fillScaleUpdate (b : PressId) (u : Update) : (fillScaleUpdate b u s).marks = s.marks := by
  unfold fillScaleUpdate
  split
  · split
    · rfl
    · split
      · split
        · simp
        · split <;> simp
      · rfl
  · rfl

@[simp] theorem marks_lotEndTest (b : PressId) : (lotEndTest b s).marks = s.marks := by
  unfold lotEndTest
  split
  · split <;> simp
  · rfl

@[simp] theorem marks_appendToPile (b : PressId) (c : Nat) : (appendToPile b c s).marks = s.marks := by
  have htake (u : State) : (takeAppend b u).marks = u.marks := by
    unfold takeAppend
    split
    · split <;> simp
    · rfl
    · rfl
  simp [appendToPile, htake]

@[simp] theorem marks_sendPhase (b : PressId) (ph : Phase) : (sendPhase b ph s).marks = s.marks := by
  unfold sendPhase
  split
  · rfl
  · split <;> rfl

@[simp] theorem marks_orderPhase (b : PressId) (ph : Phase) : (orderPhase b ph s).marks = s.marks := by simp [orderPhase]

@[simp] theorem marks_pausePress (b : PressId) (point : ResumePoint) : (pausePress b point s).marks = s.marks := rfl

@[simp] theorem marks_completePhase (b : PressId) (ph : Phase) : (completePhase b ph s).marks = s.marks := by
  unfold completePhase
  dsimp only
  split
  · split <;> simp
  · split <;> simp
  · rfl

@[simp] theorem marks_faultPress (b : PressId) (cause : FaultCause) : (faultPress b cause s).marks = s.marks := by
  simp [faultPress]

@[simp] theorem marks_hydraulicsUpdate (b : PressId) (u : Update) : (hydraulicsUpdate b u s).marks = s.marks := by
  unfold hydraulicsUpdate
  split
  · rfl
  · split
    · split
      · simp
      · split <;> simp
    · rfl

@[simp] theorem marks_completeBale (b : PressId) : (completeBale b s).marks = s.marks := by
  unfold completeBale
  split
  · rfl
  · dsimp only
    split <;> simp [completeBaleOfLot]

@[simp] theorem marks_endBaleWeighing (b : PressId) (gross net : Option Int) :
    (endBaleWeighing b gross net s).marks = s.marks := by simp [endBaleWeighing]

@[simp] theorem marks_oweReweighReply (b : PressId) (r : ReweighReply) : (oweReweighReply b r s).marks = s.marks := by
  unfold oweReweighReply
  split <;> rfl

@[simp] theorem marks_resumePress (b : PressId) : (resumePress b s).marks = s.marks := by
  have hfill (u : State) : (resumeFill b u).marks = u.marks := by
    unfold resumeFill
    dsimp only
    split
    · rfl
    · split
      · simp
      · split <;> simp
  unfold resumePress
  split
  · rfl
  · dsimp only
    split <;> simp [hfill]

@[simp] theorem marks_afterReweigh (b : PressId) : (afterReweigh b s).marks = s.marks := by
  unfold afterReweigh
  dsimp only
  split
  · rfl
  · split <;> simp
  · rfl

@[simp] theorem marks_endReweighWeighed (b : PressId) (w : WeighSlot) (gross net : Int) :
    (endReweighWeighed b w gross net s).marks = s.marks := by
  unfold endReweighWeighed
  split <;> simp

@[simp] theorem marks_endReweighUnweighed (b : PressId) : (endReweighUnweighed b s).marks = s.marks := by
  simp [endReweighUnweighed]

@[simp] theorem marks_baleScaleUpdate (b : PressId) (u : Update) : (baleScaleUpdate b u s).marks = s.marks := by
  unfold baleScaleUpdate
  split
  · split
    · dsimp only
      split
      · split <;> simp
      · rfl
    · rfl
  · rfl

@[simp] theorem marks_clearAuto (b : PressId) : (clearAuto b s).marks = s.marks := by
  unfold clearAuto
  split <;> rfl

@[simp] theorem marks_setAuto (b : PressId) : (setAuto b s).marks = s.marks := by
  unfold setAuto
  dsimp only
  split
  · rfl
  · split
    · simp
    · split <;> simp
    · rfl

@[simp] theorem marks_yardPress (b : PressId) : (yardPress b s).marks = s.marks := by
  have hreweigh (u : State) : (yardReweigh b u).marks = u.marks := by
    unfold yardReweigh
    split
    · split <;> simp
    · rfl
  have hfill (u : State) : (yardFill b u).marks = u.marks := by
    unfold yardFill
    split
    · rfl
    · split <;> simp
  unfold yardPress
  dsimp only
  split <;> simp [hreweigh, hfill]

@[simp] theorem marks_restorePress (b : PressId) : (restorePress b s).marks = s.marks := by
  obtain ⟨_, _, hfeed⟩ := restoreFeed_eq b s
  obtain ⟨_, _, hphase⟩ := restorePhase_eq b (restoreFeed b s)
  rw [restorePress_eq, hphase, hfeed]
  rfl

/-! #### Operations of the kilns that leave their marks -/

theorem OnlyInjection.keepsMarks {f : Kiln → Kiln} (hf : OnlyInjection f) : KeepsMarks f := fun r => by
  obtain ⟨_, _, _, h⟩ := hf r
  rw [h]
  rfl

theorem State.marks_of_reoffered {t : State} (h : s.reoffered t) : t.marks = s.marks := by
  funext k
  rw [State.marks, (h.2 k).eq]
  rfl

@[simp] theorem marks_settleOffer (k : KilnId) : (settleOffer k s).marks = s.marks :=
  s.marks_of_reoffered (settleOffer_reoffered k s)

@[simp] theorem marks_openOffer (k : KilnId) (declined : List PickerId) : (openOffer k declined s).marks = s.marks :=
  s.marks_of_reoffered (openOffer_reoffered k declined s)

@[simp] theorem marks_offerKiln (k : KilnId) : (offerKiln k s).marks = s.marks :=
  s.marks_of_reoffered (offerKiln_reoffered k s)

@[simp] theorem marks_leaveOffers (p : PickerId) : (leaveOffers p s).marks = s.marks :=
  s.marks_of_reoffered (leaveOffers_reoffered p s)

@[simp] theorem marks_inject (k : KilnId) : (inject k s).marks = s.marks := by
  obtain ⟨f, g, hf, -, h⟩ := inject_eq k s
  rw [h, State.marks_onLine, State.marks_onKiln _ _ hf.keepsMarks]

@[simp] theorem marks_setOwed (k : KilnId) (t : HeatTarget) (b : Bool) : (setOwed k t b s).marks = s.marks := by
  obtain ⟨f, hf, h⟩ := setOwed_eq_onKiln k t b s
  rw [h, State.marks_onKiln _ _ hf.keepsMarks]

@[simp] theorem marks_injectTo (k : KilnId) (t : HeatTarget) (v : Int × Nat) : (injectTo k t v s).marks = s.marks := by
  obtain ⟨f, g, hf, -, h⟩ := injectTo_eq k t v s
  rw [h, State.marks_onLine, State.marks_onKiln _ _ hf.keepsMarks]

@[simp] theorem marks_clearExcursion (k : KilnId) : (clearExcursion k s).marks = s.marks := s.marks_onKiln k fun _ => rfl

@[simp] theorem marks_clearCycle (k : KilnId) : (clearCycle k s).marks = s.marks := s.marks_onKiln k fun _ => rfl

@[simp] theorem marks_captureCycle (k : KilnId) : (captureCycle k s).marks = s.marks := by
  unfold captureCycle
  split
  · exact s.marks_onKiln k fun _ => rfl
  · rfl

@[simp] theorem marks_purgeFrames (k : KilnId) : (purgeFrames k s).marks = s.marks := by simp [purgeFrames]

@[simp] theorem marks_queueGate (k : KilnId) (v : Int) : (queueGate k v s).marks = s.marks := by
  obtain ⟨g, -, h⟩ := queueGate_eq_onLine k v s
  rw [h, State.marks_onLine]

@[simp] theorem marks_closeGate (k : KilnId) : (closeGate k s).marks = s.marks := by
  unfold closeGate
  split
  · rfl
  · split
    · rfl
    · exact s.marks_onRing k fun _ => rfl

@[simp] theorem marks_regate (k : KilnId) : (regate k s).marks = s.marks := by
  have hring (b : Bool) : (s.onRing k fun r => { r with gateRestore := b }).marks = s.marks := s.marks_onRing k fun _ => rfl
  unfold regate
  split
  · exact hring false
  · split
    · rw [marks_queueGate, hring]
    · exact hring true

@[simp] theorem marks_restoreKiln (k : KilnId) : (restoreKiln k s).marks = s.marks := by
  unfold restoreKiln
  dsimp only
  split <;> simp

@[simp] theorem marks_creditDrop (k : KilnId) (d : Drop) : (creditDrop k d s).marks = s.marks := by
  unfold creditDrop
  split
  · rfl
  · simp [addDried]

@[simp] theorem marks_interruptDrop (k : KilnId) : (interruptDrop k s).marks = s.marks := by
  unfold interruptDrop
  split <;> simp

@[simp] theorem marks_dropScaleUpdate (k : KilnId) (u : Update) : (dropScaleUpdate k u s).marks = s.marks := by
  have hmeasured (t : State) : (t.onRing k fun r => { r with drop := r.drop.map fun d => { d with measured := true } }).marks =
      t.marks := t.marks_onRing k fun _ => Option.isSome_map ..
  unfold dropScaleUpdate
  split
  · rfl
  · split
    · dsimp only
      rw [hmeasured]
      split <;> simp
    · rfl

@[simp] theorem marks_passCycle (k : KilnId) : (passCycle k s).marks = s.marks :=
  foldl_closed (P := fun t => t.marks = s.marks) _ (fun t c h => (t.marks_onCharge c _).trans h) _ rfl

@[simp] theorem marks_clearOwed : (clearOwed s).marks = s.marks := by
  unfold clearOwed
  refine foldl_closed (P := fun t => t.marks = s.marks) _ (fun t k h => Eq.trans ?_ h) _ rfl
  exact t.marks_onKiln k fun _ => rfl

/-! #### Operations of the pickers that leave the marks -/

@[simp] theorem marks_feedStop (p : PickerId) : (feedStop p s).marks = s.marks := marks_safetyCommand ..

@[simp] theorem marks_enterHeld (p : PickerId) : (enterHeld p s).marks = s.marks := by simp [enterHeld]

@[simp] theorem marks_enterStopped (p : PickerId) : (enterStopped p s).marks = s.marks := by simp [enterStopped]

@[simp] theorem marks_enterRunning (p : PickerId) : (enterRunning p s).marks = s.marks := rfl

@[simp] theorem marks_onReasons (p : PickerId) (f : HoldReasons → HoldReasons) : (onReasons p f s).marks = s.marks := rfl

@[simp] theorem marks_holdIfRunning (p : PickerId) : (holdIfRunning p s).marks = s.marks := by
  unfold holdIfRunning
  split <;> simp

@[simp] theorem marks_dropOpeningReasons (p : PickerId) : (dropOpeningReasons p s).marks = s.marks := by
  simp [dropOpeningReasons]

@[simp] theorem marks_failOpening (p : PickerId) (floor : Bool) : (failOpening p floor s).marks = s.marks := by
  unfold failOpening
  dsimp only
  split <;> simp

@[simp] theorem marks_refuseLot (p : PickerId) (k : KilnId) (lot : Nat) : (refuseLot p k lot s).marks = s.marks := by
  unfold refuseLot
  dsimp only
  split <;> simp [offerToOthers]

@[simp] theorem marks_queueDistributor (p : PickerId) (k : KilnId) : (queueDistributor p k s).marks = s.marks := by
  obtain ⟨g, -, h⟩ := queueDistributor_eq_onLine p k s
  rw [h, State.marks_onLine]

@[simp] theorem marks_beltPollTimer (p : PickerId) (fast : Bool) : (beltPollTimer p fast s).marks = s.marks := by
  obtain ⟨g, h⟩ := beltPollTimer_eq_onChan p fast s
  rw [h, State.marks_onChan]

end

section
variable {s : State}

/-- R67: a floor is granted on a claimable kiln. -/
theorem claimable_of_floorFor {p : PickerId} {target : OpeningTarget} {k : KilnId} (h : s.floorFor p target = some k) :
    (s.kiln k).claimable = true := by
  cases target with
  | own =>
    have hfound := List.find?_some h
    simp only [Bool.and_eq_true] at hfound
    exact hfound.1.2
  | offered j =>
    obtain ⟨hclaim, ⟨⟩⟩ := Option.ite_none_right_eq_some.mp h
    exact (Bool.and_eq_true_iff.mp hclaim).2
  | assigned j =>
    obtain ⟨hclaim, ⟨⟩⟩ := Option.ite_none_right_eq_some.mp h
    exact hclaim

theorem not_dropping_of_claimable {r : Kiln} (h : r.claimable = true) : r.state ≠ .dropping := by
  intro hstate
  simp [Kiln.claimable, hstate] at h

/-- An entry from a state other than Dropping to another leaves the marks. -/
theorem marks_onState {k : KilnId} {st : KilnState} (h : (s.kiln k).state ≠ .dropping) (hst : st ≠ .dropping) :
    (s.onKiln k fun r => { r with state := st }).marks = s.marks := by
  funext j
  by_cases hj : j = k
  · subst hj
    simp [State.marks, Kiln.marks, h, hst]
  · rw [State.marks, State.kiln_onKiln_other _ _ _ _ hj, State.marks]

theorem marks_enterKiln {k : KilnId} {st : KilnState} (h : (s.kiln k).state ≠ .dropping) (hst : st ≠ .dropping) :
    (enterKiln k st s).marks = s.marks := by
  rw [enterKiln, marks_inject, marks_onState h hst]

theorem not_dropping_congr {t : State} (h : t.marks = s.marks) {k : KilnId} (hs : (s.kiln k).state ≠ .dropping) :
    (t.kiln k).state ≠ .dropping := by
  have hk := congrFun h k
  simp only [State.marks, Kiln.marks, Prod.mk.injEq] at hk
  simpa [beq_eq_false_iff_ne.mpr hs] using hk.2.1

/-- R85: an opening completed on a kiln that is not Dropping. -/
theorem marks_completeOpening {p : PickerId} {k : KilnId} {lot : Nat} (h : (s.kiln k).state ≠ .dropping) :
    (completeOpening p k lot s).marks = s.marks := by
  unfold completeOpening enterLoading
  dsimp only
  generalize hu : enterRunning p _ = u
  have hmarks : u.marks = s.marks := by
    rw [← hu, marks_enterRunning, marks_queueDistributor, State.marks_onPicker, State.marks_onRing, claimOpening,
      State.marks_onLot, State.marks_onPool]
    exact fun r => by rw [r.setSlot_drop]
  have hkiln := (u.marks_onKiln k (f := fun r => { r with capture := none, awaitingStart := none, overdue := false })
    fun _ => rfl).trans hmarks
  rw [marks_enterKiln (not_dropping_congr hkiln h) (by decide), hkiln]

/-- R48: no attempt of a picker moves a kiln's marks: it claims a kiln in Awaiting or Idle, which enters Loading. -/
@[simp] theorem marks_tryOpen (p : PickerId) (target : OpeningTarget) : (tryOpen p target s).2.marks = s.marks := by
  cases hlot : (s.picker p).currentLot with
  | none => simp [tryOpen, hlot]
  | some lot =>
    have hreserved : (s.reserved p).marks = s.marks := by rw [State.reserved, marks_grantReservation]; rfl
    rcases tryOpen_cases target hlot with ⟨_, _, _, h⟩ | h | ⟨k, hk, -, -, h⟩ | ⟨k, -, -, h⟩
    · rw [h, marks_failOpening]
      rfl
    · rw [h, marks_returnReservation, marks_failOpening, hreserved]
    · have hkiln := not_dropping_congr hreserved (not_dropping_of_claimable (claimable_of_floorFor hk))
      rw [h, marks_completeOpening hkiln, hreserved]
    · rw [h, marks_refuseLot, hreserved]

@[simp] theorem marks_openOwn (p : PickerId) : (openOwn p s).marks = s.marks := marks_tryOpen p .own

@[simp] theorem marks_afterRemoval (p : PickerId) : (afterRemoval p s).marks = s.marks := by
  unfold afterRemoval
  dsimp only
  split
  · split
    · split <;> simp
    · split <;> simp
  · rfl

@[simp] theorem marks_closeCore (p : PickerId) (n : Nat) (c : Charge) (reason : CloseReason) :
    (closeCore p n c reason s).marks = s.marks := by
  unfold closeCore
  dsimp only
  rw [State.marks_onPicker, marks_issueTicket, State.marks_onRing, State.marks_onCharge]
  exact fun r => by rw [r.setSlot_drop]

@[simp] theorem marks_pickerAfterClose (p : PickerId) : (pickerAfterClose p s).marks = s.marks := by
  unfold pickerAfterClose
  split
  · simp
  · split <;> rfl
  · rfl

@[simp] theorem marks_startClearance (p : PickerId) : (startClearance p s).marks = s.marks := by simp [startClearance]

@[simp] theorem marks_afterClearance (p : PickerId) : (afterClearance p s).marks = s.marks := by
  unfold afterClearance
  split
  · simp
  · split <;> simp

@[simp] theorem marks_takeCard (p : PickerId) (lot : Nat) : (takeCard p lot s).marks = s.marks := by
  have hnew (t : State) : (takeNewLot p lot t).marks = t.marks := by
    unfold takeNewLot
    dsimp only
    split
    · simp
    · simp
    · split <;> simp
    · rfl
    · rfl
    · rfl
  unfold takeCard takeUsable takeUnusable
  dsimp only
  split
  · split
    · split <;> simp
    · simp [hnew]
  · split <;> simp

@[simp] theorem marks_wagonUpdate (p : PickerId) (u : Update) : (wagonUpdate p u s).marks = s.marks := by
  unfold wagonUpdate
  split
  · split <;> simp
  · rfl

@[simp] theorem marks_beltQuiet (p : PickerId) (u : Update) : (beltQuiet p u s).marks = s.marks := by
  unfold beltQuiet
  split <;> rfl

@[simp] theorem marks_beltSensor (p : PickerId) (u : Update) : (beltSensor p u s).marks = s.marks := by
  unfold beltSensor
  split
  · simp
  · split <;> simp

@[simp] theorem marks_clearFeedEnable (p : PickerId) : (clearFeedEnable p s).marks = s.marks := by
  unfold clearFeedEnable
  split <;> simp

@[simp] theorem marks_takeOffer (p : PickerId) (k : KilnId) : (takeOffer p k s).marks = s.marks := by
  have hdeclined : (s.onRing k fun r => { r with declined := r.declined ++ [p] }).marks = s.marks :=
    s.marks_onRing k fun _ => rfl
  unfold takeOffer
  split
  · dsimp only
    rw [marks_settleOffer]
    split
    · rw [marks_tryOpen, hdeclined]
    · exact hdeclined
  · rfl

@[simp] theorem marks_takeOffers (k : KilnId) (fuel : Nat) : (takeOffers k fuel s).marks = s.marks := by
  induction fuel generalizing s with
  | zero => rfl
  | succ fuel ih =>
    unfold takeOffers
    split
    · rw [ih, marks_takeOffer]
    · rfl

@[simp] theorem marks_redistribute (p : PickerId) : (redistribute p s).marks = s.marks := by
  unfold redistribute
  split
  · rfl
  · split <;> simp

@[simp] theorem marks_restoreUnit (u : UnitId) : (restoreUnit s u).marks = s.marks := by
  cases u with
  | picker p =>
    show (restorePicker p s).marks = s.marks
    unfold restorePicker
    dsimp only
    split <;> simp
  | kiln k => exact marks_restoreKiln s k
  | press b => exact marks_restorePress s b

end

end Sys2Proof.Machine
end

section
namespace Sys2Proof.Machine

/-! ### Operations that keep the laws of the kilns (R69, R75, R96) -/

/-- Between two states no permit has changed, and a kiln whose drop matched its state still matches it. -/
def State.keepsLaws (s t : State) : Prop :=
  ∀ k, (t.kiln k).permit = (s.kiln k).permit ∧ ((s.kiln k).dropMatches → (t.kiln k).dropMatches)

theorem State.keepsLaws.refl (s : State) : s.keepsLaws s := fun _ => ⟨rfl, id⟩

theorem State.keepsLaws.trans {s t u : State} (h : s.keepsLaws t) (h' : t.keepsLaws u) : s.keepsLaws u := fun k =>
  ⟨(h' k).1.trans (h k).1, fun hs => (h' k).2 ((h k).2 hs)⟩

/-- What moves no mark of a kiln keeps the laws. -/
theorem State.keepsLaws.of_marks {s t : State} (h : t.marks = s.marks) : s.keepsLaws t := fun k => by
  have hk : (t.kiln k).marks = (s.kiln k).marks := congrFun h k
  exact ⟨congrArg Prod.fst hk, fun hs => by rwa [Kiln.dropMatches_iff, hk, ← Kiln.dropMatches_iff]⟩

theorem Kiln.dropMatches_of_some {r : Kiln} (hstate : r.state = .dropping) (hdrop : r.ring.drop ≠ none) : r.dropMatches :=
  ⟨fun _ => hdrop, fun _ => hstate⟩

/-- An operation of one kiln that keeps its permit and leaves it in a state its drop matches. -/
theorem State.keepsLaws.of_kiln {s t : State} {k : KilnId} (hother : ∀ j, j ≠ k → (t.kiln j).marks = (s.kiln j).marks)
    (hpermit : (t.kiln k).permit = (s.kiln k).permit) (hmatches : (t.kiln k).dropMatches) : s.keepsLaws t := fun j => by
  by_cases hj : j = k
  · subst hj
    exact ⟨hpermit, fun _ => hmatches⟩
  · have hk := hother j hj
    exact ⟨congrArg Prod.fst hk, fun hs => by rwa [Kiln.dropMatches_iff, hk, ← Kiln.dropMatches_iff]⟩

section
variable {s : State} {k : KilnId}

/-! #### Drop starts (R69, R70) -/

theorem marks_enterAwaitingOrIdle (h : (s.kiln k).state ≠ .dropping) : (enterAwaitingOrIdle k s).marks = s.marks := by
  have hstart := s.marks_onKiln k (f := fun r => { r with awaitingStart := some s.now, overdue := false }) fun _ => rfl
  unfold enterAwaitingOrIdle
  split
  · rw [marks_offerKiln, marks_enterKiln (not_dropping_congr hstart h) (by decide), hstart]
  · rw [marks_offerKiln, marks_enterKiln h (by decide)]

theorem marks_emptyDrop (h : (s.kiln k).state ≠ .dropping) : (emptyDrop k s).marks = s.marks := by
  have hring : ((clearCycle k s).onRing k fun r => { r.turn with emptyDrops := r.emptyDrops + 1 }).marks = s.marks := by
    rw [State.marks_onRing, marks_clearCycle]
    exact fun _ => rfl
  rw [emptyDrop, marks_enterAwaitingOrIdle (not_dropping_congr hring h), hring]

/-- R69: a drop start taken leaves its kiln Dropping with the drop in its ring. -/
theorem takeDrop_keepsLaws (k : KilnId) (c : Nat) (s : State) : s.keepsLaws (takeDrop k c s) := by
  unfold takeDrop
  dsimp only
  generalize hd : (Drop.mk c (s.kiln k).config.pile s.now (s.kiln k).config.dropTimeout false) = d
  generalize hu : clearCycle k _ = u
  have hmarks : u.marks =
      (s.onRing k fun r => { r with drop := some d, gateCloseOwed := false, gateRestore := false }).marks := by
    rw [← hu]
    simp
  have hk : (u.kiln k).permit = (s.kiln k).permit ∧ (u.kiln k).ring.drop ≠ none := by
    have := congrFun hmarks k
    rw [State.marks, State.marks, State.kiln_onRing_same] at this
    simp only [Kiln.marks, Prod.mk.injEq] at this
    obtain ⟨hpermit, -, hdrop⟩ := this
    exact ⟨hpermit, fun hnone => by simp [hnone] at hdrop⟩
  obtain ⟨x, y, z, hkiln⟩ := kiln_enterKiln_same k .dropping u
  refine .of_kiln (k := k) (fun j hj => ?_) (by rw [hkiln]; exact hk.1) ?_
  · have hj' := congrFun hmarks j
    rw [enterKiln]
    show ((inject k (u.onKiln k fun r => { r with state := .dropping })).marks j) = _
    rw [marks_inject, State.marks, State.kiln_onKiln_other _ _ _ _ hj]
    rw [State.marks, State.marks, State.onRing, State.kiln_onKiln_other _ _ _ _ hj] at hj'
    exact hj'
  · rw [hkiln]
    exact Kiln.dropMatches_of_some rfl hk.2

theorem marks_enterPileFull (h : (s.kiln k).state ≠ .dropping) : (enterPileFull k s).marks = s.marks := by
  unfold enterPileFull
  split
  · rfl
  · rw [marks_latch, marks_enterKiln h (by decide)]

theorem askDrop_keepsLaws (h : (s.kiln k).state ≠ .dropping) : s.keepsLaws (askDrop k s) := by
  unfold askDrop
  split
  · exact .refl s
  · exact .of_marks (marks_emptyDrop h)
  · exact .refl s
  · split
    · exact .of_marks (s.marks_onKiln k fun _ => rfl)
    · split
      · exact takeDrop_keepsLaws k _ s
      · have hretry := s.marks_onKiln k (f := fun r => { r with dropRetryFrom := none, pileWoken := false }) fun _ => rfl
        exact .of_marks ((marks_enterPileFull (not_dropping_congr hretry h)).trans hretry)

theorem completeCycle_keepsLaws (h : (s.kiln k).state ≠ .dropping) : s.keepsLaws (completeCycle k s) := by
  unfold completeCycle oweDrop
  dsimp only
  generalize hu : passCycle k _ = u
  have hmarks : u.marks = s.marks := by
    rw [← hu, marks_passCycle, marks_clearExcursion, State.marks_onKiln, marks_latch]
    exact fun _ => rfl
  have hasked := State.keepsLaws.trans (.of_marks hmarks) (askDrop_keepsLaws (not_dropping_congr hmarks h))
  split
  · exact hasked.trans (.of_marks (marks_inject _ k))
  · exact hasked

/-! #### Stages (R86, R89, R90) -/

theorem not_dropping_of_cycles {st : KilnState} (h : st.cycles = true) : st ≠ .dropping := by
  rintro rfl
  cases h

theorem not_dropping_of_clockRuns {r : Kiln} (h : r.clockRuns = true) : r.state ≠ .dropping :=
  not_dropping_of_cycles (Kiln.clockRuns_iff.mp h).1

theorem not_dropping_of_stageDue {r : Kiln} (h : r.stageDue = true) : r.state ≠ .dropping :=
  not_dropping_of_clockRuns (Bool.and_eq_true_iff.mp h).1

theorem moistureAtEntry_keepsLaws (k : KilnId) (s : State) : s.keepsLaws (moistureAtEntry k s) := by
  unfold moistureAtEntry
  split
  · rename_i h
    exact completeCycle_keepsLaws (not_dropping_of_clockRuns h.2.1)
  · exact .refl s

theorem StageCopy.runState_ne_dropping (c : StageCopy) : c.runState ≠ .dropping := by
  unfold StageCopy.runState
  split <;> decide

theorem marks_loadStage {n elapsed : Nat} (h : (s.kiln k).state ≠ .dropping) : (loadStage k n elapsed s).marks = s.marks := by
  have hrun (c : StageCopy) : (if (s.kiln k).holdOff then c.runState else .hold) ≠ KilnState.dropping := by
    split
    · exact c.runState_ne_dropping
    · decide
  unfold loadStage
  split
  · rfl
  · split
    · rfl
    · rename_i x _
      have hkiln (c : StageCopy) := s.marks_onKiln k (f := fun r =>
        { r with stage := some n, copy := some c, stageElapsed := elapsed, excursionStart := none, bandLatched := false })
        fun _ => rfl
      dsimp only
      rw [marks_enterKiln (not_dropping_congr (hkiln _) h) (hrun _), hkiln]

theorem enterStage_keepsLaws {n : Nat} (h : (s.kiln k).state ≠ .dropping) : s.keepsLaws (enterStage k n s) :=
  State.keepsLaws.trans (.of_marks (marks_loadStage h)) (moistureAtEntry_keepsLaws k _)

theorem endStage_keepsLaws (h : (s.kiln k).state ≠ .dropping) : s.keepsLaws (endStage k s) := by
  unfold endStage
  split
  · split
    · exact enterStage_keepsLaws h
    · exact completeCycle_keepsLaws h
  · exact .refl s

theorem timedDry_keepsLaws (h : (s.kiln k).state ≠ .dropping) : s.keepsLaws (timedDry k s) := by
  unfold timedDry
  dsimp only
  split
  · rename_i c _
    have hcharge := s.marks_onCharge c fun r => { r with timedDry := true }
    exact State.keepsLaws.trans (.of_marks hcharge) (completeCycle_keepsLaws (not_dropping_congr hcharge h))
  · exact completeCycle_keepsLaws h

theorem resumeStage_keepsLaws {n elapsed : Nat} (h : (s.kiln k).state ≠ .dropping) :
    s.keepsLaws (resumeStage k n elapsed s) := by
  have hentered := State.keepsLaws.trans (.of_marks (marks_loadStage (n := n) (elapsed := elapsed) h))
    (moistureAtEntry_keepsLaws k _)
  unfold resumeStage
  dsimp only
  split
  · rename_i hdue
    have hstate := not_dropping_of_stageDue hdue
    split
    · exact hentered.trans (timedDry_keepsLaws hstate)
    · exact hentered.trans (endStage_keepsLaws hstate)
  · exact hentered

theorem startCycle_keepsLaws (h : (s.kiln k).state ≠ .dropping) : s.keepsLaws (startCycle k s) := by
  have hkiln := s.marks_onKiln k (f := fun r =>
    { r with cycleSchedule := some r.config.schedule, awaitingStart := none, overdue := false }) fun _ => rfl
  exact State.keepsLaws.trans (.of_marks hkiln) (enterStage_keepsLaws (not_dropping_congr hkiln h))

theorem not_dropping_of_mayStart (h : s.mayStart k = true) : (s.kiln k).state ≠ .dropping := by
  intro hstate
  simp [State.mayStart, hstate] at h

theorem tryStart_keepsLaws (k : KilnId) (s : State) : s.keepsLaws (tryStart k s) := by
  unfold tryStart
  split
  · exact startCycle_keepsLaws (not_dropping_of_mayStart ‹_›)
  · exact .refl s

theorem enterReady_keepsLaws (h : (s.kiln k).state ≠ .dropping) : s.keepsLaws (enterReady k s) :=
  State.keepsLaws.trans (.of_marks (marks_enterKiln h (by decide))) (tryStart_keepsLaws k _)

theorem leaveLoading_keepsLaws (k : KilnId) (s : State) : s.keepsLaws (leaveLoading k s) := by
  unfold leaveLoading
  split
  · rename_i h
    exact enterReady_keepsLaws (by rw [h]; decide)
  · exact .refl s

/-! #### Drop completion (R75) -/

/-- An entry to a state does not read the state it leaves. -/
theorem enterKiln_onState (k : KilnId) (st st' : KilnState) (s : State) :
    enterKiln k st (s.onKiln k fun r => { r with state := st' }) = enterKiln k st s := by
  rw [enterKiln, State.onKiln_onKiln, enterKiln]

theorem afterDrop_onState (k : KilnId) (st : KilnState) (s : State) :
    afterDrop k (s.onKiln k fun r => { r with state := st }) = afterDrop k s := by
  have hawait : ((s.onKiln k fun r => { r with state := st }).onKiln k fun r =>
      { r with awaitingStart := some s.now, overdue := false }) =
      (s.onKiln k fun r => { r with awaitingStart := some s.now, overdue := false }).onKiln k fun r =>
        { r with state := st } := by rw [State.onKiln_onKiln, State.onKiln_onKiln]
  unfold afterDrop enterAwaitingOrIdle
  rw [State.kiln_onKiln_same, State.onKiln_now_keep, hawait]
  simp only [enterKiln_onState]

theorem marks_afterDrop (h : (s.kiln k).state ≠ .dropping) : (afterDrop k s).marks = s.marks := by
  unfold afterDrop
  split
  · exact marks_enterKiln h (by decide)
  · exact marks_enterAwaitingOrIdle h

/-- The marks of a kiln after an update of one kiln. -/
theorem State.marks_onKiln_apply (s : State) (k j : KilnId) (f : Kiln → Kiln) :
    (s.onKiln k f).marks j = if j = k then (f (s.kiln k)).marks else s.marks j := by
  split
  · rename_i hj
    subst hj
    rw [State.marks, State.kiln_onKiln_same]
  · rename_i hj
    rw [State.marks, State.kiln_onKiln_other _ _ _ _ hj, State.marks]

/-- R75: a kiln whose drop has left its ring, and that has entered a state since, keeps the laws. -/
theorem afterDrop_keepsLaws {u : State} {f : Ring → Ring} (hf : ∀ r, (f r).drop = none)
    (h : s.marks = (u.onRing k f).marks) : u.keepsLaws (afterDrop k s) := by
  have hleft : ((s.onKiln k fun r => { r with state := .idle }).kiln k).state ≠ .dropping := by
    rw [State.kiln_onKiln_same]
    exact (by decide : KilnState.idle ≠ .dropping)
  have hmarks (j : KilnId) : (afterDrop k s).marks j = if j = k then ((u.kiln k).permit, false, false) else u.marks j := by
    rw [← afterDrop_onState k .idle, marks_afterDrop hleft, State.marks_onKiln_apply]
    have hj := congrFun h j
    rw [State.onRing, State.marks_onKiln_apply] at hj
    split
    · rename_i hjk
      subst hjk
      rw [if_pos rfl] at hj
      simp only [State.marks, Kiln.marks, Prod.mk.injEq, hf] at hj ⊢
      exact ⟨hj.1, rfl, hj.2.2⟩
    · rwa [if_neg ‹_›] at hj
  refine .of_kiln (k := k) (fun j hj => (hmarks j).trans (if_neg hj)) ?_ ?_
  · exact congrArg Prod.fst ((hmarks k).trans (if_pos rfl))
  · have hk : ((afterDrop k s).kiln k).marks = ((u.kiln k).permit, false, false) := (hmarks k).trans (if_pos rfl)
    rw [Kiln.dropMatches_iff, hk]

/-- R75: a completed drop leaves its kiln in a state other than Dropping, with no drop in its ring. -/
theorem completeDrop_keepsLaws (k : KilnId) (s : State) : s.keepsLaws (completeDrop k s) := by
  unfold completeDrop
  split
  · exact .refl s
  · rename_i d _
    refine State.keepsLaws.trans (.of_marks (marks_creditDrop s k d)) (afterDrop_keepsLaws (f := fun r =>
      { (r.setSlot (r.top + 2) .empty).turn with
        drop := none, dropsCompleted := r.dropsCompleted + 1, gateRestore := false }) (fun _ => rfl) ?_)
    simp

/-! #### Updates and mode flags (R90, R93, R94, R95) -/

theorem dropGateUpdate_keepsLaws (k : KilnId) (u : Update) (s : State) : s.keepsLaws (dropGateUpdate k u s) := by
  unfold dropGateUpdate
  split
  · exact completeDrop_keepsLaws k s
  · exact .refl s

theorem moistureUpdate_keepsLaws (k : KilnId) (u : Update) (s : State) : s.keepsLaws (moistureUpdate k u s) := by
  unfold moistureUpdate
  split
  · rename_i h
    have hdone := completeCycle_keepsLaws (not_dropping_of_clockRuns h.2)
    split
    · exact hdone
    · split
      · exact closed_ite hdone (.refl s)
      · exact .refl s
  · exact .refl s

theorem clearHoldOff_keepsLaws (k : KilnId) (s : State) : s.keepsLaws (clearHoldOff k s) := by
  have hflag := s.marks_onKiln k (f := fun r => { r with holdOff := false }) fun _ => rfl
  unfold clearHoldOff
  split
  · dsimp only
    split
    · rename_i h
      have hstop := marks_clearExcursion (s.onKiln k fun r => { r with holdOff := false }) k
      exact .of_marks ((marks_enterKiln (not_dropping_congr hstop (not_dropping_of_cycles h.1)) (by decide)).trans
        (hstop.trans hflag))
    · exact .of_marks hflag
  · exact .refl s

theorem decideBand_keepsLaws (k : KilnId) (s : State) : s.keepsLaws (decideBand k s) := by
  have hband : (latch (srcBand k) (s.onKiln k fun r => { r with bandLatched := true })).marks = s.marks := by
    rw [marks_latch, State.marks_onKiln]
    exact fun _ => rfl
  exact closed_ite (P := s.keepsLaws) (State.keepsLaws.trans (.of_marks hband) (clearHoldOff_keepsLaws k _)) (.of_marks hband)

theorem airTempUpdate_keepsLaws (k : KilnId) (u : Update) (s : State) : s.keepsLaws (airTempUpdate k u s) := by
  have hopen := s.marks_onKiln k (f := fun r => { r with excursionStart := some (r.excursionStart.getD s.now) }) fun _ => rfl
  unfold airTempUpdate
  split
  · exact .refl s
  · exact closed_ite (P := s.keepsLaws) (closed_ite (.of_marks (marks_clearExcursion s k))
      (closed_ite (State.keepsLaws.trans (.of_marks hopen) (decideBand_keepsLaws k _)) (.of_marks hopen))) (.refl s)

theorem returnToStage_keepsLaws (h : (s.kiln k).state ≠ .dropping) : s.keepsLaws (returnToStage k s) := by
  unfold returnToStage
  split
  · rename_i c _
    exact State.keepsLaws.trans (.of_marks (marks_enterKiln h c.runState_ne_dropping)) (moistureAtEntry_keepsLaws k _)
  · exact .refl s

theorem releaseHold_keepsLaws (k : KilnId) (s : State) : s.keepsLaws (releaseHold k s) := by
  have hflag := s.marks_onKiln k (f := fun r => { r with holdOff := true }) fun _ => rfl
  unfold releaseHold
  dsimp only
  split
  · rename_i h
    exact State.keepsLaws.trans (.of_marks hflag) (returnToStage_keepsLaws (by rw [h]; decide))
  · exact .of_marks hflag

theorem not_dropping_of_stageRuns {r : Kiln} (h : r.stageRuns = true) : r.state ≠ .dropping := by
  intro hstate
  simp [Kiln.stageRuns, KilnState.cycles, hstate] at h

theorem clearSchedule_keepsLaws (k : KilnId) (s : State) : s.keepsLaws (clearSchedule k s) := by
  have hflag := s.marks_onKiln k (f := fun r => { r with scheduleFlag := false }) fun _ => rfl
  unfold clearSchedule
  dsimp only
  split
  · rename_i h
    have hstop := marks_clearExcursion (s.onKiln k fun r => { r with scheduleFlag := false }) k
    exact .of_marks ((marks_enterKiln (not_dropping_congr hstop (not_dropping_of_stageRuns h.1)) (by decide)).trans
      (hstop.trans hflag))
  · exact .of_marks hflag

theorem setSchedule_keepsLaws (k : KilnId) (s : State) : s.keepsLaws (setSchedule k s) := by
  have hflag := s.marks_onKiln k (f := fun r => { r with scheduleFlag := true }) fun _ => rfl
  unfold setSchedule
  dsimp only
  split
  · rename_i h
    have hstate : ((s.onKiln k fun r => { r with scheduleFlag := true }).kiln k).state ≠ .dropping := by rw [h]; decide
    refine State.keepsLaws.trans (.of_marks hflag) ?_
    split
    · exact returnToStage_keepsLaws hstate
    · exact .of_marks (marks_enterKiln hstate (by decide))
  · exact State.keepsLaws.trans (.of_marks ((marks_inject _ k).trans hflag)) (tryStart_keepsLaws k _)

end

/-! #### Charges closed (R53, R85) -/

section
variable (p : PickerId) (s : State)

theorem closeToReady_keepsLaws (reason : CloseReason) : s.keepsLaws (closeToReady p reason s) := by
  unfold closeToReady
  split
  · exact .refl s
  · exact State.keepsLaws.trans (.of_marks (marks_closeCore p _ _ reason)) (leaveLoading_keepsLaws _ _)

theorem closeCharge_keepsLaws (reason : CloseReason) : s.keepsLaws (closeCharge p reason s) :=
  (closeToReady_keepsLaws p s reason).trans (.of_marks (marks_pickerAfterClose p))

theorem finishClearance_keepsLaws : s.keepsLaws (finishClearance p s) :=
  (closeToReady_keepsLaws p s .lotChange).trans (.of_marks (marks_beltPollTimer _ p false))

theorem endClearance_keepsLaws : s.keepsLaws (endClearance p s) :=
  (finishClearance_keepsLaws p s).trans (.of_marks (marks_afterClearance p))

theorem limitClearance_keepsLaws : s.keepsLaws (limitClearance p s) := by
  refine State.keepsLaws.trans (.of_marks ?_) (endClearance_keepsLaws p _)
  rw [marks_latch]
  split <;> simp

theorem bookBelt_keepsLaws (v : Int) (substituted : Bool) : s.keepsLaws (bookBelt p v substituted s) := by
  unfold bookBelt
  split
  · rename_i n c _
    have hbooked : (addGreen c.lot v (s.onCharge n fun r =>
        { r with green := addMass r.green v, substituted := r.substituted || substituted })).marks = s.marks := by
      simp [addGreen]
    exact closed_ite (P := s.keepsLaws) (State.keepsLaws.trans (.of_marks hbooked) (closeCharge_keepsLaws p _ .full))
      (.of_marks hbooked)
  · exact .of_marks rfl

theorem beltUpdate_keepsLaws (u : Update) : s.keepsLaws (beltUpdate p u s) := by
  unfold beltUpdate
  dsimp only
  refine State.keepsLaws.trans (.of_marks (marks_beltQuiet p u)) (State.keepsLaws.trans ?_ (.of_marks (marks_beltSensor p u)))
  split
  · exact bookBelt_keepsLaws p _ _ _
  · exact .refl _

theorem yardPicker_keepsLaws : s.keepsLaws (yardPicker p s) := by
  unfold yardPicker
  split
  · exact .refl s
  · exact (finishClearance_keepsLaws p s).trans (.of_marks (marks_enterStopped _ p))
  · exact .of_marks (by simp)

end

/-! #### Watches and updates delivered (R29, R149, R151) -/

section
variable (s : State)

theorem clearFlag_keepsLaws (f : ModeFlag) : s.keepsLaws (clearFlag f s) := by
  cases f with
  | feedEnable p => exact .of_marks (marks_clearFeedEnable p)
  | schedule k => exact closed_ite (clearSchedule_keepsLaws k s) (.refl s)
  | holdOff k => exact clearHoldOff_keepsLaws k s
  | auto b => exact .of_marks (marks_clearAuto s b)

theorem fireWatch_keepsLaws (n : Nat) : s.keepsLaws (fireWatch n s) := by
  unfold fireWatch
  exact foldl_closed (P := s.keepsLaws) _ (fun t f h => h.trans (clearFlag_keepsLaws t f)) _ (.of_marks (by simp))

theorem takeReading_keepsLaws (n : Nat) (v : View) : s.keepsLaws (takeReading n v s) := by
  have hmove (t : State) (holds : Bool) : t.keepsLaws (moveWatch n holds t) := by
    unfold moveWatch
    dsimp only
    split
    · exact closed_ite (P := t.keepsLaws) (fireWatch_keepsLaws t n) (.of_marks rfl)
    · exact .of_marks rfl
    · exact .of_marks rfl
    · exact .refl t
  unfold takeReading
  dsimp only
  split
  · exact .refl s
  · split
    · exact State.keepsLaws.trans (.of_marks rfl) (hmove _ _)
    · exact .of_marks rfl

theorem watchesTake_keepsLaws (station channel : Nat) (v : View) : s.keepsLaws (watchesTake station channel v s) :=
  foldl_closed (P := s.keepsLaws) _ (fun t n h => closed_ite (h.trans (takeReading_keepsLaws t n v)) h) _ (.refl s)

theorem unitTakes_keepsLaws (role : Role) (unit : UnitId) (u : Update) : s.keepsLaws (unitTakes role unit u s) := by
  unfold unitTakes
  split
  · exact beltUpdate_keepsLaws _ s u
  · exact .of_marks (marks_wagonUpdate _ u)
  · exact airTempUpdate_keepsLaws _ u s
  · exact moistureUpdate_keepsLaws _ u s
  · exact .of_marks (marks_dropScaleUpdate s _ u)
  · exact dropGateUpdate_keepsLaws _ u s
  · exact .of_marks (marks_fillScaleUpdate s _ u)
  · exact .of_marks (marks_hydraulicsUpdate s _ u)
  · exact .of_marks (marks_baleScaleUpdate s _ u)
  · exact .refl s

theorem deliver_keepsLaws (e : StationEntry) (station channel : Nat) (u : Update) :
    s.keepsLaws (deliver e station channel u s) := by
  unfold deliver
  refine State.keepsLaws.trans ?_ (watchesTake_keepsLaws _ station channel u.view)
  split
  · split
    · exact unitTakes_keepsLaws s _ _ u
    · exact .refl s
  · exact .refl s

end

end Sys2Proof.Machine
end

section
namespace Sys2Proof.Machine

/-! ### Commands that keep the laws of the kilns -/

/-! #### The line and the channels -/

section
variable (s : State)

@[simp] theorem marks_answerHead (f : Frame) (a : Option Answer) : (answerHead f a s).marks = s.marks :=
  s.marks_of_kilns (answerHead_kilns f a s)

theorem keepsLaws_answers : AnswerKeeps s.keepsLaws := fun t f a h => h.trans (.of_marks (marks_answerHead t f a))

@[simp] theorem marks_countCheckFailure : (countCheckFailure s).marks = s.marks := by simp [countCheckFailure]

@[simp] theorem marks_countMisdirected : (countMisdirected s).marks = s.marks := rfl

@[simp] theorem marks_countOverridden : (countOverridden s).marks = s.marks := rfl

@[simp] theorem marks_countRewritten : (countRewritten s).marks = s.marks := rfl

@[simp] theorem marks_joinForwardDown (f : Frame) (c : Option StationClass) : (joinForwardDown f c s).marks = s.marks := by
  unfold joinForwardDown countForwardDrop
  split <;> simp

@[simp] theorem marks_joinForwardUp (f : Frame) : (joinForwardUp f s).marks = s.marks := by
  unfold joinForwardUp countForwardDrop
  split <;> simp

@[simp] theorem marks_hostFrame (f : Frame) : (hostFrame f s).marks = s.marks := by
  have hstation : (hostToStation f (s.station f.dest) s).marks = s.marks := by
    unfold hostToStation
    dsimp only
    split
    · simp
    · rfl
    · split <;> simp
  have hrequest : (takeRequest f s).marks = s.marks := by
    unfold takeRequest
    split <;> rfl
  have hbroadcast : (hostBroadcast f s).marks = s.marks := by
    unfold hostBroadcast
    split <;> simp
  unfold hostFrame
  split
  · rfl
  · split
    · split
      · exact hrequest
      · rfl
    · split
      · exact hbroadcast
      · split
        · exact hstation
        · simp

theorem execUPortFrameReceived_keepsLaws (chars : List Byte) : Keeps s.keepsLaws (execUPortFrameReceived chars s) := by
  unfold execUPortFrameReceived
  dsimp only
  split
  · exact keeps_next (.of_marks (by simp))
  · exact keeps_next (.of_marks rfl)
  · exact keeps_next (.of_marks (by simp))

@[simp] theorem marks_raiseClass (st ch : Nat) (m : MaskSet) (before after : SampleClass) :
    (raiseClass st ch m before after s).marks = s.marks := by
  unfold raiseClass
  split <;> simp

theorem finishUpdate_keepsLaws (st ch : Nat) (d : Descriptor) (before : SampleClass) (r : Sample) (report settled : Bool) :
    s.keepsLaws (finishUpdate st ch d before r report settled s) :=
  State.keepsLaws.trans (.of_marks (by simp)) (deliver_keepsLaws _ _ st ch _)

theorem tapReport_keepsLaws (f : Frame) : s.keepsLaws (tapReport f s) := by
  unfold tapReport
  split
  · exact State.keepsLaws.trans (.of_marks (marks_restartPollTimer s _ _)) (finishUpdate_keepsLaws _ _ _ _ _ _ _ _)
  · exact .refl s

theorem fieldFrame_keepsLaws (f : Frame) : s.keepsLaws (fieldFrame f s) := by
  have htap := tapReport_keepsLaws s f
  unfold fieldFrame
  split
  · exact .of_marks rfl
  · split
    · exact closed_ite htap (htap.trans (.of_marks (marks_joinForwardUp _ f)))
    · exact closed_ite (P := s.keepsLaws) (.of_marks rfl) (.of_marks (marks_joinForwardUp s f))

theorem fieldChars_keepsLaws (chars : List Byte) : s.keepsLaws (fieldChars chars s) := by
  unfold fieldChars
  dsimp only
  split
  · exact .of_marks (by simp)
  · exact .of_marks rfl
  · refine State.keepsLaws.trans (.of_marks ?_) (fieldFrame_keepsLaws _ _)
    unfold answerPoll
    split <;> rfl

theorem execStaleExpiry_keepsLaws (st ch : Nat) : Keeps s.keepsLaws (execStaleExpiry st ch s) := by
  unfold execStaleExpiry
  split
  · split
    · split
      · exact keeps_next (finishUpdate_keepsLaws s _ _ _ _ _ _ _)
      · exact keeps_next (.refl s)
    · exact keeps_next (.refl s)
  · exact keeps_next (.refl s)

@[simp] theorem marks_selfPoll (st ch : Nat) : (selfPoll st ch s).marks = s.marks := by
  unfold selfPoll
  split
  · simp
  · split <;> simp

theorem execSelfPollDue_keepsLaws (st ch : Nat) : Keeps s.keepsLaws (execSelfPollDue st ch s) := by
  unfold execSelfPollDue
  split
  · exact keeps_ite (.of_marks (marks_selfPoll s st ch)) (.refl s)
  · exact keeps_next (.refl s)

theorem execFPortTransmit_keepsLaws : Keeps s.keepsLaws (execFPortTransmit s) := by
  have hsend (f : Frame) (c : Option StationClass) (t : State) : (startSending f c t).marks = t.marks := by
    obtain ⟨g, n, h, -⟩ := startSending_eq f c t
    rw [h]
    rfl
  refine keeps_ite (.of_marks ?_) (.refl s)
  unfold transmitDown
  split <;> simp [hsend]

theorem execPollWindowOpen_keepsLaws : Keeps s.keepsLaws (execPollWindowOpen s) := by
  unfold execPollWindowOpen
  split
  · exact keeps_next (.refl s)
  · exact keeps_ite (.of_marks rfl) (.refl s)

theorem execFPortTransmissionEnd_keepsLaws : Keeps s.keepsLaws (execFPortTransmissionEnd s) := by
  unfold execFPortTransmissionEnd
  split
  · exact keeps_next (.refl s)
  · exact keeps_ite (.refl s) (.of_marks rfl)

theorem execNoReplyPoll_keepsLaws : Keeps s.keepsLaws (execNoReplyPoll s) := by
  unfold execNoReplyPoll
  split
  · exact keeps_next (.refl s)
  · exact keeps_next (.of_marks rfl)

theorem execUPortTransmit_keepsLaws : Keeps s.keepsLaws (execUPortTransmit s) := by
  have htake (e : OwnUp) : s.keepsLaws (takeOwnUp e s) := by
    refine .of_marks ?_
    unfold takeOwnUp afterTaken ticketSent
    split <;> simp
  unfold execUPortTransmit
  split
  · exact keeps_next (.refl s)
  · exact keeps_next (.of_marks rfl)
  · exact keeps_next (htake _)
  · exact keeps_ite (.of_marks rfl) (htake _)

/-! #### The agent and its tables (R176 to R179) -/

@[simp] theorem marks_discardStaging : (discardStaging s).marks = s.marks := by
  obtain ⟨g, h⟩ := discardStaging_eq s
  rw [h]
  rfl

theorem execStagingTimeout_keepsLaws : Keeps s.keepsLaws (execStagingTimeout s) := by
  unfold execStagingTimeout
  split
  · exact keeps_next (.refl s)
  · exact keeps_ite (.of_marks (marks_discardStaging s)) (.refl s)

theorem commitStation_keepsLaws (st : Nat) (e : StationEntry) : s.keepsLaws (commitStation st e s) := by
  have hchannel (t : State) (ch : Nat) (described : Bool) : (recommitChannel st ch described t).marks = t.marks := by
    unfold recommitChannel
    split <;> simp
  unfold commitStation
  refine foldl_closed (P := s.keepsLaws) _ (fun t ch h => h.trans (deliver_keepsLaws t _ st ch _)) _ ?_
  exact foldl_closed (P := s.keepsLaws) _ (fun t ch h => h.trans (.of_marks (hchannel t ch _))) _ (.of_marks rfl)

theorem writeStation_keepsLaws (n : Nat) (e : Option StationEntry) : WriteKeeps s.keepsLaws (writeStation n e s) := by
  cases e with
  | none => exact writeKeeps_refused
  | some e =>
    exact writeKeeps_ite writeKeeps_refused
      (writeKeeps_ite writeKeeps_refused (writeKeeps_taken (commitStation_keepsLaws s n e)))

theorem writeWatch_keepsLaws (n : Nat) (e : WatchEntry) : s.keepsLaws (writeWatch n e s) := by
  have hput (w : Watch) : s.keepsLaws (s.putWatch n w) := .of_marks rfl
  exact closed_ite (P := s.keepsLaws) ((hput _).trans (takeReading_keepsLaws _ n _)) (hput _)

theorem writeKilnConfig_keepsLaws (k : KilnId) (c : Option KilnConfig) : WriteKeeps s.keepsLaws (writeKilnConfig k c s) := by
  cases c with
  | none => exact writeKeeps_refused
  | some c =>
    refine writeKeeps_ite writeKeeps_refused (writeKeeps_taken (.of_marks ?_))
    exact s.marks_onKiln k fun _ => rfl

theorem plainWrite_keepsLaws (t : TableId) (n : Nat) (content : List Byte) :
    WriteKeeps s.keepsLaws (plainWrite t n content s) := by
  cases t with
  | station => exact writeKeeps_ite (writeStation_keepsLaws s n _) writeKeeps_refused
  | pickerConfig =>
    exact writeKeeps_writeUnit (fun p => writeKeeps_writeTaken (f := fun c => s.onPicker p _) (fun _ => .of_marks rfl) _) _
  | kilnConfig => exact writeKeeps_writeUnit (fun k => writeKilnConfig_keepsLaws s k _) _
  | schedule => exact writeKeeps_refused
  | pressConfig =>
    exact writeKeeps_writeUnit (fun b => writeKeeps_writeTaken (f := fun c => s.onPress b _) (fun _ => .of_marks rfl) _) _
  | watch => exact writeKeeps_ite (writeKeeps_writeTaken (fun e => writeWatch_keepsLaws s n e) _) writeKeeps_refused
  | lineSettings =>
    exact writeKeeps_ite (writeKeeps_writeTaken (f := fun c => s.onLine _) (fun _ => .of_marks rfl) _) writeKeeps_refused

theorem commitWrite_keepsLaws (t : TableId) (n : Nat) (content : List (List Byte)) :
    WriteKeeps s.keepsLaws (commitWrite t n content s) := by
  unfold commitWrite
  split
  · exact writeStation_keepsLaws s n _
  · unfold writeSchedule
    split
    · exact writeKeeps_refused
    · exact writeKeeps_ite writeKeeps_refused (writeKeeps_taken (.of_marks rfl))

theorem tableWritePlain_keepsLaws (table n : Nat) (content : List Byte) :
    RuleKeeps s.keepsLaws (tableWritePlain table n content s) := by
  have hdiscard : s.keepsLaws (discardStaging s) := .of_marks (marks_discardStaging s)
  unfold tableWritePlain
  dsimp only
  split
  · exact ruleKeeps_refused hdiscard
  · split
    · exact ruleKeeps_refused hdiscard
    · rename_i htaken
      exact ruleKeeps_replied (hdiscard.trans ((plainWrite_keepsLaws _ _ _ _ _ htaken).trans (.of_marks rfl)))

theorem commitStaged_keepsLaws (g : Staging) : RuleKeeps s.keepsLaws (commitStaged g s) := by
  have hopen : s.keepsLaws (s.onAgent fun a => { a with staging := some g }) := .of_marks rfl
  unfold commitStaged
  dsimp only
  split
  · exact ruleKeeps_refused (hopen.trans (.of_marks (marks_discardStaging _)))
  · rename_i htaken
    exact ruleKeeps_replied (hopen.trans ((commitWrite_keepsLaws _ _ _ _ _ htaken).trans (.of_marks rfl)))

theorem tableWriteStaged_keepsLaws (table n segment : Nat) (last : Bool) (bs : List Byte) :
    RuleKeeps s.keepsLaws (tableWriteStaged table n segment last bs s) := by
  have hdiscard : s.keepsLaws (discardStaging s) := .of_marks (marks_discardStaging s)
  have htake (t : TableId) (i : Nat) (content : List (List Byte)) :
      RuleKeeps s.keepsLaws (takeSegment t n i last content s) :=
    ruleKeeps_ite (ruleKeeps_refused hdiscard) (ruleKeeps_ite (commitStaged_keepsLaws s _) (ruleKeeps_replied (.of_marks rfl)))
  unfold tableWriteStaged
  split
  · exact ruleKeeps_refused (.refl s)
  · refine ruleKeeps_ite (ruleKeeps_refused (.refl s)) ?_
    split
    · exact ruleKeeps_ite (htake _ _ _) (ruleKeeps_refused hdiscard)
    · exact ruleKeeps_ite (htake _ _ _) (ruleKeeps_refused (.refl s))

/-! #### Line Reset (R183) -/

theorem execLineReset_keepsLaws (order : List UnitId) : Keeps s.keepsLaws (execLineReset order s) := by
  have hcore (f : Frame) : (lineResetCore f s).marks = s.marks := by
    obtain ⟨_, _, htransfer⟩ := resetTransfer_eq (requeueEnds s.line.ownUp (restartAllTimers (State.onChan (State.onNotice
      (queueUp (replyFrame f (.done (removedCounts s))) .reply
        ((s.onAgent fun a => { a with requests := [], staging := none }).onLine emptyLine)) emptyNotice) fun c =>
      { c with exceptions := [], overflowed := false })))
    obtain ⟨_, htimers⟩ := restartAllTimers_eq (State.onChan (State.onNotice
      (queueUp (replyFrame f (.done (removedCounts s))) .reply
        ((s.onAgent fun a => { a with requests := [], staging := none }).onLine emptyLine)) emptyNotice) fun c =>
      { c with exceptions := [], overflowed := false })
    have hends (l : List OwnUp) (t : State) : (requeueEnds l t).marks = t.marks :=
      foldl_closed (P := fun u => u.marks = t.marks) _ (fun u e h => by split <;> exact h) _ rfl
    unfold lineResetCore
    dsimp only
    rw [marks_clearOwed, htransfer, State.marks_onStore, State.marks_onLine, hends, htimers]
    rfl
  unfold execLineReset
  split
  · exact keeps_next (.refl s)
  · rename_i f _ _
    exact keeps_ite (foldl_closed (P := s.keepsLaws) _ (fun t u h => h.trans (.of_marks (marks_restoreUnit u))) _
      (.of_marks (hcore f))) (.refl s)

end

end Sys2Proof.Machine
end

section
namespace Sys2Proof.Machine

/-! #### Requests on the units (R3 to R5, R54 to R58, R88 to R101, R115, R122 to R124) -/

section
variable (s : State)

/-- A request answered at the head of the queue keeps the laws that its own rule keeps. -/
theorem keepsLaws_serve {run : Request → Option (Option Answer × State)} (hrun : ∀ r, RuleKeeps s.keepsLaws (run r)) :
    Keeps s.keepsLaws (.next (serve run s)) :=
  keeps_serve (keepsLaws_answers s) (.refl s) hrun

theorem ruleKeeps_marks {a : Option Answer} {t : State} (h : t.marks = s.marks) : RuleKeeps s.keepsLaws (some (a, t)) :=
  ruleKeeps_some (.of_marks h)

theorem execLotDeclare_keepsLaws : Keeps s.keepsLaws (execLotDeclare s) := by
  have hrelease (p : PickerId) (n : Nat) (t : State) : (releaseUnknown p n t).marks = t.marks := by
    unfold releaseUnknown
    split <;> simp
  refine keepsLaws_serve s fun r => ?_
  split
  · refine ruleKeeps_ite (ruleKeeps_refused (.refl s)) (ruleKeeps_ite (ruleKeeps_refused (.refl s)) (ruleKeeps_marks s ?_))
    simp [hrelease]
  · exact ruleKeeps_none

theorem marks_closeLot (n : Nat) : (closeLot n s).marks = s.marks := by
  have htest (b : PressId) (t : State) : (lotEndTestOf n b t).marks = t.marks := by
    unfold lotEndTestOf
    split <;> simp
  simp [closeLot, htest]

theorem execLotClose_keepsLaws : Keeps s.keepsLaws (execLotClose s) := by
  refine keepsLaws_serve s fun r => ?_
  split
  · unfold lotClose
    split
    · exact ruleKeeps_refused (.refl s)
    · refine ruleKeeps_ite (ruleKeeps_refused (.refl s)) (ruleKeeps_ite (ruleKeeps_refused (.refl s)) ?_)
      split <;> rename_i hasked
      · exact ruleKeeps_marks s (marks_of_askReservation s hasked)
      · exact ruleKeeps_marks s ((marks_closeLot _ _).trans (marks_of_askReservation s hasked))
  · exact ruleKeeps_none

theorem execLotRemove_keepsLaws : Keeps s.keepsLaws (execLotRemove s) := by
  refine keepsLaws_serve s fun r => ?_
  split
  · unfold lotRemove
    split
    · exact ruleKeeps_refused (.refl s)
    · exact ruleKeeps_ite (ruleKeeps_refused (.refl s)) (ruleKeeps_marks s rfl)
  · exact ruleKeeps_none

theorem marks_startPicker (p : PickerId) : (startPicker p s).marks = s.marks := by
  unfold startPicker
  dsimp only
  split
  · split
    · simp
    · split <;> simp
  · split <;> simp

theorem execPickerStart_keepsLaws : Keeps s.keepsLaws (execPickerStart s) := by
  refine keepsLaws_serve s fun r => ?_
  split
  · exact ruleKeeps_onPicker (.refl s) fun p =>
      ruleKeeps_ite (ruleKeeps_marks s (marks_startPicker s p)) (ruleKeeps_refused (.refl s))
  · exact ruleKeeps_none

theorem marks_stopPicker (p : PickerId) : (stopPicker p s).marks = s.marks := by
  unfold stopPicker
  split <;> simp

theorem execPickerStop_keepsLaws : Keeps s.keepsLaws (execPickerStop s) := by
  refine keepsLaws_serve s fun r => ?_
  split
  · exact ruleKeeps_onPicker (.refl s) fun p => ruleKeeps_marks s (marks_stopPicker s p)
  · exact ruleKeeps_none

theorem execPickerHold_keepsLaws : Keeps s.keepsLaws (execPickerHold s) := by
  refine keepsLaws_serve s fun r => ?_
  split
  · exact ruleKeeps_onPicker (.refl s) fun p => ruleKeeps_marks s (by simp)
  · exact ruleKeeps_none

theorem marks_releasePicker (p : PickerId) : (releasePicker p s).marks = s.marks := by
  unfold releasePicker
  dsimp only
  split <;> simp

theorem execPickerRelease_keepsLaws : Keeps s.keepsLaws (execPickerRelease s) := by
  refine keepsLaws_serve s fun r => ?_
  split
  · exact ruleKeeps_onPicker (.refl s) fun p => ruleKeeps_marks s (marks_releasePicker s p)
  · exact ruleKeeps_none

theorem execChargeClose_keepsLaws : Keeps s.keepsLaws (execChargeClose s) := by
  refine keepsLaws_serve s fun r => ?_
  split
  · refine ruleKeeps_onPicker (.refl s) fun p => ?_
    unfold chargeClose
    split
    · exact ruleKeeps_refused (.refl s)
    · exact ruleKeeps_ite (ruleKeeps_refused (.refl s)) (ruleKeeps_replied (closeCharge_keepsLaws p s _))
  · exact ruleKeeps_none

theorem execPickerAssign_keepsLaws : Keeps s.keepsLaws (execPickerAssign s) := by
  refine keepsLaws_serve s fun r => ?_
  split
  · exact ruleKeeps_onPicker (.refl s) fun p => ruleKeeps_onKiln (.refl s) fun k =>
      ruleKeeps_ite (ruleKeeps_refused (.refl s))
        (ruleKeeps_ite (ruleKeeps_refused (.refl s)) (ruleKeeps_marks s (marks_tryOpen p _)))
  · exact ruleKeeps_none

/-- R88: the states Cycle Now is taken in are none of them Dropping. -/
theorem not_dropping_of_mayCycleNow {k : KilnId} (h : s.mayCycleNow k = true) : (s.kiln k).state ≠ .dropping := by
  intro hstate
  simp [State.mayCycleNow, hstate] at h

theorem marks_closeForCycle {k : KilnId} (h : (s.kiln k).state ≠ .dropping) : (closeForCycle k s).marks = s.marks := by
  unfold closeForCycle
  split
  · rename_i n c _
    have hclosed := marks_closeCore (s := s) c.picker n c .hostClose
    rw [marks_pickerAfterClose, marks_enterKiln (not_dropping_congr hclosed h) (by decide), hclosed]
  · rfl

theorem cycleNow_keepsLaws (k : KilnId) : RuleKeeps s.keepsLaws (cycleNow k s) := by
  unfold cycleNow
  split
  · rename_i h
    have hstate := not_dropping_of_mayCycleNow s h
    have hmarks : ((closeForCycle k s).onKiln k fun r => { r with capture := none }).marks = s.marks :=
      (State.marks_onKiln (f := fun r => { r with capture := none }) _ k fun _ => rfl).trans (marks_closeForCycle s hstate)
    exact ruleKeeps_replied (State.keepsLaws.trans (.of_marks hmarks) (startCycle_keepsLaws (not_dropping_congr hmarks hstate)))
  · exact ruleKeeps_refused (.refl s)

theorem execCycleNow_keepsLaws : Keeps s.keepsLaws (execCycleNow s) := by
  refine keepsLaws_serve s fun r => ?_
  split
  · exact ruleKeeps_onKiln (.refl s) (cycleNow_keepsLaws s)
  · exact ruleKeeps_none

theorem execKilnRelease_keepsLaws : Keeps s.keepsLaws (execKilnRelease s) := by
  refine keepsLaws_serve s fun r => ?_
  split
  · exact ruleKeeps_onKiln (.refl s) fun k => ruleKeeps_replied (releaseHold_keepsLaws k s)
  · exact ruleKeeps_none

theorem execKilnMode_keepsLaws : Keeps s.keepsLaws (execKilnMode s) := by
  refine keepsLaws_serve s fun r => ?_
  split
  · exact ruleKeeps_onKiln (.refl s) fun k =>
      ruleKeeps_replied (closed_ite (clearSchedule_keepsLaws k s) (setSchedule_keepsLaws k s))
  · exact ruleKeeps_none

theorem resumeCapture_keepsLaws {k : KilnId} (c : Capture) (h : (s.kiln k).state ≠ .dropping) :
    s.keepsLaws (resumeCapture k c s) := by
  have hready := s.marks_onKiln k (f := fun r =>
    { r with cycleSchedule := c.schedule, capture := none, awaitingStart := none, overdue := false }) fun _ => rfl
  have hstate := not_dropping_congr hready h
  unfold resumeCapture
  dsimp only
  split
  · have howed := (State.marks_onKiln _ k (f := fun r => { r with dropOwed := true, stage := c.stage, copy := none })
      fun _ => rfl).trans hready
    have hcycling := (marks_enterKiln (st := .cycling) (not_dropping_congr howed h) (by decide)).trans howed
    exact State.keepsLaws.trans (.of_marks hcycling) (askDrop_keepsLaws (not_dropping_congr hcycling h))
  · exact State.keepsLaws.trans (.of_marks hready) (resumeStage_keepsLaws hstate)

theorem cycleResume_keepsLaws (k : KilnId) : RuleKeeps s.keepsLaws (cycleResume k s) := by
  unfold cycleResume
  dsimp only
  split
  · exact ruleKeeps_refused (.refl s)
  · rename_i c _
    split
    · rename_i h
      refine ruleKeeps_replied (resumeCapture_keepsLaws s c fun hstate => ?_)
      simp [hstate] at h
    · exact ruleKeeps_refused (.refl s)

theorem execCycleResume_keepsLaws : Keeps s.keepsLaws (execCycleResume s) := by
  refine keepsLaws_serve s fun r => ?_
  split
  · exact ruleKeeps_onKiln (.refl s) (cycleResume_keepsLaws s)
  · exact ruleKeeps_none

theorem execPressNow_keepsLaws : Keeps s.keepsLaws (execPressNow s) := by
  refine keepsLaws_serve s fun r => ?_
  split
  · exact ruleKeeps_onPress (.refl s) fun b =>
      ruleKeeps_ite (ruleKeeps_marks s (marks_endFill s b .forced)) (ruleKeeps_refused (.refl s))
  · exact ruleKeeps_none

theorem execPressClear_keepsLaws : Keeps s.keepsLaws (execPressClear s) := by
  refine keepsLaws_serve s fun r => ?_
  split
  · exact ruleKeeps_onPress (.refl s) fun b =>
      ruleKeeps_ite (ruleKeeps_marks s (by simp [clearPress])) (ruleKeeps_refused (.refl s))
  · exact ruleKeeps_none

theorem execPressAuto_keepsLaws : Keeps s.keepsLaws (execPressAuto s) := by
  refine keepsLaws_serve s fun r => ?_
  split
  · exact ruleKeeps_onPress (.refl s) fun b =>
      ruleKeeps_replied (closed_ite (P := s.keepsLaws) (.of_marks (marks_setAuto s b)) (.of_marks (marks_clearAuto s b)))
  · exact ruleKeeps_none

theorem execPressReweigh_keepsLaws : Keeps s.keepsLaws (execPressReweigh s) := by
  refine keepsLaws_serve s fun r => ?_
  split
  · refine ruleKeeps_onPress (.refl s) fun b => ruleKeeps_ite (ruleKeeps_refused (.refl s))
      (ruleKeeps_ite (ruleKeeps_refused (.refl s)) (ruleKeeps_ite (ruleKeeps_refused (.refl s)) ?_))
    split <;> rename_i hasked
    · exact ruleKeeps_marks s (marks_of_askReservation s hasked)
    · exact ruleKeeps_marks s ((State.marks_onPress _ _ _).trans (marks_of_askReservation s hasked))
  · exact ruleKeeps_none

/-! #### Requests on tickets, notices, tables and the clock, and the queries -/

theorem execTicketBase_keepsLaws : Keeps s.keepsLaws (execTicketBase s) := by
  refine keepsLaws_serve s fun r => ?_
  split
  · exact ruleKeeps_ite (ruleKeeps_refused (.refl s)) (ruleKeeps_ite (ruleKeeps_refused (.refl s)) (ruleKeeps_marks s rfl))
  · exact ruleKeeps_none

theorem execTicketFetch_keepsLaws : Keeps s.keepsLaws (execTicketFetch s) := by
  intro t ht
  obtain rfl := Host.Outcome.next.inj ht
  have hfetch : s.keepsLaws (serve (fun r => match r with
      | .ticketFetch n => ticketFetch n s.headTag s
      | _ => none) s) := by
    refine serve_keeps (keepsLaws_answers s) (fun r => ?_) (.refl s)
    split
    · exact ruleKeeps_ite (ruleKeeps_refused (.refl s)) (ruleKeeps_ite (ruleKeeps_refused (.refl s))
        (ruleKeeps_ite (ruleKeeps_refused (.refl s)) (ruleKeeps_marks s rfl)))
    · exact ruleKeeps_none
  exact closed_ite (hfetch.trans (.of_marks (marks_fetchEndTest _))) hfetch

theorem execTicketTake_keepsLaws : Keeps s.keepsLaws (execTicketTake s) := by
  refine keepsLaws_serve s fun r => ?_
  split
  · exact ruleKeeps_ite (ruleKeeps_refused (.refl s)) (ruleKeeps_ite (ruleKeeps_refused (.refl s))
      (ruleKeeps_replied (closed_ite (P := s.keepsLaws) (.of_marks rfl) (.of_marks rfl))))
  · exact ruleKeeps_none

theorem execNoticeEnable_keepsLaws : Keeps s.keepsLaws (execNoticeEnable s) := by
  refine keepsLaws_serve s fun r => ?_
  split
  · exact ruleKeeps_onSources (.refl s) fun v => ruleKeeps_marks s rfl
  · exact ruleKeeps_none

theorem execNoticeClear_keepsLaws : Keeps s.keepsLaws (execNoticeClear s) := by
  refine keepsLaws_serve s fun r => ?_
  split
  · exact ruleKeeps_onSources (.refl s) fun v => ruleKeeps_marks s rfl
  · exact ruleKeeps_none

theorem execClockSet_keepsLaws : Keeps s.keepsLaws (execClockSet s) := by
  refine keepsLaws_serve s fun r => ?_
  split
  · exact ruleKeeps_marks s rfl
  · exact ruleKeeps_none

theorem execLineStatus_keepsLaws : Keeps s.keepsLaws (execLineStatus s) := by
  refine keepsLaws_serve s fun r => ?_
  split
  · exact ruleKeeps_answered (closed_ite (P := s.keepsLaws) (.of_marks (s.marks_onCounters _)) (.refl s))
  · exact ruleKeeps_none

theorem execExceptionRead_keepsLaws : Keeps s.keepsLaws (execExceptionRead s) := by
  refine keepsLaws_serve s fun r => ?_
  split
  · exact ruleKeeps_answered (closed_ite (P := s.keepsLaws) (.of_marks (s.marks_onChan _)) (.refl s))
  · exact ruleKeeps_none

theorem execPickerQuery_keepsLaws : Keeps s.keepsLaws (execPickerQuery s) := by
  refine keepsLaws_serve s fun r => ?_
  split
  · refine ruleKeeps_answered ?_
    split
    · exact closed_ite (P := s.keepsLaws) (.of_marks (s.marks_onPicker _ _)) (.refl s)
    · exact .refl s
  · exact ruleKeeps_none

theorem execPressQuery_keepsLaws : Keeps s.keepsLaws (execPressQuery s) := by
  refine keepsLaws_serve s fun r => ?_
  split
  · refine ruleKeeps_answered ?_
    split
    · exact closed_ite (P := s.keepsLaws) (.of_marks (s.marks_onPress _ _)) (.refl s)
    · exact .refl s
  · exact ruleKeeps_none

theorem execTableWritePlain_keepsLaws : Keeps s.keepsLaws (execTableWritePlain s) := by
  refine keepsLaws_serve s fun r => ?_
  split
  · exact tableWritePlain_keepsLaws s _ _ _
  · exact ruleKeeps_none

theorem execTableWriteStaged_keepsLaws : Keeps s.keepsLaws (execTableWriteStaged s) := by
  refine keepsLaws_serve s fun r => ?_
  split
  · exact tableWriteStaged_keepsLaws s _ _ _ _ _
  · exact ruleKeeps_none

/-! #### The units' own events -/

theorem execClearanceQuietEnd_keepsLaws (p : PickerId) : Keeps s.keepsLaws (execClearanceQuietEnd p s) := by
  unfold execClearanceQuietEnd
  split
  · exact keeps_ite (endClearance_keepsLaws p s) (.refl s)
  · exact keeps_next (.refl s)

theorem execClearanceLimit_keepsLaws (p : PickerId) : Keeps s.keepsLaws (execClearanceLimit p s) := by
  unfold execClearanceLimit
  split
  · exact keeps_ite (limitClearance_keepsLaws p s) (.refl s)
  · exact keeps_next (.refl s)

theorem execOpeningAttempt_keepsLaws (p : PickerId) (offer : Option KilnId) :
    Keeps s.keepsLaws (execOpeningAttempt p offer s) := by
  cases offer with
  | some k => exact keeps_next (.of_marks (marks_takeOffer p k))
  | none => exact keeps_ite (.of_marks (marks_openOwn p)) (.refl s)

theorem execOpeningRetry_keepsLaws (p : PickerId) : Keeps s.keepsLaws (execOpeningRetry p s) := by
  unfold execOpeningRetry
  split
  · exact keeps_next (.refl s)
  · exact keeps_ite (.of_marks (marks_openOwn p)) (.refl s)

theorem execDropStartRetry_keepsLaws (k : KilnId) : Keeps s.keepsLaws (execDropStartRetry k s) := by
  unfold execDropStartRetry
  split
  · exact keeps_next (.refl s)
  · refine keeps_next ?_
    split
    · rename_i h
      exact askDrop_keepsLaws h.2.2
    · exact .refl s

theorem execPilefullRetry_keepsLaws (k : KilnId) : Keeps s.keepsLaws (execPilefullRetry k s) := by
  refine keeps_next ?_
  split
  · rename_i h
    exact askDrop_keepsLaws (by rw [h.1]; decide)
  · exact .refl s

theorem execDropTimeout_keepsLaws (k : KilnId) : Keeps s.keepsLaws (execDropTimeout k s) := by
  unfold execDropTimeout
  split
  · exact keeps_next (.refl s)
  · refine keeps_ite (State.keepsLaws.trans (.of_marks ?_) (completeDrop_keepsLaws k _)) (.refl s)
    rw [marks_latch, marks_interruptDrop]

theorem execGateCloseOwedQueued_keepsLaws (k : KilnId) : Keeps s.keepsLaws (execGateCloseOwedQueued k s) := by
  have hmark := State.marks_onRing (f := fun r => { r with gateCloseOwed := false }) (queueGate k 0 s) k fun _ => rfl
  exact keeps_ite (.of_marks (hmark.trans (marks_queueGate s k 0))) (.refl s)

theorem execAwaitingOverdue_keepsLaws (k : KilnId) : Keeps s.keepsLaws (execAwaitingOverdue k s) := by
  unfold execAwaitingOverdue
  split
  · exact keeps_next (.refl s)
  · have hmark := s.marks_onKiln k (f := fun r => { r with overdue := true }) fun _ => rfl
    exact keeps_ite (State.keepsLaws.trans (.of_marks hmark) (tryStart_keepsLaws k _)) (.refl s)

theorem execStageEnd_keepsLaws (k : KilnId) : Keeps s.keepsLaws (execStageEnd k s) := by
  refine keeps_next ?_
  split
  · rename_i h
    exact endStage_keepsLaws (not_dropping_of_stageDue h.1)
  · exact .refl s

theorem execTimedDryEnd_keepsLaws (k : KilnId) : Keeps s.keepsLaws (execTimedDryEnd k s) := by
  refine keeps_next ?_
  split
  · rename_i h
    exact timedDry_keepsLaws (not_dropping_of_stageDue h.1)
  · exact .refl s

theorem execInjectionRefresh_keepsLaws (k : KilnId) : Keeps s.keepsLaws (execInjectionRefresh k s) := by
  unfold execInjectionRefresh
  split
  · exact keeps_next (.refl s)
  · exact keeps_ite (.of_marks (marks_inject s k)) (.refl s)

theorem execInjectionOwedQueued_keepsLaws (k : KilnId) (t : HeatTarget) :
    Keeps s.keepsLaws (execInjectionOwedQueued k t s) := by
  refine keeps_ite ?_ (.refl s)
  split
  · exact .of_marks (marks_setOwed s k t false)
  · exact .of_marks (marks_injectTo s k t _)

theorem execBandExcursionDecided_keepsLaws (k : KilnId) : Keeps s.keepsLaws (execBandExcursionDecided k s) := by
  unfold execBandExcursionDecided
  split
  · exact keeps_ite (decideBand_keepsLaws k s) (.refl s)
  · exact keeps_next (.refl s)

theorem execFillStart_keepsLaws (b : PressId) : Keeps s.keepsLaws (execFillStart b s) :=
  keeps_ite (.of_marks (marks_tryFill s b)) (.refl s)

theorem execPileFeedRunOwedQueued_keepsLaws (b : PressId) : Keeps s.keepsLaws (execPileFeedRunOwedQueued b s) :=
  keeps_ite (.of_marks (marks_giveRun s b)) (.refl s)

theorem execCoastEnd_keepsLaws (b : PressId) : Keeps s.keepsLaws (execCoastEnd b s) := by
  unfold execCoastEnd
  split
  · exact keeps_next (.refl s)
  · split
    · exact keeps_ite (.of_marks (marks_orderPhase _ b _)) (.of_marks (marks_pausePress _ b _))
    · exact keeps_next (.refl s)

theorem execPhaseOrderOwedQueued_keepsLaws (b : PressId) : Keeps s.keepsLaws (execPhaseOrderOwedQueued b s) := by
  unfold execPhaseOrderOwedQueued
  split
  · exact keeps_ite (.of_marks (marks_sendPhase s b _)) (.refl s)
  · exact keeps_next (.refl s)

theorem execPhaseTimeout_keepsLaws (b : PressId) : Keeps s.keepsLaws (execPhaseTimeout b s) := by
  unfold execPhaseTimeout
  split
  · exact keeps_ite (.of_marks (marks_faultPress s b _)) (.refl s)
  · exact keeps_next (.refl s)

theorem execWeighWindowEnd_keepsLaws (b : PressId) : Keeps s.keepsLaws (execWeighWindowEnd b s) := by
  unfold execWeighWindowEnd
  split
  · exact keeps_next (.refl s)
  · split
    · split
      · exact keeps_next (.of_marks (marks_endBaleWeighing s b _ _))
      · exact keeps_next (.of_marks ((marks_afterReweigh _ b).trans (marks_endReweighUnweighed s b)))
    · exact keeps_next (.refl s)

theorem execReweighReplyQueued_keepsLaws (b : PressId) : Keeps s.keepsLaws (execReweighReplyQueued b s) := by
  unfold execReweighReplyQueued
  split
  · exact keeps_next (.refl s)
  · exact keeps_ite (.of_marks rfl) (.refl s)

theorem execTicketFrameQueue_keepsLaws : Keeps s.keepsLaws (execTicketFrameQueue s) := by
  have hqueue (t : Ticket) : (queueTicket t s).marks = s.marks := by
    have hframes : ((ticketFrames t).foldl (fun s e => queueUp e.1 e.2 s) s).marks = s.marks :=
      foldl_closed (P := fun u => u.marks = s.marks) (fun s (e : Frame × UpOrigin) => queueUp e.1 e.2 s) (fun u e h => h) _ rfl
    rw [queueTicket, State.marks_onTransfer, hframes]
  unfold execTicketFrameQueue
  split
  · exact keeps_next (.refl s)
  · split
    · exact keeps_next (.refl s)
    · exact keeps_ite (.of_marks (hqueue _)) (.refl s)

theorem execFetchEndFrameQueued_keepsLaws : Keeps s.keepsLaws (execFetchEndFrameQueued s) := by
  unfold execFetchEndFrameQueued
  split
  · exact keeps_next (.refl s)
  · split
    · exact keeps_next (.refl s)
    · exact keeps_ite (.of_marks (marks_queueFetchEnd s _ _)) (.refl s)

theorem execWatchPersistenceEnd_keepsLaws (n : Nat) : Keeps s.keepsLaws (execWatchPersistenceEnd n s) := by
  unfold execWatchPersistenceEnd
  split
  · exact keeps_next (.refl s)
  · exact keeps_ite (fireWatch_keepsLaws s n) (.refl s)

theorem execLineResetRestoreQueued_keepsLaws (u : UnitId) : Keeps s.keepsLaws (execLineResetRestoreQueued u s) := by
  cases u with
  | picker p => exact keeps_ite (.of_marks (marks_redistribute p)) (.refl s)
  | kiln k => exact keeps_ite (.of_marks (marks_regate s k)) (.refl s)
  | press b => exact keeps_next (.refl s)

end

end Sys2Proof.Machine
end

section
namespace Sys2Proof.Machine

/-! ### How a command moves a permit (R96 to R100, R104) -/

/-- A command that may reset a Tripped permit: power-on and the Yard Reset input (R100). -/
def ResetsPermits (c : Instr) : Prop := c = .powerOn ∨ ∃ order, c = .yardReset order

/-- What a command may make of a permit: it leaves Tripped only at a reset (R100), stops the timer in Off and Tripped (R96),
and makes it Live only by a Permit Confirm of a Staged permit proved twice (R98). -/
def PermitMoves (c : Instr) (p q : Permit) : Prop :=
  q = p ∨ (p.state = .tripped → ResetsPermits c) ∧ (q.state = .off ∨ q.state = .tripped → q.timer = none) ∧
    (q.state = .live → p.state = .live ∨ c = .permitConfirm ∧ p.state = .staged ∧ 2 ≤ p.proving)

/-- A command that moves each permit as the rules allow, and no kiln into or out of Dropping without its drop. -/
def State.lawful (c : Instr) (s t : State) : Prop :=
  ∀ k, PermitMoves c (s.kiln k).permit (t.kiln k).permit ∧ ((s.kiln k).dropMatches → (t.kiln k).dropMatches)

section
variable {c : Instr} {s t u : State} {k : KilnId}

theorem State.lawful.of_keepsLaws (h : s.keepsLaws t) : s.lawful c t := fun k => ⟨.inl (h k).1, (h k).2⟩

theorem State.lawful.trans_keepsLaws (h : s.lawful c t) (h' : t.keepsLaws u) : s.lawful c u := fun k =>
  ⟨(h' k).1 ▸ (h k).1, (h' k).2 ∘ (h k).2⟩

/-- A permit moved as the rules allow. -/
theorem State.lawful.of_onPermit {f : Permit → Permit} (h : PermitMoves c (s.kiln k).permit (f (s.kiln k).permit)) :
    s.lawful c (s.onPermit k f) := by
  intro j
  by_cases hj : j = k
  · subst hj
    rw [State.kiln_onPermit_same]
    exact ⟨h, id⟩
  · rw [State.onPermit, State.kiln_onKiln_other _ _ _ _ hj]
    exact ⟨.inl rfl, id⟩

/-- A move from a permit that is not Tripped to one that is neither Live nor timed. -/
theorem PermitMoves.stopped {p q : Permit} (hp : p.state ≠ .tripped) (hq : q.state ≠ .live) (htimer : q.timer = none) :
    PermitMoves c p q := .inr ⟨fun h => absurd h hp, fun _ => htimer, fun h => absurd h hq⟩

/-! #### Trips, lapses and withdrawals (R97, R99, R100) -/

@[simp] theorem marks_enterTripped (k : KilnId) (s : State) : (enterTripped k s).marks = s.marks := by
  unfold enterTripped
  split
  · rfl
  · rename_i h
    have hclear : (clearExcursion k (clearCycle k s)).marks = s.marks := by simp
    have hwait := (State.marks_onKiln (clearExcursion k (clearCycle k s)) k
      (f := fun r => { r with awaitingStart := none, overdue := false }) fun _ => rfl).trans hclear
    have hentry := marks_onState (st := .tripped) (not_dropping_congr hwait h) (by decide)
    rw [State.onKiln_onKiln] at hentry
    exact hentry.trans hwait

theorem trip_lawful (h : (s.kiln k).permit.state ≠ .tripped) : s.lawful c (trip k s) := by
  have htrip : s.lawful c (s.onPermit k fun r => { r with state := .tripped, timer := none }) :=
    .of_onPermit (.stopped h (by simp) rfl)
  refine htrip.trans_keepsLaws (.of_marks ?_)
  unfold trip
  dsimp only
  split <;> simp

theorem permitOff_lawful (h : (s.kiln k).permit.state ≠ .tripped) : s.lawful c (permitOff k s) := by
  have hoff : s.lawful c (s.onPermit k fun r => { r with state := .off, timer := none }) :=
    .of_onPermit (.stopped h (by simp) rfl)
  exact hoff.trans_keepsLaws (closed_ite (P := State.keepsLaws _) (.of_marks (marks_clearExcursion _ k)) (.refl _))

theorem failRenewal_lawful (k : KilnId) : s.lawful c (failRenewal k s) := by
  unfold failRenewal
  split
  · rename_i h
    exact (permitOff_lawful (by rw [h]; decide)).trans_keepsLaws (.of_marks (marks_latch _ _))
  · rename_i h
    exact trip_lawful (by rw [h]; decide)
  · exact .of_keepsLaws (.refl s)

theorem renewPermit_lawful (h : (s.kiln k).permit.state = .staged ∨ (s.kiln k).permit.state = .live) :
    s.lawful c (renewPermit k s) := by
  refine .of_onPermit (.inr ⟨fun htripped => ?_, fun hstopped => ?_, fun hlive => .inl hlive⟩)
  · rw [htripped] at h
    exact absurd h (by decide)
  · rcases h with h | h <;> rw [h] at hstopped <;> exact absurd hstopped (by decide)

/-! #### The requests on the permits -/

/-- The head answered leaves what its rule made of the permits. -/
theorem lawful_serve {run : Request → Option (Option Answer × State)} (hrun : ∀ r, RuleKeeps (s.lawful c) (run r)) :
    Keeps (s.lawful c) (.next (serve run s)) :=
  keeps_serve (fun t f a h => h.trans_keepsLaws (.of_marks (marks_answerHead t f a))) (.of_keepsLaws (.refl s)) hrun

theorem execPermitStage_lawful : Keeps (s.lawful c) (execPermitStage s) := by
  refine lawful_serve fun r => ?_
  split
  · refine ruleKeeps_onKiln (.of_keepsLaws (.refl s)) fun k => ?_
    unfold permitStage
    split
    · rename_i h
      refine ruleKeeps_replied (.of_onPermit (.inr ⟨fun htripped => ?_, by simp, by simp⟩))
      rw [h] at htripped
      cases htripped
    · exact ruleKeeps_refused (.of_keepsLaws (.refl s))
  · exact ruleKeeps_none

theorem permitRenew_lawful (parity : Parity) (k : KilnId) : RuleKeeps (s.lawful c) (permitRenew parity k s) := by
  unfold permitRenew
  dsimp only
  split
  · rename_i h
    exact ruleKeeps_replied (closed_ite (renewPermit_lawful h) (failRenewal_lawful k))
  · exact ruleKeeps_refused (.of_keepsLaws (.refl s))

theorem execPermitRenewOdd_lawful : Keeps (s.lawful c) (execPermitRenewOdd s) := by
  refine lawful_serve fun r => ?_
  split
  · exact ruleKeeps_onKiln (.of_keepsLaws (.refl s)) (permitRenew_lawful .odd)
  · exact ruleKeeps_none

theorem execPermitRenewEven_lawful : Keeps (s.lawful c) (execPermitRenewEven s) := by
  refine lawful_serve fun r => ?_
  split
  · exact ruleKeeps_onKiln (.of_keepsLaws (.refl s)) (permitRenew_lawful .even)
  · exact ruleKeeps_none

/-- R98: the one way to a Live permit. -/
theorem execPermitConfirm_lawful : Keeps (s.lawful .permitConfirm) (execPermitConfirm s) := by
  refine lawful_serve fun r => ?_
  split
  · refine ruleKeeps_onKiln (.of_keepsLaws (.refl s)) fun k => ?_
    unfold permitConfirm
    split
    · rename_i h
      have hlive : s.lawful .permitConfirm (s.onPermit k fun r => { r with state := .live }) := by
        refine .of_onPermit (.inr ⟨fun htripped => ?_, by simp, fun _ => .inr ⟨rfl, h⟩⟩)
        rw [h.1] at htripped
        cases htripped
      exact ruleKeeps_replied (hlive.trans_keepsLaws (tryStart_keepsLaws k _))
    · exact ruleKeeps_refused (.of_keepsLaws (.refl s))
  · exact ruleKeeps_none

theorem execPermitWithdraw_lawful : Keeps (s.lawful c) (execPermitWithdraw s) := by
  refine lawful_serve fun r => ?_
  split
  · refine ruleKeeps_onKiln (.of_keepsLaws (.refl s)) fun k => ?_
    unfold permitWithdraw
    split
    · exact ruleKeeps_replied (.of_keepsLaws (.refl s))
    · exact ruleKeeps_refused (.of_keepsLaws (.refl s))
    · rename_i h
      exact ruleKeeps_replied (permitOff_lawful h)
  · exact ruleKeeps_none

theorem execPermitTimerExpiry_lawful (k : KilnId) : Keeps (s.lawful c) (execPermitTimerExpiry k s) := by
  unfold execPermitTimerExpiry
  split
  · exact keeps_next (.of_keepsLaws (.refl s))
  · exact keeps_ite (failRenewal_lawful k) (.of_keepsLaws (.refl s))

/-! #### Power-on and the Yard Reset input (R104, R173) -/

theorem execPowerOn_lawful : Keeps (s.lawful .powerOn) (execPowerOn s) := by
  refine keeps_next fun k => ⟨.inr ⟨fun _ => .inl rfl, fun _ => ?_, fun hlive => ?_⟩, fun _ => ?_⟩
  · exact reset_timersStopped k (.inl (by cases k <;> rfl))
  · cases k <;> cases hlive
  · exact reset_droppingMatchesRing k

theorem permitsOff_lawful (order : List UnitId) : s.lawful (.yardReset order) (permitsOff s) := by
  have hoff : ∀ k, (permitsOff s).kiln k = (s.kiln k).permitOff := by
    rw [permitsOff_eq]
    intro k
    cases k <;> rfl
  intro k
  rw [hoff]
  exact ⟨.inr ⟨fun _ => .inr ⟨order, rfl⟩, fun _ => rfl, fun h => nomatch h⟩, id⟩

theorem loseCycle_keepsLaws (h : (s.kiln k).state ≠ .dropping) : s.keepsLaws (loseCycle k s) := by
  have hclear : (clearExcursion k (clearCycle k s)).marks = s.marks := by simp
  have hstate := not_dropping_congr hclear h
  unfold loseCycle
  dsimp only
  split
  · exact State.keepsLaws.trans (.of_marks hclear) (enterReady_keepsLaws hstate)
  · exact .of_marks ((marks_enterAwaitingOrIdle hstate).trans hclear)

theorem yardKiln_keepsLaws (k : KilnId) (s : State) : s.keepsLaws (yardKiln k s) := by
  have hoffers (t : State) : t.keepsLaws (takeOffers k 3 t) := .of_marks (marks_takeOffers k 3)
  unfold yardKiln
  split
  · exact State.keepsLaws.trans (.of_marks (marks_interruptDrop s k)) ((completeDrop_keepsLaws k _).trans (hoffers _))
  · exact .refl s
  · exact .refl s
  · exact .refl s
  · exact .refl s
  · rename_i h _ _ _ _
    exact (loseCycle_keepsLaws h).trans (hoffers _)

theorem yardUnit_keepsLaws (s : State) (u : UnitId) : s.keepsLaws (yardUnit s u) := by
  cases u with
  | picker p => exact yardPicker_keepsLaws p s
  | kiln k => exact yardKiln_keepsLaws k s
  | press b => exact .of_marks (marks_yardPress s b)

theorem execYardReset_lawful (order : List UnitId) : Keeps (s.lawful (.yardReset order)) (execYardReset order s) :=
  keeps_next (foldl_closed (P := s.lawful (.yardReset order)) _ (fun t u h => h.trans_keepsLaws (yardUnit_keepsLaws t u)) _
    (permitsOff_lawful order))

end

/-! ### What every command makes of a permit, and of a kiln's drop -/

/-- A command that keeps the laws moves no permit. -/
theorem lawful_of_keeps {c : Instr} {s : State} {r : Result} (h : Keeps s.keepsLaws r) : Keeps (s.lawful c) r :=
  fun t ht => .of_keepsLaws (h t ht)

/-- R96, R98, R100, R69: every command moves the permits and the drops as the rules allow. -/
theorem exec_lawful (c : Instr) (s : State) : Keeps (s.lawful c) (exec c s) := by
  have ha := keepsLaws_answers s
  have hs := State.keepsLaws.refl s
  cases c with
  | powerOn => exact execPowerOn_lawful
  | yardReset order => exact execYardReset_lawful order
  | permitStage => exact execPermitStage_lawful
  | permitRenewOdd => exact execPermitRenewOdd_lawful
  | permitRenewEven => exact execPermitRenewEven_lawful
  | permitConfirm => exact execPermitConfirm_lawful
  | permitWithdraw => exact execPermitWithdraw_lawful
  | permitTimerExpiry k => exact execPermitTimerExpiry_lawful k
  | uPortFrameReceived chars => exact lawful_of_keeps (execUPortFrameReceived_keepsLaws s chars)
  | fPortFrameReceived chars => exact lawful_of_keeps (keeps_ite hs (fieldChars_keepsLaws s chars))
  | staleExpiry st ch => exact lawful_of_keeps (execStaleExpiry_keepsLaws s st ch)
  | selfPollDue st ch => exact lawful_of_keeps (execSelfPollDue_keepsLaws s st ch)
  | fPortTransmit => exact lawful_of_keeps (execFPortTransmit_keepsLaws s)
  | pollWindowOpen => exact lawful_of_keeps (execPollWindowOpen_keepsLaws s)
  | fPortTransmissionEnd => exact lawful_of_keeps (execFPortTransmissionEnd_keepsLaws s)
  | noReplyPoll => exact lawful_of_keeps (execNoReplyPoll_keepsLaws s)
  | uPortTransmit => exact lawful_of_keeps (execUPortTransmit_keepsLaws s)
  | requestBadForm => exact lawful_of_keeps (execRequestBadForm_keeps ha hs)
  | tableRead => exact lawful_of_keeps (execTableRead_keeps ha hs)
  | tableWritePlain => exact lawful_of_keeps (execTableWritePlain_keepsLaws s)
  | tableWriteStaged => exact lawful_of_keeps (execTableWriteStaged_keepsLaws s)
  | stagingTimeout => exact lawful_of_keeps (execStagingTimeout_keepsLaws s)
  | lineStatus => exact lawful_of_keeps (execLineStatus_keepsLaws s)
  | lineReset order => exact lawful_of_keeps (execLineReset_keepsLaws s order)
  | identify => exact lawful_of_keeps (execIdentify_keeps ha hs)
  | clockSet => exact lawful_of_keeps (execClockSet_keepsLaws s)
  | lotDeclare => exact lawful_of_keeps (execLotDeclare_keepsLaws s)
  | lotClose => exact lawful_of_keeps (execLotClose_keepsLaws s)
  | lotRemove => exact lawful_of_keeps (execLotRemove_keepsLaws s)
  | lotQuery => exact lawful_of_keeps (execLotQuery_keeps ha hs)
  | sampleQuery => exact lawful_of_keeps (execSampleQuery_keeps ha hs)
  | exceptionRead => exact lawful_of_keeps (execExceptionRead_keepsLaws s)
  | clearanceQuietEnd p => exact lawful_of_keeps (execClearanceQuietEnd_keepsLaws s p)
  | clearanceLimit p => exact lawful_of_keeps (execClearanceLimit_keepsLaws s p)
  | openingAttempt p offer => exact lawful_of_keeps (execOpeningAttempt_keepsLaws s p offer)
  | openingRetry p => exact lawful_of_keeps (execOpeningRetry_keepsLaws s p)
  | pickerStart => exact lawful_of_keeps (execPickerStart_keepsLaws s)
  | pickerStop => exact lawful_of_keeps (execPickerStop_keepsLaws s)
  | pickerHold => exact lawful_of_keeps (execPickerHold_keepsLaws s)
  | pickerRelease => exact lawful_of_keeps (execPickerRelease_keepsLaws s)
  | chargeClose => exact lawful_of_keeps (execChargeClose_keepsLaws s)
  | pickerAssign => exact lawful_of_keeps (execPickerAssign_keepsLaws s)
  | pickerQuery => exact lawful_of_keeps (execPickerQuery_keepsLaws s)
  | floorQuery => exact lawful_of_keeps (execFloorQuery_keeps ha hs)
  | chargeQuery => exact lawful_of_keeps (execChargeQuery_keeps ha hs)
  | dropStartRetry k => exact lawful_of_keeps (execDropStartRetry_keepsLaws s k)
  | pilefullRetry k => exact lawful_of_keeps (execPilefullRetry_keepsLaws s k)
  | dropTimeout k => exact lawful_of_keeps (execDropTimeout_keepsLaws s k)
  | gateCloseOwedQueued k => exact lawful_of_keeps (execGateCloseOwedQueued_keepsLaws s k)
  | awaitingOverdue k => exact lawful_of_keeps (execAwaitingOverdue_keepsLaws s k)
  | stageEnd k => exact lawful_of_keeps (execStageEnd_keepsLaws s k)
  | timedDryEnd k => exact lawful_of_keeps (execTimedDryEnd_keepsLaws s k)
  | injectionRefresh k => exact lawful_of_keeps (execInjectionRefresh_keepsLaws s k)
  | injectionOwedQueued k t => exact lawful_of_keeps (execInjectionOwedQueued_keepsLaws s k t)
  | bandExcursionDecided k => exact lawful_of_keeps (execBandExcursionDecided_keepsLaws s k)
  | cycleNow => exact lawful_of_keeps (execCycleNow_keepsLaws s)
  | kilnRelease => exact lawful_of_keeps (execKilnRelease_keepsLaws s)
  | kilnMode => exact lawful_of_keeps (execKilnMode_keepsLaws s)
  | cycleResume => exact lawful_of_keeps (execCycleResume_keepsLaws s)
  | kilnQuery => exact lawful_of_keeps (execKilnQuery_keeps ha hs)
  | fillStart b => exact lawful_of_keeps (execFillStart_keepsLaws s b)
  | pileFeedRunOwedQueued b => exact lawful_of_keeps (execPileFeedRunOwedQueued_keepsLaws s b)
  | coastEnd b => exact lawful_of_keeps (execCoastEnd_keepsLaws s b)
  | phaseOrderOwedQueued b => exact lawful_of_keeps (execPhaseOrderOwedQueued_keepsLaws s b)
  | phaseTimeout b => exact lawful_of_keeps (execPhaseTimeout_keepsLaws s b)
  | weighWindowEnd b => exact lawful_of_keeps (execWeighWindowEnd_keepsLaws s b)
  | pressNow => exact lawful_of_keeps (execPressNow_keepsLaws s)
  | pressClear => exact lawful_of_keeps (execPressClear_keepsLaws s)
  | pressAuto => exact lawful_of_keeps (execPressAuto_keepsLaws s)
  | pressReweigh => exact lawful_of_keeps (execPressReweigh_keepsLaws s)
  | reweighReplyQueued b => exact lawful_of_keeps (execReweighReplyQueued_keepsLaws s b)
  | pressQuery => exact lawful_of_keeps (execPressQuery_keepsLaws s)
  | ticketBase => exact lawful_of_keeps (execTicketBase_keepsLaws s)
  | ticketFetch => exact lawful_of_keeps (execTicketFetch_keepsLaws s)
  | ticketFrameQueue => exact lawful_of_keeps (execTicketFrameQueue_keepsLaws s)
  | fetchEndFrameQueued => exact lawful_of_keeps (execFetchEndFrameQueued_keepsLaws s)
  | ticketTake => exact lawful_of_keeps (execTicketTake_keepsLaws s)
  | ticketStatus => exact lawful_of_keeps (execTicketStatus_keeps ha hs)
  | watchPersistenceEnd n => exact lawful_of_keeps (execWatchPersistenceEnd_keepsLaws s n)
  | noticeFrameQueue => exact lawful_of_keeps (keeps_ite (.of_marks rfl) hs)
  | noticeEnable => exact lawful_of_keeps (execNoticeEnable_keepsLaws s)
  | noticeClear => exact lawful_of_keeps (execNoticeClear_keepsLaws s)
  | noticeRead => exact lawful_of_keeps (execNoticeRead_keeps ha hs)
  | lineResetRestoreQueued u => exact lawful_of_keeps (execLineResetRestoreQueued_keepsLaws s u)

/-! ### Every step -/

/-- R89: a second of a stage clock leaves what the laws read. -/
theorem tickKiln_keepsMarks : KeepsMarks tickKiln := by
  intro r
  unfold tickKiln
  split
  · split <;> rfl
  · rfl

theorem marks_tick (s : State) : (tick s).marks = s.marks := by
  unfold tick
  rw [onKilns_every tickKiln]
  simp only [State.marks_onKiln _ _ tickKiln_keepsMarks, State.marks_onClock]

/-- A step is a second, which leaves the kilns' marks, or the command at the head of the queue. -/
theorem step_lawful {s t : State} (h : step s = .next t) : s.keepsLaws t ∨ ∃ c, s.lawful c t := by
  unfold step at h
  split at h
  · obtain rfl := Host.Outcome.next.inj h
    exact .inl (.of_marks (marks_tick s))
  · rename_i c rest _
    exact .inr ⟨c, exec_lawful c (s.withPending rest) t h⟩

section
variable {c : Instr} {s t : State}

theorem State.keepsLaws.timersStopped (h : s.keepsLaws t) (hs : s.timersStopped) : t.timersStopped := by
  intro k
  rw [(h k).1]
  exact hs k

theorem State.lawful.timersStopped (h : s.lawful c t) (hs : s.timersStopped) : t.timersStopped := by
  intro k hstate
  rcases (h k).1 with hsame | ⟨_, hstops, _⟩
  · rw [hsame] at hstate ⊢
    exact hs k hstate
  · exact hstops hstate

end

/-- Settles O9: each clause is read off what every command makes of a permit and of a drop. -/
theorem permitLaws : Obligations.PermitLaws := by
  unfold Obligations.PermitLaws
  refine ⟨fun s t hs h => ?timers, fun c s t k h htripped hon hyard => ?tripped, fun c s t k h hbefore hlive => ?live,
    fun s t hs h k => ?dropping⟩
  case timers =>
    rcases step_lawful h with h | ⟨c, h⟩
    · exact h.timersStopped hs
    · exact h.timersStopped hs
  case tripped =>
    rcases (exec_lawful c s t h k).1 with hsame | ⟨hresets, -⟩
    · exact hsame
    · rcases hresets htripped with rfl | ⟨order, rfl⟩
      · exact absurd rfl hon
      · exact absurd rfl (hyard order)
  case live =>
    rcases (exec_lawful c s t h k).1 with hsame | ⟨-, -, hconfirmed⟩
    · rw [hsame] at hlive
      exact absurd hlive hbefore
    · exact (hconfirmed hlive).resolve_left hbefore
  case dropping =>
    rcases step_lawful h with h | ⟨c, h⟩
    · exact (h k).2 (hs k)
    · exact (h k).2 (hs k)

end Sys2Proof.Machine
end

section
namespace Sys2Proof.Machine

/-! ### Orders owed, queued at the first free place (R61, R75, R81, R112, R118, R172) -/

section
variable {s : State} {st : Nat}

theorem downFree_of_room (h : s.line.ownDown.length < 6) : s.downFree = true := decide_eq_true h

theorem downFree_of_full (h : 6 ≤ s.line.ownDown.length) : s.downFree = false := decide_eq_false (Nat.not_lt.mpr h)

/-! #### Each order at a free place, to the station bound then -/

theorem queueGate_of_room {k : KilnId} (hst : s.bound .dropGate (.kiln k) = some st) (h : s.line.ownDown.length < 6) (v : Int) :
    queueGate k v s = { s with
      line := { s.line with ownDown := s.line.ownDown ++
        [{ frame := ownCommand st v, safety := false, injected := false }] } } := by
  rw [queueGate, hst]
  exact queueDown_of_room h _ _

theorem giveRun_of_room {b : PressId} (hst : s.bound .pileFeed (.press b) = some st) (h : s.line.ownDown.length < 6) :
    giveRun b s = { s.onPress b fun r => { r with feedRun := true, runOwed := false } with
      line := { s.line with ownDown := s.line.ownDown ++
        [{ frame := ownCommand st 1, safety := false, injected := false }] } } := by
  simp only [giveRun, State.onPress_bound_keep, State.onPress_downFree_keep, hst, downFree_of_room h, if_true]
  exact queueDown_of_room (s := s.onPress b fun r => { r with feedRun := true, runOwed := false }) h _ _

theorem sendPhase_of_room {b : PressId} (hst : s.bound .pressHydraulics (.press b) = some st) (h : s.line.ownDown.length < 6)
    (ph : Phase) : sendPhase b ph s = { s.onPress b fun r => { r with phaseOwed := false } with
      line := { s.line with ownDown := s.line.ownDown ++
        [{ frame := ownCommand st (phaseCode ph), safety := false, injected := false }] } } := by
  simp only [sendPhase, hst, downFree_of_room h, if_true, queueDown_of_room h]
  rfl

theorem regate_of_room {k : KilnId} (hst : s.bound .dropGate (.kiln k) = some st) (h : s.line.ownDown.length < 6) :
    regate k s = { s.onRing k fun r => { r with gateRestore := false } with
      line := { s.line with ownDown := s.line.ownDown ++
        [{ frame := ownCommand st (if (s.kiln k).ring.drop.isSome then 1 else 0),
           safety := false, injected := false }] } } := by
  simp only [regate, hst, downFree_of_room h, if_true]
  exact queueGate_of_room (s := s.onRing k fun r => { r with gateRestore := false }) hst h _

theorem redistribute_of_room {p : PickerId} {n : Nat} {c : Charge} (hload : s.loadingCharge p = some (n, c))
    (hst : s.bound .distributor (.picker p) = some st) (h : s.line.ownDown.length < 6) :
    redistribute p s = { s.onPicker p fun r => { r with distributorOwed := false } with
      line := { s.line with ownDown := s.line.ownDown ++
        [{ frame := ownCommand st (kilnIndex c.kiln + 1), safety := false, injected := false }] } } := by
  simp only [redistribute, hload, downFree_of_room h, if_true, queueDistributor, State.onPicker_bound_keep, hst]
  exact queueDown_of_room (s := s.onPicker p fun r => { r with distributorOwed := false }) h _ _

/-! #### The commands that find the place -/

theorem exec_gateCloseOwedQueued_skip {k : KilnId} (h : (s.kiln k).ring.gateCloseOwed = false ∨ 6 ≤ s.line.ownDown.length) :
    exec (.gateCloseOwedQueued k) s = .next s := by
  refine congrArg Host.Outcome.next (if_neg fun hready => ?_)
  rcases h with hmark | hfull
  · exact Bool.false_ne_true (hmark.symm.trans hready.1)
  · exact Bool.false_ne_true ((downFree_of_full hfull).symm.trans hready.2)

theorem exec_pileFeedRunOwedQueued_skip {b : PressId} (h : (s.press b).runOwed = false ∨ 6 ≤ s.line.ownDown.length) :
    exec (.pileFeedRunOwedQueued b) s = .next s := by
  refine congrArg Host.Outcome.next (if_neg ?_)
  rcases h with hmark | hfull
  · simp [hmark]
  · simp [downFree_of_full hfull]

theorem exec_phaseOrderOwedQueued_skip {b : PressId} (h : (s.press b).phaseOwed = false ∨ 6 ≤ s.line.ownDown.length) :
    exec (.phaseOrderOwedQueued b) s = .next s := by
  have hready : ¬((s.press b).phaseOwed && s.downFree) = true := by
    rcases h with hmark | hfull
    · simp [hmark]
    · simp [downFree_of_full hfull]
  show execPhaseOrderOwedQueued b s = .next s
  unfold execPhaseOrderOwedQueued
  split
  · rw [if_neg hready]
  · rfl

theorem exec_lineResetRestoreQueued_skip (h : 6 ≤ s.line.ownDown.length) (u : UnitId) :
    exec (.lineResetRestoreQueued u) s = .next s := by
  cases u with
  | picker p => exact congrArg Host.Outcome.next (if_neg (by simp [downFree_of_full h]))
  | kiln k => exact congrArg Host.Outcome.next (if_neg (by simp [downFree_of_full h]))
  | press b => rfl

/-- R75: the owed Close queued. -/
theorem exec_gateCloseOwedQueued {k : KilnId} (howed : (s.kiln k).ring.gateCloseOwed = true)
    (h : s.line.ownDown.length < 6) (hst : s.bound .dropGate (.kiln k) = some st) :
    exec (.gateCloseOwedQueued k) s = .next { s.onRing k fun r => { r with gateCloseOwed := false } with
      line := { s.line with ownDown := s.line.ownDown ++
        [{ frame := ownCommand st 0, safety := false, injected := false }] } } := by
  refine congrArg Host.Outcome.next ((if_pos ⟨howed, downFree_of_room h⟩).trans ?_)
  rw [queueGate_of_room hst h]
  rfl

/-- R112: the owed Run queued. -/
theorem exec_pileFeedRunOwedQueued {b : PressId} (howed : (s.press b).runOwed = true)
    (h : s.line.ownDown.length < 6) (hst : s.bound .pileFeed (.press b) = some st) :
    exec (.pileFeedRunOwedQueued b) s = .next { s.onPress b fun r => { r with feedRun := true, runOwed := false } with
      line := { s.line with ownDown := s.line.ownDown ++
        [{ frame := ownCommand st 1, safety := false, injected := false }] } } :=
  congrArg Host.Outcome.next ((if_pos (by simp [howed, downFree_of_room h])).trans (giveRun_of_room hst h))

/-- R118: the owed phase order queued. -/
theorem exec_phaseOrderOwedQueued {b : PressId} {ph : Phase} (hph : phaseOf (s.press b).state = some ph)
    (howed : (s.press b).phaseOwed = true) (h : s.line.ownDown.length < 6)
    (hst : s.bound .pressHydraulics (.press b) = some st) :
    exec (.phaseOrderOwedQueued b) s = .next { s.onPress b fun r => { r with phaseOwed := false } with
      line := { s.line with ownDown := s.line.ownDown ++
        [{ frame := ownCommand st (phaseCode ph), safety := false, injected := false }] } } := by
  show execPhaseOrderOwedQueued b s = _
  simp only [execPhaseOrderOwedQueued, hph, howed, downFree_of_room h, Bool.and_self, if_true, sendPhase_of_room hst h]

/-- R81: the gate order owed after a Line Reset queued. -/
theorem exec_lineResetRestoreQueued_kiln {k : KilnId} (howed : (s.kiln k).ring.gateRestore = true)
    (h : s.line.ownDown.length < 6) (hst : s.bound .dropGate (.kiln k) = some st) :
    exec (.lineResetRestoreQueued (.kiln k)) s = .next { s.onRing k fun r => { r with gateRestore := false } with
      line := { s.line with ownDown := s.line.ownDown ++
        [{ frame := ownCommand st (if (s.kiln k).ring.drop.isSome then 1 else 0), safety := false, injected := false }] } } :=
  congrArg Host.Outcome.next ((if_pos (by simp [howed, downFree_of_room h])).trans (regate_of_room hst h))

/-- R61: the Distributor command owed after a Line Reset queued. -/
theorem exec_lineResetRestoreQueued_picker {p : PickerId} {n : Nat} {c : Charge} (howed : (s.picker p).distributorOwed = true)
    (h : s.line.ownDown.length < 6) (hload : s.loadingCharge p = some (n, c))
    (hst : s.bound .distributor (.picker p) = some st) :
    exec (.lineResetRestoreQueued (.picker p)) s = .next { s.onPicker p fun r => { r with distributorOwed := false } with
      line := { s.line with ownDown := s.line.ownDown ++
        [{ frame := ownCommand st (kilnIndex c.kiln + 1), safety := false, injected := false }] } } :=
  congrArg Host.Outcome.next ((if_pos (by simp [howed, downFree_of_room h])).trans (redistribute_of_room hload hst h))

end

/-- Settles O50, one owed order at a time. -/
theorem owedOrdersAreQueued : Obligations.OwedOrdersAreQueued := by
  unfold Obligations.OwedOrdersAreQueued
  refine ⟨fun s k => ⟨exec_gateCloseOwedQueued_skip, fun st howed h hst => exec_gateCloseOwedQueued howed h hst⟩,
    fun s b => ⟨exec_pileFeedRunOwedQueued_skip, fun st howed h hst => exec_pileFeedRunOwedQueued howed h hst,
      exec_phaseOrderOwedQueued_skip, fun ph st hph howed h hst => ?phase⟩,
    fun s => ⟨fun k st howed h hst => exec_lineResetRestoreQueued_kiln howed h hst,
      fun p n c st howed h hload hst => exec_lineResetRestoreQueued_picker howed h hload hst,
      fun u h => exec_lineResetRestoreQueued_skip h u⟩⟩
  case phase =>
    rw [exec_phaseOrderOwedQueued hph howed h hst]
    cases ph <;> rfl

end Sys2Proof.Machine
end

section
namespace Sys2Proof.Machine

/-! ### A drop start asked for (R69, R91) -/

section
variable {s : State} {k : KilnId} {n : Nat}

theorem kiln_queueGate (k : KilnId) (v : Int) (s : State) (j : KilnId) : (queueGate k v s).kiln j = s.kiln j := by
  obtain ⟨g, -, h⟩ := queueGate_eq_onLine k v s
  rw [h, State.onLine_kiln_keep]

theorem charge_queueGate (k : KilnId) (v : Int) (s : State) (c : Nat) : (queueGate k v s).charge c = s.charge c := by
  obtain ⟨g, -, h⟩ := queueGate_eq_onLine k v s
  rw [h, State.onLine_charge_keep]

theorem press_queueGate (k : KilnId) (v : Int) (s : State) (b : PressId) : (queueGate k v s).press b = s.press b := by
  obtain ⟨g, -, h⟩ := queueGate_eq_onLine k v s
  rw [h, State.onLine_press_keep]

theorem press_enterKiln (k : KilnId) (st : KilnState) (s : State) (b : PressId) : (enterKiln k st s).press b = s.press b := by
  obtain ⟨f, g, -, -, h⟩ := enterKiln_eq k st s
  rw [h, State.onLine_press_keep, State.onKiln_press_keep]

theorem press_onCharge (s : State) (c : Nat) (f : Charge → Charge) (b : PressId) : (s.onCharge c f).press b = s.press b := by
  obtain ⟨l, h⟩ := s.onCharge_eq_onPool c f
  rw [h, State.onPool_press_keep]

/-- R92: an entry to a kiln state leaves in the Own queue down what waits there. -/
theorem mem_ownDown_enterKiln {e : OwnDown} (st : KilnState) (h : e ∈ s.line.ownDown) :
    e ∈ (enterKiln k st s).line.ownDown := by
  obtain ⟨f, g, -, hg, henter⟩ := enterKiln_eq k st s
  obtain ⟨more, hmore⟩ := hg (s.onKiln k fun r => f { r with state := st }).line
  rw [henter]
  show e ∈ (g _).ownDown
  rw [hmore]
  exact List.mem_append_left _ h

/-- The drop of charge `n` that kiln `k` starts now (R69). -/
def State.dropStarted (s : State) (k : KilnId) (n : Nat) : Drop :=
  { charge := n, pile := (s.kiln k).config.pile, start := s.now, timeout := (s.kiln k).config.dropTimeout, measured := false }

/-- R69, steps 1 to 3: a drop start before its gate order. -/
def State.withDrop (s : State) (k : KilnId) (n : Nat) : State :=
  ((s.onRing k fun r => { r with drop := some (s.dropStarted k n), gateCloseOwed := false, gateRestore := false }).onCharge n
    fun r => { r with state := .dropping, pile := some (s.kiln k).config.pile, dried := some 0 }).onPress
      (s.kiln k).config.pile fun r => { r with inFlight := r.inFlight + 1 }

theorem takeDrop_eq (k : KilnId) (n : Nat) (s : State) :
    takeDrop k n s = enterKiln k .dropping (clearCycle k (queueGate k 1 (s.withDrop k n))) := rfl

theorem kiln_takeDrop (k : KilnId) (n : Nat) (s : State) : ∃ x y z, (takeDrop k n s).kiln k =
    { s.kiln k with
      state := .dropping, dropOwed := false, stage := none, copy := none, cycleSchedule := none, dropRetryFrom := none,
      pileWoken := false, burnerOwed := x, fanOwed := y, lastInjection := z
      ring := { (s.kiln k).ring with drop := some (s.dropStarted k n), gateCloseOwed := false, gateRestore := false } } := by
  obtain ⟨x, y, z, h⟩ := kiln_enterKiln_same k .dropping (clearCycle k (queueGate k 1 (s.withDrop k n)))
  have hdrop : (s.withDrop k n).kiln k = { s.kiln k with
      ring := { (s.kiln k).ring with drop := some (s.dropStarted k n), gateCloseOwed := false, gateRestore := false } } := by
    rw [State.withDrop, State.onPress_kiln_keep, kiln_onCharge, State.kiln_onRing_same]
  refine ⟨x, y, z, ?_⟩
  rw [takeDrop_eq, h, clearCycle, State.kiln_onKiln_same, kiln_queueGate, hdrop]

theorem charge_takeDrop (k : KilnId) (n : Nat) (s : State) : (takeDrop k n s).charge n = (s.charge n).map fun r =>
    { r with state := .dropping, pile := some (s.kiln k).config.pile, dried := some 0 } := by
  rw [takeDrop_eq, charge_enterKiln, clearCycle, State.onKiln_charge_keep, charge_queueGate, State.withDrop,
    State.onPress_charge_keep, State.charge_onCharge_same]
  rfl

theorem press_takeDrop (k : KilnId) (n : Nat) (s : State) : (takeDrop k n s).press (s.kiln k).config.pile =
    { s.press (s.kiln k).config.pile with inFlight := (s.press (s.kiln k).config.pile).inFlight + 1 } := by
  rw [takeDrop_eq, press_enterKiln, clearCycle, State.onKiln_press_keep, press_queueGate, State.withDrop,
    State.press_onPress_same, press_onCharge]
  rfl

/-- R72: the gate's Open is queued to the station bound then. -/
theorem takeDrop_queues_open {st : Nat} (hst : s.bound .dropGate (.kiln k) = some st) (hroom : s.line.ownDown.length < 6) :
    ∃ e ∈ (takeDrop k n s).line.ownDown, e.frame = ownCommand st 1 := by
  obtain ⟨l, hl⟩ := (s.onRing k fun r =>
    { r with drop := some (s.dropStarted k n), gateCloseOwed := false, gateRestore := false }).onCharge_eq_onPool n
      fun r => { r with state := .dropping, pile := some (s.kiln k).config.pile, dried := some 0 }
  have hline : (s.withDrop k n).line = s.line := by rw [State.withDrop, hl]; rfl
  have hbound : (s.withDrop k n).bound .dropGate (.kiln k) = some st := by rw [State.withDrop, hl]; exact hst
  rw [takeDrop_eq]
  refine ⟨{ frame := ownCommand st 1, safety := false, injected := false }, mem_ownDown_enterKiln .dropping ?_, rfl⟩
  show _ ∈ (queueGate k 1 (s.withDrop k n)).line.ownDown
  rw [queueGate_of_room hbound (hline.symm ▸ hroom)]
  exact List.mem_append_right _ (List.mem_singleton_self _)

/-- R91: an entry to PileFull changes nothing of the presses or the pool. -/
theorem enterPileFull_spec (k : KilnId) (s : State) :
    ((enterPileFull k s).kiln k).state = .pileFull ∧ (enterPileFull k s).presses = s.presses ∧
      (enterPileFull k s).pool = s.pool ∧
      ((s.kiln k).state ≠ .pileFull → (enterPileFull k s).latchedNow (srcPileFull k)) := by
  unfold enterPileFull
  split
  · rename_i h
    exact ⟨h, rfl, rfl, fun hne => absurd h hne⟩
  · have hlatched : (latch (srcPileFull k) (enterKiln k .pileFull s)).latchedNow (srcPileFull k) :=
      latchedNow_latch _ _ (by cases k <;> decide)
    obtain ⟨g, hg⟩ := latch_eq_onNotice (srcPileFull k) (enterKiln k .pileFull s)
    obtain ⟨x, y, z, hkiln⟩ := kiln_enterKiln_same k .pileFull s
    obtain ⟨f, l, -, -, henter⟩ := enterKiln_eq k .pileFull s
    refine ⟨?_, ?_, ?_, fun _ => hlatched⟩
    · rw [hg, State.onNotice_kiln_keep, hkiln]
    · rw [hg, henter]; rfl
    · rw [hg, henter]; rfl

/-- R69: a drop start asked for of a loaded lower floor, the upper floor not loading. -/
theorem askDrop_of_loaded (hlower : (s.kiln k).ring.lower = .loaded n) (hupper : ∀ m, (s.kiln k).ring.upper ≠ .loading m) :
    askDrop k s =
      if s.gatePlaceMissing k then s.onKiln k fun r => { r with dropRetryFrom := some s.now, pileWoken := false }
      else if (s.press (s.kiln k).config.pile).placesUsed < 8 then takeDrop k n s
      else enterPileFull k (s.onKiln k fun r => { r with dropRetryFrom := none, pileWoken := false }) := by
  unfold askDrop
  cases h : (s.kiln k).ring.upper with
  | loading m => exact absurd h (hupper m)
  | empty => rw [hlower]; rfl
  | loaded m => rw [hlower]; rfl

theorem gatePlaceMissing_iff (s : State) (k : KilnId) :
    s.gatePlaceMissing k = true ↔ (s.bound .dropGate (.kiln k)).isSome = true ∧ 6 ≤ s.line.ownDown.length := by
  rw [State.gatePlaceMissing, Bool.and_eq_true, Bool.not_eq_true', State.downFree, decide_eq_false_iff_not, not_lt]
  rfl

theorem gatePlace_free (h : s.bound .dropGate (.kiln k) = none ∨ s.line.ownDown.length < 6) :
    s.gatePlaceMissing k = false := by
  rw [Bool.eq_false_iff, Ne, gatePlaceMissing_iff]
  rintro ⟨hbound, hfull⟩
  rcases h with hnone | hroom
  · rw [hnone] at hbound
    cases hbound
  · omega

/-- R69, R71: both retries ask for the drop start. -/
theorem exec_dropStartRetry {m : Nat} (hstate : (s.kiln k).state ≠ .dropping) (howed : (s.kiln k).dropOwed = true)
    (hfrom : (s.kiln k).dropRetryFrom = some m) (hdue : m + 1 ≤ s.now) :
    exec (.dropStartRetry k) s = .next (askDrop k s) := by
  show execDropStartRetry k s = _
  simp only [execDropStartRetry, hfrom]
  exact congrArg Host.Outcome.next (if_pos ⟨hdue, howed, hstate⟩)

theorem exec_pilefullRetry (hstate : (s.kiln k).state = .pileFull) (hwoken : (s.kiln k).pileWoken = true) :
    exec (.pilefullRetry k) s = .next (askDrop k s) := congrArg Host.Outcome.next (if_pos ⟨hstate, hwoken⟩)

end

/-- Settles O44: both retries are `askDrop`, whose three outcomes have a lemma each. -/
theorem dropStartIsTaken : Obligations.DropStartIsTaken := by
  unfold Obligations.DropStartIsTaken
  intro s k n r c hc hlower hupper hcharge
  have hexec : exec c s = .next (askDrop k s) := by
    rcases hc with ⟨rfl, hstate, howed, m, hfrom, hdue⟩ | ⟨rfl, hstate, hwoken⟩
    · exact exec_dropStartRetry hstate howed hfrom hdue
    · exact exec_pilefullRetry hstate hwoken
  rw [hexec, askDrop_of_loaded hlower hupper]
  refine ⟨fun hbound hfull => ?noPlace, fun hplace hpile => ?pileFull, fun hplace hpile => ?taken⟩
  case noPlace => rw [if_pos ((gatePlaceMissing_iff s k).mpr ⟨hbound, hfull⟩)]
  case pileFull =>
    rw [gatePlace_free hplace, if_neg Bool.false_ne_true, if_neg (Nat.not_lt.mpr hpile)]
    obtain ⟨hstate, hpresses, hpool, hlatched⟩ :=
      enterPileFull_spec k (s.onKiln k fun r => { r with dropRetryFrom := none, pileWoken := false })
    rw [State.kiln_onKiln_same] at hlatched
    exact ⟨_, rfl, hstate, hpresses, hpool, hlatched⟩
  case taken =>
    rw [gatePlace_free hplace, if_neg Bool.false_ne_true, if_pos hpile]
    obtain ⟨x, y, z, hkiln⟩ := kiln_takeDrop k n s
    refine ⟨_, rfl, ?_⟩
    rw [hkiln, charge_takeDrop, press_takeDrop, hcharge]
    refine ⟨rfl, rfl, rfl, rfl, rfl, rfl, rfl, rfl, rfl, fun st hst => takeDrop_queues_open hst ?_⟩
    rcases hplace with hnone | hroom
    · rw [hnone] at hst
      cases hst
    · exact hroom

end Sys2Proof.Machine
end

section
namespace Sys2Proof.Machine

/-! ### What an entry to a kiln state leaves (R92) -/

/-- An Own queue down that has gained injected Commands alone, and none where no place outside the safety places is free. -/
def gainsInjections (l m : List OwnDown) : Prop :=
  ∃ rest, m = l ++ rest ∧ (∀ e ∈ rest, e.injected = true) ∧ (6 ≤ l.length → rest = [])

theorem gainsInjections.refl (l : List OwnDown) : gainsInjections l l :=
  ⟨[], (List.append_nil l).symm, fun _ h => (List.not_mem_nil h).elim, fun _ => rfl⟩

theorem gainsInjections.trans {l m n : List OwnDown} (h : gainsInjections l m) (h' : gainsInjections m n) :
    gainsInjections l n := by
  obtain ⟨rest, rfl, hrest, hfull⟩ := h
  obtain ⟨more, rfl, hmore, hfull'⟩ := h'
  refine ⟨rest ++ more, List.append_assoc .., ?_, fun hlength => ?_⟩
  · exact fun e he => (List.mem_append.mp he).elim (hrest e) (hmore e)
  · rw [hfull hlength, List.append_nil] at hfull'
    rw [hfull hlength, hfull' hlength, List.append_nil]

theorem gainsInjections.mem_or {l m : List OwnDown} (h : gainsInjections l m) {e : OwnDown} (he : e ∈ m) :
    e ∈ l ∨ e.injected = true := by
  obtain ⟨rest, rfl, hrest, -⟩ := h
  exact (List.mem_append.mp he).imp_right (hrest e)

/-- A change of the kilns, the pickers, the notices and the channels, after which the Own queue down has gained injected
Commands alone. -/
structure State.onlyInjects (s t : State) : Prop where
  agent : t.agent = s.agent
  lots : t.lots = s.lots
  pool : t.pool = s.pool
  schedules : t.schedules = s.schedules
  presses : t.presses = s.presses
  store : t.store = s.store
  ownUp : t.line.ownUp = s.line.ownUp
  ownDown : gainsInjections s.line.ownDown t.line.ownDown

section
variable {s t u : State}

theorem State.onlyInjects.trans (h : s.onlyInjects t) (h' : t.onlyInjects u) : s.onlyInjects u where
  agent := h'.agent.trans h.agent
  lots := h'.lots.trans h.lots
  pool := h'.pool.trans h.pool
  schedules := h'.schedules.trans h.schedules
  presses := h'.presses.trans h.presses
  store := h'.store.trans h.store
  ownUp := h'.ownUp.trans h.ownUp
  ownDown := h.ownDown.trans h'.ownDown

theorem State.onlyInjects.refl (s : State) : s.onlyInjects s := ⟨rfl, rfl, rfl, rfl, rfl, rfl, rfl, .refl _⟩

theorem State.onlyInjects_onKilns (s : State) (g : Kilns → Kilns) : s.onlyInjects (s.onKilns g) :=
  ⟨rfl, rfl, rfl, rfl, rfl, rfl, rfl, .refl _⟩

theorem State.onlyInjects_onKiln (s : State) (k : KilnId) (f : Kiln → Kiln) : s.onlyInjects (s.onKiln k f) :=
  ⟨rfl, rfl, rfl, rfl, rfl, rfl, rfl, .refl _⟩

theorem onlyInjects_latch (n : Nat) (s : State) : s.onlyInjects (latch n s) := by
  obtain ⟨g, h⟩ := latch_eq_onNotice n s
  rw [h]
  exact ⟨rfl, rfl, rfl, rfl, rfl, rfl, rfl, .refl _⟩

theorem onlyInjects_queueDown (f : Frame) (h : s.downFree = true) : s.onlyInjects (queueDown f true s) := by
  have hroom : s.line.ownDown.length < 6 := of_decide_eq_true h
  rw [queueDown_of_room hroom]
  exact ⟨rfl, rfl, rfl, rfl, rfl, rfl, rfl,
    _, rfl, fun e he => List.mem_singleton.mp he ▸ rfl, fun hfull => absurd hroom (Nat.not_lt.mpr hfull)⟩

theorem onlyInjects_setOwed (k : KilnId) (t : HeatTarget) (b : Bool) (s : State) : s.onlyInjects (setOwed k t b s) := by
  obtain ⟨f, -, h⟩ := setOwed_eq_onKiln k t b s
  rw [h]
  exact s.onlyInjects_onKiln k f

theorem onlyInjects_injectTo (k : KilnId) (t : HeatTarget) (v : Int × Nat) (s : State) :
    s.onlyInjects (injectTo k t v s) := by
  unfold injectTo
  split
  · exact onlyInjects_setOwed k t false s
  · split
    · exact onlyInjects_setOwed k t true s
    · rename_i h
      have hfree : s.downFree = true := by simpa using (not_or.mp (mt Bool.or_eq_true_iff.mpr h)).2
      exact (onlyInjects_queueDown _ hfree).trans (onlyInjects_setOwed k t false _)

theorem onlyInjects_inject (k : KilnId) (s : State) : s.onlyInjects (inject k s) := by
  unfold inject
  split
  · exact .refl s
  · exact (onlyInjects_injectTo k .burner _ s).trans
      ((onlyInjects_injectTo k .fan _ _).trans (State.onlyInjects_onKiln _ k _))

theorem onlyInjects_enterKiln (k : KilnId) (st : KilnState) (s : State) : s.onlyInjects (enterKiln k st s) :=
  (s.onlyInjects_onKiln k _).trans (onlyInjects_inject k _)

theorem onlyInjects_loadStage (k : KilnId) (n elapsed : Nat) (s : State) : s.onlyInjects (loadStage k n elapsed s) := by
  unfold loadStage
  split
  · exact .refl s
  · split
    · exact .refl s
    · exact (s.onlyInjects_onKiln k _).trans (onlyInjects_enterKiln k _ _)

theorem onlyInjects_offerKiln (k : KilnId) (s : State) : s.onlyInjects (offerKiln k s) := by
  obtain ⟨⟨g, h⟩, -⟩ := offerKiln_reoffered k s
  rw [h]
  exact s.onlyInjects_onKilns g

theorem onlyInjects_enterAwaitingOrIdle (k : KilnId) (s : State) : s.onlyInjects (enterAwaitingOrIdle k s) := by
  unfold enterAwaitingOrIdle
  split
  · exact ((s.onlyInjects_onKiln k _).trans (onlyInjects_enterKiln k _ _)).trans (onlyInjects_offerKiln k _)
  · exact (onlyInjects_enterKiln k _ s).trans (onlyInjects_offerKiln k _)

theorem onlyInjects_emptyDrop (k : KilnId) (s : State) : s.onlyInjects (emptyDrop k s) :=
  (s.onlyInjects_onKiln k _).trans ((State.onlyInjects_onKiln _ k _).trans (onlyInjects_enterAwaitingOrIdle k _))

end

/-! ### An empty drop (R68, R70, R91) -/

section
variable {s u : State} {k : KilnId}

/-- R70, R75: the kiln in Awaiting or Idle, by its charges. -/
theorem kiln_enterAwaitingOrIdle (k : KilnId) (s : State) : ∃ x y z a b o d, (enterAwaitingOrIdle k s).kiln k =
    { s.kiln k with
      state := if (s.kiln k).ring.occupied then .awaiting else .idle
      burnerOwed := x, fanOwed := y, lastInjection := z, awaitingStart := a, overdue := b
      ring := { (s.kiln k).ring with offered := o, declined := d } } := by
  unfold enterAwaitingOrIdle
  split <;> rename_i h
  · obtain ⟨x, y, z, henter⟩ :=
      kiln_enterKiln_same k .awaiting (s.onKiln k fun r => { r with awaitingStart := some s.now, overdue := false })
    obtain ⟨o, d, hoffer⟩ := (offerKiln_reoffered k
      (enterKiln k .awaiting (s.onKiln k fun r => { r with awaitingStart := some s.now, overdue := false }))).2 k
    exact ⟨x, y, z, some s.now, false, o, d, by rw [hoffer, henter, State.kiln_onKiln_same]⟩
  · obtain ⟨x, y, z, henter⟩ := kiln_enterKiln_same k .idle s
    obtain ⟨o, d, hoffer⟩ := (offerKiln_reoffered k (enterKiln k .idle s)).2 k
    exact ⟨x, y, z, (s.kiln k).awaitingStart, (s.kiln k).overdue, o, d, by rw [hoffer, henter]⟩

/-- R70: an empty drop turns the ring and clears the cycle. -/
theorem kiln_emptyDrop (k : KilnId) (s : State) : ∃ x y z a b o d, (emptyDrop k s).kiln k =
    { s.kiln k with
      dropOwed := false, stage := none, copy := none, cycleSchedule := none, dropRetryFrom := none, pileWoken := false
      state := if (s.kiln k).ring.occupied then .awaiting else .idle
      burnerOwed := x, fanOwed := y, lastInjection := z, awaitingStart := a, overdue := b
      ring := { (s.kiln k).ring.turn with emptyDrops := (s.kiln k).ring.emptyDrops + 1, offered := o, declined := d } } := by
  obtain ⟨x, y, z, a, b, o, d, h⟩ :=
    kiln_enterAwaitingOrIdle k ((clearCycle k s).onRing k fun r => { r.turn with emptyDrops := r.emptyDrops + 1 })
  refine ⟨x, y, z, a, b, o, d, ?_⟩
  rw [emptyDrop, h, State.kiln_onRing_same, clearCycle, State.kiln_onKiln_same]
  rfl

/-- R68: the charges a cycle has passed. -/
theorem charge_foldl_onCharge (f : Charge → Charge) {l : List Nat} (hl : l.Nodup) (s : State) (n : Nat) :
    (l.foldl (fun s c => s.onCharge c f) s).charge n = (s.charge n).map fun r => if n ∈ l then f r else r := by
  induction l generalizing s with
  | nil => simp
  | cons c l ih =>
    obtain ⟨hc, hl⟩ := List.nodup_cons.mp hl
    rw [List.foldl_cons, ih hl]
    by_cases hn : n = c
    · subst hn
      simp [State.charge_onCharge_same, hc, Function.comp_def]
    · rw [State.charge_onCharge_other s f (Ne.symm hn)]
      simp [hn]

/-- A cycle passed by charges changes their records alone. -/
theorem passCycle_eq_onPool (k : KilnId) (s : State) :
    ∃ l, passCycle k s = s.onPool fun p => { p with records := l } := by
  unfold passCycle
  generalize (s.kiln k).ring.charges = l
  refine foldl_closed (P := fun t => ∃ l, t = s.onPool fun p => { p with records := l }) _ ?_ l ⟨s.pool.records, rfl⟩
  rintro _ c ⟨l, rfl⟩
  obtain ⟨l', h⟩ := (s.onPool fun p => { p with records := l }).onCharge_eq_onPool c
    fun r => { r with cycles := if r.cycles < 3 then r.cycles + 1 else 3 }
  exact ⟨l', h⟩

/-- R91: the cycle completed, before its drop start is asked for. -/
def cycleDone (k : KilnId) (s : State) : State :=
  clearExcursion k ((latch (srcCycleDone k) s).onKiln k fun r => { r with dropOwed := true })

theorem onlyInjects_cycleDone (k : KilnId) (s : State) : s.onlyInjects (cycleDone k s) := by
  unfold cycleDone clearExcursion
  exact ((onlyInjects_latch _ s).trans (State.onlyInjects_onKiln _ k _)).trans (State.onlyInjects_onKiln _ k _)

theorem kiln_cycleDone (k : KilnId) (s : State) : (cycleDone k s).kiln k =
    { s.kiln k with dropOwed := true, excursionStart := none, bandLatched := false } := by
  obtain ⟨g, h⟩ := latch_eq_onNotice (srcCycleDone k) s
  rw [cycleDone, clearExcursion, State.kiln_onKiln_same, State.kiln_onKiln_same, h, State.onNotice_kiln_keep]

/-- R70: a drop start asked for of an Empty lower floor is an empty drop. -/
theorem askDrop_of_empty (hlower : (s.kiln k).ring.lower = .empty) (hupper : ∀ j, (s.kiln k).ring.upper ≠ .loading j) :
    askDrop k s = emptyDrop k s := by
  unfold askDrop
  cases h : (s.kiln k).ring.upper with
  | loading m => exact absurd h (hupper m)
  | empty => rw [hlower]
  | loaded m => rw [hlower]

/-- R70, R91: a cycle completed over an Empty lower floor takes its empty drop at once. -/
theorem completeCycle_of_empty (hlower : (s.kiln k).ring.lower = .empty)
    (hupper : ∀ j, (s.kiln k).ring.upper ≠ .loading j) : completeCycle k s = emptyDrop k (passCycle k (cycleDone k s)) := by
  have hkiln : (passCycle k (cycleDone k s)).kiln k =
      { s.kiln k with dropOwed := true, excursionStart := none, bandLatched := false } :=
    (passCycle_keeps k _).1.trans (kiln_cycleDone k s)
  have hask : askDrop k (passCycle k (cycleDone k s)) = emptyDrop k (passCycle k (cycleDone k s)) :=
    askDrop_of_empty (by rw [hkiln]; exact hlower) (by rw [hkiln]; exact hupper)
  show oweDrop k (passCycle k (cycleDone k s)) = _
  unfold oweDrop
  rw [hask]
  refine if_neg fun hcycles => ?_
  obtain ⟨x, y, z, a, b, o, d, h⟩ := kiln_emptyDrop k (passCycle k (cycleDone k s))
  rw [h] at hcycles
  exact Bool.false_ne_true hcycles.2

/-- R70: what a cycle leaves that completes over an Empty lower floor. -/
def State.turnedOver (s t : State) (k : KilnId) : Prop :=
  t.latchedNow (srcCycleDone k) ∧ (t.kiln k).ring.top = (s.kiln k).ring.top + 2 ∧
    (t.kiln k).ring.upper = .empty ∧ (t.kiln k).ring.slot 0 = (s.kiln k).ring.slot 0 ∧
    (t.kiln k).ring.slot 1 = (s.kiln k).ring.slot 1 ∧ (t.kiln k).ring.slot 2 = (s.kiln k).ring.slot 2 ∧
    (t.kiln k).ring.drop = (s.kiln k).ring.drop ∧
    (t.kiln k).ring.dropsCompleted = (s.kiln k).ring.dropsCompleted ∧
    (t.kiln k).ring.emptyDrops = (s.kiln k).ring.emptyDrops + 1 ∧
    (t.kiln k).state = (if (s.kiln k).ring.occupied then .awaiting else .idle) ∧
    (t.kiln k).dropOwed = false ∧ (t.kiln k).stage = none ∧ (t.kiln k).copy = none ∧ (t.kiln k).cycleSchedule = none ∧
    (t.kiln k).excursionStart = none ∧ (t.kiln k).bandLatched = false ∧
    t.presses = s.presses ∧ t.lots = s.lots ∧ t.store = s.store ∧ t.pool.next = s.pool.next ∧
    ((s.kiln k).ring.charges.Nodup → ∀ n, t.charge n = (s.charge n).map fun r =>
      { r with cycles := if n ∈ (s.kiln k).ring.charges then min (r.cycles + 1) 3 else r.cycles }) ∧
    ∀ e ∈ t.line.ownDown, e ∈ s.line.ownDown ∨ e.injected = true

/-- R68: the charges of a ring whose cycle is done. -/
theorem charge_passCycle (hl : (s.kiln k).ring.charges.Nodup) (n : Nat) : (passCycle k s).charge n = (s.charge n).map fun r =>
    { r with cycles := if n ∈ (s.kiln k).ring.charges then min (r.cycles + 1) 3 else r.cycles } := by
  rw [passCycle, charge_foldl_onCharge _ hl]
  refine congrArg (fun f => (s.charge n).map f) (funext fun r => ?_)
  split
  · have hmin : (if r.cycles < 3 then r.cycles + 1 else 3) = min (r.cycles + 1) 3 := by split <;> omega
    rw [hmin]
  · rfl

/-- R70, R91: a cycle that completes from `u`, whose ring and charges are those of `s`, turns the ring over. -/
theorem completeCycle_turnsOver (hkept : s.onlyInjects u) (hring : (u.kiln k).ring = (s.kiln k).ring)
    (hlower : (s.kiln k).ring.lower = .empty) (hupper : ∀ j, (s.kiln k).ring.upper ≠ .loading j) :
    s.turnedOver (completeCycle k u) k ∧ (completeCycle k u).agent = s.agent ∧
      (completeCycle k u).line.ownUp = s.line.ownUp := by
  obtain ⟨hlatched, -⟩ := completeCycle_spec k u
  rw [completeCycle_of_empty (hring.symm ▸ hlower) (hring.symm ▸ hupper)] at hlatched ⊢
  have hdone := hkept.trans (onlyInjects_cycleDone k u)
  obtain ⟨l, hpool⟩ := passCycle_eq_onPool k (cycleDone k u)
  have hdrop := onlyInjects_emptyDrop k (passCycle k (cycleDone k u))
  obtain ⟨x, y, z, a, b, o, d, hkiln⟩ := kiln_emptyDrop k (passCycle k (cycleDone k u))
  have hcharge (n : Nat) : (emptyDrop k (passCycle k (cycleDone k u))).charge n = (passCycle k (cycleDone k u)).charge n := by
    rw [State.charge, hdrop.pool, State.charge]
  have hring' : ((cycleDone k u).kiln k).ring = (s.kiln k).ring := by rw [kiln_cycleDone, ← hring]
  have hcharges : (s.kiln k).ring.charges.Nodup → ∀ n, (emptyDrop k (passCycle k (cycleDone k u))).charge n =
      (s.charge n).map fun r =>
        { r with cycles := if n ∈ (s.kiln k).ring.charges then min (r.cycles + 1) 3 else r.cycles } := by
    intro hl n
    rw [hcharge, charge_passCycle (hring'.symm ▸ hl), hring', State.charge, hdone.pool, State.charge]
  rw [(passCycle_keeps k _).1, kiln_cycleDone, hring] at hkiln
  have hupper' : (({ (s.kiln k).ring.turn with emptyDrops := (s.kiln k).ring.emptyDrops + 1, offered := o, declined := d } :
      Ring)).upper = .empty := hlower
  refine ⟨⟨hlatched, ?_⟩, hdrop.agent.trans (by rw [hpool]; exact hdone.agent),
    hdrop.ownUp.trans (by rw [hpool]; exact hdone.ownUp)⟩
  rw [hkiln]
  refine ⟨rfl, hupper', rfl, rfl, rfl, rfl, rfl, rfl, rfl, rfl, rfl, rfl, rfl, rfl, rfl,
    hdrop.presses.trans (by rw [hpool]; exact hdone.presses), hdrop.lots.trans (by rw [hpool]; exact hdone.lots),
    hdrop.store.trans (by rw [hpool]; exact hdone.store), ?_, hcharges, fun e he => ?_⟩
  · rw [hdrop.pool, hpool, ← hdone.pool]
    rfl
  · have hline : (passCycle k (cycleDone k u)).line = (cycleDone k u).line := by rw [hpool]; rfl
    exact (hdone.ownDown.trans (hline ▸ hdrop.ownDown)).mem_or he

end

/-! ### The ways a cycle completes (R89, R90) -/

section
variable {s : State} {k : KilnId} {c : StageCopy}

/-- R86, R90: the moisture test of an entry to Finishing over an Empty lower floor completes the cycle. -/
theorem moistureAtEntry_of_empty (hstate : (s.kiln k).state = .finishing) (howed : (s.kiln k).dropOwed = false)
    (hlive : (s.kiln k).permit.state = .live) (hlower : (s.kiln k).ring.lower = .empty) :
    moistureAtEntry k s = completeCycle k s :=
  if_pos ⟨hstate, Kiln.clockRuns_iff.mpr ⟨by rw [hstate]; rfl, howed, hlive⟩, hlower⟩

/-- R90: the advance to a Moisture stage over an Empty lower floor completes the cycle. -/
theorem enterStage_of_not_stays {g n : Nat} {x : Stage} (hcycle : (s.kiln k).cycleSchedule = some g)
    (hx : s.stageOf g n = some x) (hstays : ¬s.stageStays k g n x) (howed : (s.kiln k).dropOwed = false)
    (hlive : (s.kiln k).permit.state = .live) :
    enterStage k n s = completeCycle k (loadStage k n 0 s) ∧ ((loadStage k n 0 s).kiln k).ring = (s.kiln k).ring := by
  obtain ⟨hstate, hlower⟩ := not_or.mp hstays
  obtain ⟨b, f, i, h⟩ := kiln_loadStage 0 hcycle hx
  refine ⟨moistureAtEntry_of_empty ?_ ?_ ?_ ?_, ?_⟩
  · rw [h]; exact not_not.mp hstate
  · rw [h]; exact howed
  · rw [h]; exact hlive
  · rw [h]; exact not_not.mp hlower
  · rw [h]; rfl

/-- R90: timed-dry of an Empty lower floor. -/
theorem timedDry_of_empty (hlower : (s.kiln k).ring.lower = .empty) : timedDry k s = completeCycle k s := by
  simp only [timedDry, hlower, Slot.charge]

theorem moistureUpdate_of_empty {u : Update} (hstate : (s.kiln k).state = .finishing) (hruns : (s.kiln k).clockRuns = true)
    (hlower : (s.kiln k).ring.lower = .empty) : moistureUpdate k u s = completeCycle k s := by
  rw [moistureUpdate, if_pos ⟨hstate, hruns⟩, hlower]
  rfl

/-- R90, R94: the return to a last Moisture stage over an Empty lower floor completes the cycle. -/
theorem returnToStage_of_empty (hcopy : (s.kiln k).copy = some c) (hlast : c.last = true)
    (hend : c.stage.endTest = .moisture) (howed : (s.kiln k).dropOwed = false) (hlive : (s.kiln k).permit.state = .live)
    (hlower : (s.kiln k).ring.lower = .empty) :
    returnToStage k s = completeCycle k (enterKiln k .finishing s) ∧
      ((enterKiln k .finishing s).kiln k).ring = (s.kiln k).ring := by
  have hrun : c.runState = .finishing := if_pos ⟨hlast, hend⟩
  obtain ⟨x, y, z, h⟩ := kiln_enterKiln_same k .finishing s
  rw [returnToStage, hcopy, ← hrun]
  dsimp only
  rw [hrun]
  refine ⟨moistureAtEntry_of_empty ?_ ?_ ?_ ?_, ?_⟩
  · rw [h]
  · rw [h]; exact howed
  · rw [h]; exact hlive
  · rw [h]; exact hlower
  · rw [h]

/-- R94, R95: a flag set on a kiln that then returns to its last Moisture stage turns the ring over. -/
theorem returnToStage_turnsOver {f : Kiln → Kiln} (hcopy : (f (s.kiln k)).copy = some c) (hlast : c.last = true)
    (hend : c.stage.endTest = .moisture) (howed : (f (s.kiln k)).dropOwed = false)
    (hlive : (f (s.kiln k)).permit.state = .live) (hring : (f (s.kiln k)).ring = (s.kiln k).ring)
    (hlower : (s.kiln k).ring.lower = .empty) (hupper : ∀ j, (s.kiln k).ring.upper ≠ .loading j) :
    s.turnedOver (returnToStage k (s.onKiln k f)) k ∧ (returnToStage k (s.onKiln k f)).agent = s.agent ∧
      (returnToStage k (s.onKiln k f)).line.ownUp = s.line.ownUp := by
  have hkiln := s.kiln_onKiln_same k f
  obtain ⟨hreturn, hsame⟩ := returnToStage_of_empty (s := s.onKiln k f) (k := k) (c := c) (by rw [hkiln]; exact hcopy) hlast
    hend (by rw [hkiln]; exact howed) (by rw [hkiln]; exact hlive) (by rw [hkiln, hring]; exact hlower)
  rw [hreturn]
  exact completeCycle_turnsOver ((s.onlyInjects_onKiln k f).trans (onlyInjects_enterKiln k _ _))
    (by rw [hsame, hkiln, hring]) hlower hupper

theorem releaseHold_of_hold (h : (s.kiln k).state = .hold) :
    releaseHold k s = returnToStage k (s.onKiln k fun r => { r with holdOff := true }) := by
  refine if_pos ?_
  rw [State.kiln_onKiln_same]
  exact h

theorem setSchedule_of_manual (h : (s.kiln k).state = .manual) (hoff : (s.kiln k).holdOff = true) :
    setSchedule k s = returnToStage k (s.onKiln k fun r => { r with scheduleFlag := true }) := by
  have hkiln := s.kiln_onKiln_same k fun r => { r with scheduleFlag := true }
  rw [setSchedule, hkiln, if_pos h, if_pos hoff]

theorem State.turnedOver.reply {t : State} (h : s.turnedOver t k) (f : Frame) (a : Answer) : s.turnedOver (t.reply f a) k := h

/-- R94: Kiln Release, served. -/
theorem exec_kilnRelease {f : Frame} {i : Nat} (hserves : s.serves f (.kilnRelease i)) (hk : kilnOf i = some k)
    (hup : (releaseHold k s).line.ownUp = s.line.ownUp) :
    exec .kilnRelease s = .next ((releaseHold k s).reply f (.done [])) := by
  refine congrArg Host.Outcome.next (serve_eq_reply hserves ?_ hup)
  simp only [onKilnRequest, hk]
  rfl

/-- R95: Kiln Mode, to Schedule, served. -/
theorem exec_kilnMode_schedule {f : Frame} {i : Nat} (hserves : s.serves f (.kilnMode i false)) (hk : kilnOf i = some k)
    (hup : (setSchedule k s).line.ownUp = s.line.ownUp) :
    exec .kilnMode s = .next ((setSchedule k s).reply f (.done [])) := by
  refine congrArg Host.Outcome.next (serve_eq_reply hserves ?_ hup)
  simp only [onKilnRequest, hk]
  rfl

end

/-- Settles O45: every way the cycle completes is `completeCycle` of a state whose ring and charges are those of `s`
(`completeCycle_turnsOver`). -/
theorem emptyDropTurnsTheRing : Obligations.EmptyDropTurnsTheRing := by
  unfold Obligations.EmptyDropTurnsTheRing
  intro s k c hcopy hlive howed hlower hupper turned
  have hturns {u : State} (hkept : s.onlyInjects u) (hring : (u.kiln k).ring = (s.kiln k).ring) :
      turned (completeCycle k u) := (completeCycle_turnsOver hkept hring hlower hupper).1
  have hruns (h : (s.kiln k).state.cycles = true) : (s.kiln k).clockRuns = true := Kiln.clockRuns_iff.mpr ⟨h, howed, hlive⟩
  refine ⟨fun g n hstate hdue hcycle hstage hlast => ?last, fun g n x hstate hdue hcycle hstage hlast hx hstays => ?next,
    fun hstate hdue => ?timed, fun hstate u => ?moisture,
    fun hlast hend f i hk => ⟨fun hstate hserves => ?release, fun hstate hoff hserves => ?mode⟩⟩
  case last =>
    refine ⟨_, exec_stageEnd_of_due (hruns (by rw [hstate]; rfl)) hcopy (by rw [hstate]; decide) hdue, ?_⟩
    rw [endStage_of_last hcopy hcycle hstage hlast]
    exact hturns (.refl s) rfl
  case next =>
    obtain ⟨henter, hring⟩ := enterStage_of_not_stays hcycle hx hstays howed hlive
    refine ⟨_, exec_stageEnd_of_due (hruns (by rw [hstate]; rfl)) hcopy (by rw [hstate]; decide) hdue, ?_⟩
    rw [endStage_of_next hcopy hcycle hstage hlast hx, henter]
    exact hturns (onlyInjects_loadStage k _ _ s) hring
  case timed =>
    refine ⟨_, exec_timedDryEnd_of_due (hruns (by rw [hstate]; rfl)) hcopy hstate hdue, ?_⟩
    rw [timedDry_of_empty hlower]
    exact hturns (.refl s) rfl
  case moisture =>
    show turned (moistureUpdate k u s)
    rw [moistureUpdate_of_empty hstate (hruns (by rw [hstate]; rfl)) hlower]
    exact hturns (.refl s) rfl
  case release =>
    obtain ⟨hturned, hagent, hup⟩ := returnToStage_turnsOver (f := fun r => { r with holdOff := true }) hcopy hlast hend
      howed hlive rfl hlower hupper
    rw [← releaseHold_of_hold hstate] at hturned hagent hup
    exact ⟨_, exec_kilnRelease hserves hk hup, State.answeredAs_reply f _ hup hagent, hturned.reply f _⟩
  case mode =>
    obtain ⟨hturned, hagent, hup⟩ := returnToStage_turnsOver (f := fun r => { r with scheduleFlag := true }) hcopy hlast
      hend howed hlive rfl hlower hupper
    rw [← setSchedule_of_manual hstate hoff] at hturned hagent hup
    exact ⟨_, exec_kilnMode_schedule hserves hk hup, State.answeredAs_reply f _ hup hagent, hturned.reply f _⟩

end Sys2Proof.Machine
end

section
namespace Sys2Proof.Machine

/-! ### What the presses' operations leave of the rest (R78, R112 to R116) -/

/-- The dried mass of a lot (R10). -/
def State.lotDried (s : State) (n : Nat) : Option Word := (s.lot n).map Lot.dried

theorem State.lotDried_onLot (s : State) (m : Nat) {f : Lot → Lot} (hf : ∀ l, (f l).dried = l.dried) :
    (s.onLot m f).lotDried = s.lotDried := by
  funext n
  by_cases h : m = n
  · subst h
    rw [State.lotDried, State.lot_onLot_same, Option.map_map, State.lotDried]
    exact congrArg (fun g => (s.lot m).map g) (funext hf)
  · rw [State.lotDried, State.lot_onLot_other _ _ h, State.lotDried]

theorem lotDried_settleTest (n : Nat) (s : State) : (settleTest n s).lotDried = s.lotDried := by
  unfold settleTest
  split
  · rfl
  · rename_i l _
    split
    · obtain ⟨g, hg⟩ := issueTicket_eq_onStore .settlement n l.grower (settlementBody l) s
      rw [hg]
      exact State.lotDried_onLot (s.onStore g) n (f := fun l => { l with reserved := false, state := .settled }) fun _ => rfl
    · rfl

/-- A change at the presses: the kilns may be woken for a place of their pile, and no lot's dried mass changes. -/
structure State.worksPresses (s t : State) : Prop where
  chan : t.chan = s.chan
  clock : t.clock = s.clock
  agent : t.agent = s.agent
  ownUp : t.line.ownUp = s.line.ownUp
  kiln : ∀ k, ∃ w, t.kiln k = { s.kiln k with pileWoken := w }
  dried : t.lotDried = s.lotDried

section
variable {s t u : State}

theorem State.worksPresses.refl (s : State) : s.worksPresses s := ⟨rfl, rfl, rfl, rfl, fun _ => ⟨_, rfl⟩, rfl⟩

theorem State.worksPresses.trans (h : s.worksPresses t) (h' : t.worksPresses u) : s.worksPresses u where
  chan := h'.chan.trans h.chan
  clock := h'.clock.trans h.clock
  agent := h'.agent.trans h.agent
  ownUp := h'.ownUp.trans h.ownUp
  kiln k := by
    obtain ⟨_, hk⟩ := h.kiln k
    obtain ⟨w, hk'⟩ := h'.kiln k
    exact ⟨w, by rw [hk', hk]⟩
  dried := h'.dried.trans h.dried

variable (s)

theorem State.worksPresses_onPress (b : PressId) (f : Press → Press) : s.worksPresses (s.onPress b f) :=
  ⟨rfl, rfl, rfl, rfl, fun _ => ⟨_, rfl⟩, rfl⟩

theorem State.worksPresses_onBale (b : PressId) (f : Bale → Bale) : s.worksPresses (s.onBale b f) :=
  s.worksPresses_onPress b _

theorem worksPresses_queueSafety (f : Frame) : s.worksPresses (queueSafety f s) := by
  refine ⟨rfl, rfl, rfl, ?_, fun _ => ⟨_, rfl⟩, rfl⟩
  unfold queueSafety State.onLine
  dsimp only
  split
  · rfl
  · split <;> rfl

theorem worksPresses_safetyCommand (role : Role) (x : UnitId) (v : Int) : s.worksPresses (safetyCommand role x v s) := by
  unfold safetyCommand
  split
  · exact worksPresses_queueSafety s _
  · exact .refl s

theorem worksPresses_queueDown (f : Frame) (i : Bool) : s.worksPresses (queueDown f i s) := by
  refine ⟨rfl, rfl, rfl, ?_, fun _ => ⟨_, rfl⟩, rfl⟩
  unfold queueDown State.onLine
  dsimp only
  split <;> rfl

theorem State.worksPresses_onLot (n : Nat) {f : Lot → Lot} (hf : ∀ l, (f l).dried = l.dried) :
    s.worksPresses (s.onLot n f) := by
  have hdried := s.lotDried_onLot n hf
  obtain ⟨l, h⟩ := s.onLot_eq_withLots n f
  rw [h] at hdried ⊢
  exact ⟨rfl, rfl, rfl, rfl, fun _ => ⟨_, rfl⟩, hdried⟩

theorem worksPresses_settleTest (n : Nat) : s.worksPresses (settleTest n s) := by
  have hdried := lotDried_settleTest n s
  obtain ⟨g, m, h⟩ := settleTest_eq n s
  rw [h] at hdried ⊢
  exact ⟨rfl, rfl, rfl, rfl, fun _ => ⟨_, rfl⟩, hdried⟩

theorem kiln_wakePileFull (b : PressId) (k : KilnId) : (wakePileFull b s).kiln k =
    if (s.kiln k).state = .pileFull ∧ (s.kiln k).config.pile = b then { s.kiln k with pileWoken := true } else s.kiln k := by
  cases k <;> rfl

theorem worksPresses_wakePileFull (b : PressId) : s.worksPresses (wakePileFull b s) := by
  refine ⟨rfl, rfl, rfl, rfl, fun k => ?_, rfl⟩
  rw [kiln_wakePileFull]
  split <;> exact ⟨_, rfl⟩

theorem worksPresses_retireHead (b : PressId) : s.worksPresses (retireHead b s) := by
  unfold retireHead
  split
  · exact .refl s
  · rename_i c rest _
    have hwoken := (s.worksPresses_onPress b fun r => { r with entries := rest }).trans (worksPresses_wakePileFull _ b)
    have hlot := hwoken.trans (State.worksPresses_onLot _ (((s.charge c).map Charge.lot).getD 0)
      (f := fun l => { l with live := l.live - 1 }) fun _ => rfl)
    have hsettled := hlot.trans (worksPresses_settleTest _ (((s.charge c).map Charge.lot).getD 0))
    exact hsettled.trans ⟨rfl, rfl, rfl, rfl, fun _ => ⟨_, rfl⟩, rfl⟩

theorem worksPresses_retireZeros (b : PressId) (fuel : Nat) : s.worksPresses (retireZeros b fuel s) := by
  induction fuel generalizing s with
  | zero => exact .refl s
  | succ fuel ih =>
    unfold retireZeros
    split
    · exact (worksPresses_retireHead s b).trans (ih _)
    · exact .refl s

theorem worksPresses_giveRun (b : PressId) : s.worksPresses (giveRun b s) := by
  have hgiven := s.worksPresses_onPress b fun r => { r with feedRun := true, runOwed := false }
  unfold giveRun
  dsimp only
  split
  · exact hgiven
  · split
    · exact hgiven.trans (worksPresses_queueDown _ _ _)
    · exact hgiven.trans (State.worksPresses_onPress _ b _)

theorem worksPresses_giveStop (b : PressId) : s.worksPresses (giveStop b s) :=
  (s.worksPresses_onPress b _).trans (worksPresses_safetyCommand _ _ _ _)

theorem worksPresses_withdrawBale (b : PressId) (lot : Nat) : s.worksPresses (withdrawBale b lot s) := by
  have hreturned : s.worksPresses (returnReservation .bale (s.onPress b fun r =>
    { r with bale := none, state := .idle, fillDue := true })) := ⟨rfl, rfl, rfl, rfl, fun _ => ⟨_, rfl⟩, rfl⟩
  exact (hreturned.trans (State.worksPresses_onLot _ lot (f := fun l => { l with bales := l.bales - 1 }) fun _ => rfl)).trans
    (worksPresses_settleTest _ lot)

theorem worksPresses_endFill (b : PressId) (reason : FillEnd) : s.worksPresses (endFill b reason s) := by
  have hstop : s.worksPresses (if (s.press b).feedRun then giveStop b s else s) :=
    closed_ite (worksPresses_giveStop s b) (.refl s)
  unfold endFill
  split
  · exact .refl s
  · dsimp only
    generalize (if (s.press b).feedRun then giveStop b s else s) = v at hstop ⊢
    split
    · exact hstop.trans (worksPresses_withdrawBale v b _)
    · exact hstop.trans ((v.worksPresses_onBale b _).trans (State.worksPresses_onPress _ b _))

theorem worksPresses_lotEndTest (b : PressId) : s.worksPresses (lotEndTest b s) := by
  unfold lotEndTest
  split
  · exact closed_ite (worksPresses_endFill s b _) (.refl s)
  · exact .refl s

theorem worksPresses_takeAppend (b : PressId) : s.worksPresses (takeAppend b s) := by
  unfold takeAppend
  split
  · rename_i c _ _ _ _
    have happended : s.worksPresses (appendContent b c s) := s.worksPresses_onBale b _
    exact closed_ite ((happended.trans (worksPresses_giveRun _ b)).trans (State.worksPresses_onPress _ b _))
      (worksPresses_endFill s b _)
  · exact s.worksPresses_onPress b _
  · exact .refl s

theorem worksPresses_appendToPile (b : PressId) (c : Nat) : s.worksPresses (appendToPile b c s) :=
  ((s.worksPresses_onPress b _).trans (worksPresses_retireZeros _ b _)).trans (worksPresses_takeAppend _ b)

end

/-! ### A fill that ends (R115) -/

section
variable {s : State} {b : PressId} {x : Bale}

theorem State.onPress_self (s : State) (b : PressId) {f : Press → Press} (h : f (s.press b) = s.press b) :
    s.onPress b f = s := by
  rw [State.onPress_congr (g := id) h]
  cases b <;> rfl

theorem State.onPress_of_onLine (s : State) (b : PressId) (f : Press → Press) (g : Line → Line) :
    (s.onLine g).onPress b f = (s.onPress b f).onLine g := rfl

/-- R112: the feed stopped, where it runs, before the fill ends. -/
def stopFeed (b : PressId) (s : State) : State := if (s.press b).feedRun then giveStop b s else s

/-- R112: a feed stopped changes its press's run marks and the line; a Stop waits for the PileFeed of a feed that ran. -/
theorem stopFeed_eq (b : PressId) (s : State) : ∃ o g,
    stopFeed b s = (s.onPress b fun r => { r with feedRun := false, runOwed := o }).onLine g ∧
      ((s.press b).feedRun = true → ∀ st, s.bound .pileFeed (.press b) = some st → (stopFeed b s).safetyWaits st 0) := by
  unfold stopFeed
  split
  · obtain ⟨g, h⟩ := safetyCommand_eq_onLine .pileFeed (.press b) 0
      (s.onPress b fun r => { r with feedRun := false, runOwed := false })
    refine ⟨false, g, h, fun _ st hst => ?_⟩
    rw [giveStop, safetyCommand, State.onPress_bound_keep, hst]
    exact safetyWaits_queueSafety st _
  · rename_i hstopped
    refine ⟨(s.press b).runOwed, id, ?_, fun h => absurd h hstopped⟩
    have hsame := s.onPress_self b (f := fun r => { r with feedRun := false, runOwed := (s.press b).runOwed })
      (by rw [← Bool.eq_false_iff.mpr hstopped])
    exact hsame.symm

/-- R115: the press whose fill has ended with a bale, but for its owed Run. -/
def Press.endedFill (now : Nat) (reason : FillEnd) (x : Bale) (r : Press) : Press :=
  { r with
    bale := some { x with endReason := some reason }, state := .filling, feedRun := false, coastStart := some now
    coastQuiet := r.config.quiet }

/-- R115: the end of a fill whose bale has mass changes its press and the line. -/
theorem endFill_eq (hbale : (s.press b).bale = some x) (hfill : x.fill ≠ 0) (reason : FillEnd) : ∃ o g,
    endFill b reason s = (s.onPress b fun r => { r.endedFill s.now reason x with runOwed := o }).onLine g ∧
      ((s.press b).feedRun = true →
        ∀ st, s.bound .pileFeed (.press b) = some st → (endFill b reason s).safetyWaits st 0) := by
  obtain ⟨o, g, hstop, hwaits⟩ := stopFeed_eq b s
  have hend : endFill b reason s = ((stopFeed b s).onBale b fun x => { x with endReason := some reason }).onPress b fun r =>
      { r with state := .filling, coastStart := some (stopFeed b s).now, coastQuiet := r.config.quiet } := by
    simp only [endFill, hbale, if_neg hfill]
    rfl
  refine ⟨o, g, ?_, fun hrun st hst => ?_⟩
  · rw [hend, hstop, State.onBale, State.onPress_of_onLine, State.onPress_onPress, State.onPress_of_onLine,
      State.onPress_onPress]
    refine congrArg (fun v => State.onLine v g) (State.onPress_congr ?_)
    simp only [hbale]
    rfl
  · rw [hend]
    exact hwaits hrun st hst

/-- A press changed in nothing but the mark that its fill start is due. -/
def Press.onlyDue (r t : Press) : Prop := ∃ w, t = { r with fillDue := w }

theorem Press.onlyDue.refl (r : Press) : r.onlyDue r := ⟨_, rfl⟩

theorem Press.onlyDue.of_eq {r t u : Press} (h : r.onlyDue t) (hu : u = t) : r.onlyDue u := hu ▸ h

/-- R144: a store woken marks the presses that wait. -/
theorem press_returnReservation (kind : TicketKind) (s : State) (a : PressId) :
    (s.press a).onlyDue ((returnReservation kind s).press a) := by
  have hwoken : ((returnReservation kind s).press a) =
      if (s.press a).reservationWait then { s.press a with fillDue := true } else s.press a := by cases a <;> rfl
  rw [hwoken]
  split <;> exact ⟨_, rfl⟩

/-- R14: a bale withdrawn from its lot may settle it. -/
theorem withdrawBaleOfLot_eq (lot : Nat) (s : State) : ∃ g m, withdrawBaleOfLot lot s = (s.onStore g).withLots m := by
  obtain ⟨l, hl⟩ := State.onLot_eq_withLots s lot fun l => { l with bales := l.bales - 1 }
  obtain ⟨g, m, h⟩ := settleTest_eq lot (s.withLots l)
  exact ⟨g, m, by rw [withdrawBaleOfLot, hl, h]; rfl⟩

theorem press_withdrawBale (b : PressId) (lot : Nat) (s : State) (a : PressId) :
    ((s.onPress b fun r => { r with bale := none, state := .idle, fillDue := true }).press a).onlyDue
      ((withdrawBale b lot s).press a) := by
  have hreturned := press_returnReservation .bale (s.onPress b fun r =>
    { r with bale := none, state := .idle, fillDue := true }) a
  obtain ⟨g, m, h⟩ := withdrawBaleOfLot_eq lot (returnReservation .bale (s.onPress b fun r =>
    { r with bale := none, state := .idle, fillDue := true }))
  have hpress : (withdrawBale b lot s).press a = (returnReservation .bale (s.onPress b fun r =>
      { r with bale := none, state := .idle, fillDue := true })).press a := by
    rw [withdrawBale, h]
    cases a <;> rfl
  exact hreturned.of_eq hpress

theorem pool_returnReservation (kind : TicketKind) (s : State) : (returnReservation kind s).pool = s.pool := rfl

theorem pool_withdrawBale (b : PressId) (lot : Nat) (s : State) : (withdrawBale b lot s).pool = s.pool := by
  obtain ⟨g, m, h⟩ := withdrawBaleOfLot_eq lot (returnReservation .bale (s.onPress b fun r =>
    { r with bale := none, state := .idle, fillDue := true }))
  rw [withdrawBale, h, State.withLots_pool, State.onStore_pool, pool_returnReservation, State.onPress_pool]

/-- R115: what the end of a fill leaves of another press, and of every pile. -/
theorem press_endFill_other {a : PressId} (ha : a ≠ b) (reason : FillEnd) :
    (s.press a).onlyDue ((endFill b reason s).press a) := by
  obtain ⟨o, g, hstop, -⟩ := stopFeed_eq b s
  have hkept : (stopFeed b s).press a = s.press a := by
    rw [hstop, State.onLine_press_keep, State.press_onPress_other _ _ _ _ ha]
  unfold endFill
  split
  · exact .refl _
  · dsimp only
    rw [← stopFeed]
    split
    · rename_i x _ _
      have h := press_withdrawBale b x.lot (stopFeed b s) a
      rwa [State.press_onPress_other _ _ _ _ ha, hkept] at h
    · rw [State.press_onPress_other _ _ _ _ ha, State.onBale, State.press_onPress_other _ _ _ _ ha, hkept]
      exact .refl _

theorem pile_endFill (reason : FillEnd) (a : PressId) :
    ((endFill b reason s).press a).entries = (s.press a).entries ∧
      ((endFill b reason s).press a).inFlight = (s.press a).inFlight := by
  by_cases ha : a = b
  · subst ha
    obtain ⟨o, g, hstop, -⟩ := stopFeed_eq a s
    have hkept : (stopFeed a s).press a = { s.press a with feedRun := false, runOwed := o } := by
      rw [hstop, State.onLine_press_keep, State.press_onPress_same]
    unfold endFill
    split
    · exact ⟨rfl, rfl⟩
    · dsimp only
      rw [← stopFeed]
      split
      · obtain ⟨w, h⟩ := press_withdrawBale a _ (stopFeed a s) a
        rw [h, State.press_onPress_same, hkept]
        exact ⟨rfl, rfl⟩
      · rw [State.press_onPress_same, State.press_onBale_same, hkept]
        exact ⟨rfl, rfl⟩
  · obtain ⟨w, h⟩ := press_endFill_other (s := s) ha reason
    rw [h]
    exact ⟨rfl, rfl⟩

theorem pool_endFill (b : PressId) (reason : FillEnd) (s : State) : (endFill b reason s).pool = s.pool := by
  have hstop : (stopFeed b s).pool = s.pool := by
    obtain ⟨o, g, hstop, -⟩ := stopFeed_eq b s
    rw [hstop]
    rfl
  unfold endFill
  split
  · rfl
  · dsimp only
    rw [← stopFeed]
    generalize stopFeed b s = v at hstop ⊢
    split
    · exact (pool_withdrawBale b _ v).trans hstop
    · exact hstop

/-! ### The test for LotEnd (R116) -/

theorem pool_lotEndTest (b : PressId) (s : State) : (lotEndTest b s).pool = s.pool := by
  unfold lotEndTest
  split
  · exact closed_ite (P := fun t => t.pool = s.pool) (pool_endFill b _ s) rfl
  · rfl

theorem press_lotEndTest_other {a : PressId} (ha : a ≠ b) : (s.press a).onlyDue ((lotEndTest b s).press a) := by
  unfold lotEndTest
  split
  · exact closed_ite (P := fun t => (s.press a).onlyDue (t.press a)) (press_endFill_other ha _) (.refl _)
  · exact .refl _

theorem pile_lotEndTest (b a : PressId) (s : State) : ((lotEndTest b s).press a).entries = (s.press a).entries ∧
    ((lotEndTest b s).press a).inFlight = (s.press a).inFlight := by
  unfold lotEndTest
  split
  · exact closed_ite (P := fun t : State => (t.press a).entries = (s.press a).entries ∧
      (t.press a).inFlight = (s.press a).inFlight) (pile_endFill _ a) ⟨rfl, rfl⟩
  · exact ⟨rfl, rfl⟩

/-- R116: only a Starved press is tested. -/
theorem lotEndTest_of_not_starved (h : (s.press b).state ≠ .starved) : lotEndTest b s = s := by
  unfold lotEndTest
  split
  · rename_i hstarved _
    exact absurd hstarved h
  · rfl

theorem lotEndTest_of_starved (hstate : (s.press b).state = .starved) (hbale : (s.press b).bale = some x) :
    lotEndTest b s = if s.lotSpent x.lot then endFill b .lotEnd s else s := by
  simp only [lotEndTest, hstate, hbale]

/-- R114: a lot spent is Closing, and its charges are all Piled. -/
theorem lotSpent_iff (n : Nat) : s.lotSpent n = true ↔
    (s.lot n).map Lot.state = some .closing ∧ ∀ q ∈ s.pool.records, q.2.lot = n → q.2.state = .piled := by
  rw [State.lotSpent, Bool.and_eq_true, List.all_eq_true]
  refine and_congr ?_ (forall₂_congr fun q _ => ?_)
  · cases s.lot n <;> simp
  · simp [Decidable.imp_iff_not_or]

end

end Sys2Proof.Machine
end

section
namespace Sys2Proof.Machine

/-! ### Retirement from a pile (R78, R107) -/

section
variable {s : State} {b : PressId} {c : Nat} {rest : List Nat}

/-- The lots keep their bales, and each its state but a Closing lot without bales, which may settle. -/
def State.keepsOpenLots (s t : State) : Prop := ∀ n, (t.lot n).map Lot.bales = (s.lot n).map Lot.bales ∧
  ((s.lot n).map Lot.state ≠ some .closing ∨ (s.lot n).map Lot.bales ≠ some 0 →
    (t.lot n).map Lot.state = (s.lot n).map Lot.state)

/-- R15: the settlement test of a lot settles a Closing lot without bales alone. -/
theorem keepsOpenLots_settleTest (m : Nat) (s : State) : s.keepsOpenLots (settleTest m s) := by
  intro n
  cases hlot : s.lot m with
  | none =>
    have hsame : settleTest m s = s := by simp only [settleTest, hlot]
    rw [hsame]
    exact ⟨rfl, fun _ => rfl⟩
  | some l =>
    by_cases hdone : l.state = .closing ∧ l.live = 0 ∧ l.bales = 0
    · by_cases hn : m = n
      · subst hn
        obtain ⟨hsettled, -⟩ := settleTest_settles hlot hdone
        rw [hsettled, hlot]
        exact ⟨rfl, fun h => by simp [hdone] at h⟩
      · obtain ⟨g, hg⟩ := issueTicket_eq_onStore .settlement m l.grower (settlementBody l) s
        rw [settleTest_of_done hlot hdone, State.lot_onLot_other _ _ hn, hg, State.onStore_lot_keep]
        exact ⟨rfl, fun _ => rfl⟩
    · rw [settleTest_of_open hlot hdone]
      exact ⟨rfl, fun _ => rfl⟩

/-- R11: a retired entry leaves its lot's bales, and its state but for a settlement. -/
theorem keepsOpenLots_retireFromLot (m : Nat) (s : State) : s.keepsOpenLots (retireFromLot m s) := by
  intro n
  have hlive : ∀ {α : Type} (f : Lot → α), (∀ l : Lot, f { l with live := l.live - 1 } = f l) →
      ((s.onLot m fun l => { l with live := l.live - 1 }).lot n).map f = (s.lot n).map f := by
    intro α f hf
    by_cases hn : m = n
    · subst hn
      rw [State.lot_onLot_same, Option.map_map]
      exact congrArg (fun g => (s.lot m).map g) (funext hf)
    · rw [State.lot_onLot_other _ _ hn]
  have hsettled := keepsOpenLots_settleTest m (s.onLot m fun l => { l with live := l.live - 1 }) n
  rwa [hlive Lot.bales fun _ => rfl, hlive Lot.state fun _ => rfl] at hsettled

theorem retireFromLot_eq (m : Nat) (s : State) : ∃ g l, retireFromLot m s = (s.onStore g).withLots l := by
  obtain ⟨l, hl⟩ := State.onLot_eq_withLots s m fun l => { l with live := l.live - 1 }
  obtain ⟨g, l', h⟩ := settleTest_eq m (s.withLots l)
  exact ⟨g, l', by rw [retireFromLot, hl, h]; rfl⟩

/-- R78: the head of a pile retired: its press loses the entry and the pool its record; the line stays. -/
theorem retireHead_spec (h : (s.press b).entries = c :: rest) :
    (∀ a, (retireHead b s).press a = (s.onPress b fun r => { r with entries := rest }).press a) ∧
      (retireHead b s).pool.records = tableErase s.pool.records c ∧ (retireHead b s).line = s.line ∧
      s.keepsOpenLots (retireHead b s) := by
  have hretire : retireHead b s = wakeNoFloor ((retireFromLot (((s.charge c).map Charge.lot).getD 0)
      (wakePileFull b (s.onPress b fun r => { r with entries := rest }))).onPool fun p =>
        { p with records := tableErase p.records c }) := by
    simp only [retireHead, h]
  have hpress (a : PressId) : (wakePileFull b (s.onPress b fun r => { r with entries := rest })).press a =
    (s.onPress b fun r => { r with entries := rest }).press a := rfl
  have hrecords : (wakePileFull b (s.onPress b fun r => { r with entries := rest })).pool.records = s.pool.records := rfl
  have hline : (wakePileFull b (s.onPress b fun r => { r with entries := rest })).line = s.line := rfl
  have hlot (n : Nat) : (wakePileFull b (s.onPress b fun r => { r with entries := rest })).lot n = s.lot n := rfl
  generalize wakePileFull b (s.onPress b fun r => { r with entries := rest }) = v at hretire hpress hrecords hline hlot
  have hlots := keepsOpenLots_retireFromLot (((s.charge c).map Charge.lot).getD 0) v
  obtain ⟨g, l, hretired⟩ := retireFromLot_eq (((s.charge c).map Charge.lot).getD 0) v
  rw [hretired] at hretire hlots
  rw [hretire]
  refine ⟨fun a => Eq.trans (by cases a <;> rfl) (hpress a), congrArg (tableErase · c) hrecords, hline, fun n => ?_⟩
  rw [← hlot]
  exact hlots n

theorem charge_retireHead_same (h : (s.press b).entries = c :: rest) : (retireHead b s).charge c = none := by
  rw [State.charge, (retireHead_spec h).2.1, tableGet_tableErase_self]

theorem charge_retireHead_other (h : (s.press b).entries = c :: rest) {n : Nat} (hn : n ≠ c) :
    (retireHead b s).charge n = s.charge n := by
  rw [State.charge, (retireHead_spec h).2.1, tableGet_tableErase_of_ne _ hn.symm, State.charge]

theorem press_retireHead_same (h : (s.press b).entries = c :: rest) :
    (retireHead b s).press b = { s.press b with entries := rest } := by
  rw [(retireHead_spec h).1, State.press_onPress_same]

/-- R78: a retirement changes the line not at all, and of a press its pile alone. -/
theorem retireHead_keeps (b : PressId) (s : State) : (retireHead b s).line = s.line ∧
    ∀ a, ∃ es, (retireHead b s).press a = { s.press a with entries := es } := by
  cases h : (s.press b).entries with
  | nil =>
    have hsame : retireHead b s = s := by simp only [retireHead, h]
    rw [hsame]
    exact ⟨rfl, fun _ => ⟨_, rfl⟩⟩
  | cons c rest =>
    obtain ⟨hpress, -, hline, -⟩ := retireHead_spec h
    refine ⟨hline, fun a => ?_⟩
    rw [hpress]
    by_cases ha : a = b
    · subst ha
      exact ⟨rest, by rw [State.press_onPress_same]⟩
    · exact ⟨_, by rw [State.press_onPress_other _ _ _ _ ha]⟩

theorem retireZeros_keeps (b : PressId) (fuel : Nat) (s : State) : (retireZeros b fuel s).line = s.line ∧
    ∀ a, ∃ es, (retireZeros b fuel s).press a = { s.press a with entries := es } := by
  induction fuel generalizing s with
  | zero => exact ⟨rfl, fun _ => ⟨_, rfl⟩⟩
  | succ fuel ih =>
    unfold retireZeros
    split
    · obtain ⟨hline, hpress⟩ := retireHead_keeps b s
      obtain ⟨hline', hpress'⟩ := ih (retireHead b s)
      refine ⟨hline'.trans hline, fun a => ?_⟩
      obtain ⟨_, ha⟩ := hpress a
      obtain ⟨es, ha'⟩ := hpress' a
      exact ⟨es, by rw [ha', ha]⟩
    · exact ⟨rfl, fun _ => ⟨_, rfl⟩⟩

/-- R107: nothing is retired where the head of the pile has mass. -/
theorem retireZeros_of_head (h : s.headIsZero b = false) (fuel : Nat) : retireZeros b fuel s = s := by
  cases fuel with
  | zero => rfl
  | succ fuel => exact if_neg (Bool.eq_false_iff.mp h)

theorem headIsZero_of_nil (h : (s.press b).entries = []) : s.headIsZero b = false := by simp only [State.headIsZero, h]

theorem headIsZero_of_cons (h : (s.press b).entries = c :: rest) :
    s.headIsZero b = (((s.charge c).bind Charge.dried) == some 0) := by simp only [State.headIsZero, h]

/-- A pile whose head, where it has one, has mass. -/
theorem headIsZero_of_head (h : ∀ n ∈ (s.press b).entries.head?, (s.charge n).bind Charge.dried ≠ some 0) :
    s.headIsZero b = false := by
  cases hentries : (s.press b).entries with
  | nil => exact headIsZero_of_nil hentries
  | cons n more =>
    rw [headIsZero_of_cons hentries, beq_eq_false_iff_ne]
    exact h n (by rw [hentries]; rfl)

/-- R78: where the next entry has mass, the head alone is retired. -/
theorem retireEntry_of_next (h : (s.press b).entries = c :: rest)
    (hnext : ∀ n ∈ rest.head?, n ≠ c ∧ (s.charge n).bind Charge.dried ≠ some 0) :
    retireEntry b s = retireHead b s := by
  refine retireZeros_of_head (headIsZero_of_head fun n hn => ?_) _
  rw [press_retireHead_same h] at hn
  obtain ⟨hne, hdried⟩ := hnext n hn
  rwa [charge_retireHead_other h hne]

/-- R107: an entry of dried mass 0 alone in its pile is retired. -/
theorem retireZeros_of_single (h : (s.press b).entries = [c]) (hzero : (s.charge c).bind Charge.dried = some 0) (fuel : Nat) :
    retireZeros b (fuel + 1) s = retireHead b s := by
  have hhead : s.headIsZero b = true := by rw [headIsZero_of_cons h, hzero]; rfl
  rw [retireZeros, if_pos hhead]
  exact retireZeros_of_head (headIsZero_of_nil (by rw [press_retireHead_same h])) _

end

/-! ### The append of a dropped charge (R71, R106, R116) -/

section
variable {s : State} {b : PressId} {c : Nat} {rest : List Nat} {x : Bale}

/-- R71: the dropped charge appended at the tail of its pile, in the place held for it. -/
def State.pileAppend (s : State) (b : PressId) (c : Nat) : State :=
  s.onPress b fun r => { r with entries := r.entries ++ [c], inFlight := r.inFlight - 1 }

theorem press_pileAppend (s : State) (b : PressId) (c : Nat) : (s.pileAppend b c).press b =
    { s.press b with entries := (s.press b).entries ++ [c], inFlight := (s.press b).inFlight - 1 } := by
  rw [State.pileAppend, State.press_onPress_same]

theorem appendToPile_of_head (h : (s.pileAppend b c).headIsZero b = false) :
    appendToPile b c s = takeAppend b (s.pileAppend b c) := congrArg (takeAppend b) (retireZeros_of_head h _)

theorem appendToPile_of_zero (hentries : (s.press b).entries = []) (hzero : (s.charge c).bind Charge.dried = some 0) :
    appendToPile b c s = takeAppend b (retireHead b (s.pileAppend b c)) :=
  congrArg (takeAppend b) (retireZeros_of_single (s := s.pileAppend b c) (by rw [press_pileAppend, hentries]; rfl) hzero _)

/-- R111, R116: a press that is not Starved, or whose pile is empty, at most has its fill start to test. -/
theorem takeAppend_of_idle (h : (s.press b).state ≠ .starved ∨ (s.press b).entries = []) :
    takeAppend b s = s ∨ takeAppend b s = s.onPress b fun r => { r with fillDue := true } := by
  unfold takeAppend
  split
  · rename_i hstarved _ hentries
    rcases h with h | h
    · exact absurd hstarved h
    · rw [h] at hentries
      cases hentries
  · exact .inr rfl
  · exact .inl rfl

/-- R116: a Starved press resumes its fill with a charge of its bale's lot. -/
theorem takeAppend_of_sameLot (hstate : (s.press b).state = .starved) (hbale : (s.press b).bale = some x)
    (hentries : (s.press b).entries = c :: rest) (hlot : (s.charge c).map Charge.lot = some x.lot) :
    takeAppend b s = (giveRun b (appendContent b c s)).onPress b fun r => { r with state := .filling } := by
  simp only [takeAppend, hstate, hbale, hentries, if_pos hlot]

/-- R116: a charge of another lot ends the fill of a Starved press. -/
theorem takeAppend_of_otherLot (hstate : (s.press b).state = .starved) (hbale : (s.press b).bale = some x)
    (hentries : (s.press b).entries = c :: rest) (hlot : (s.charge c).map Charge.lot ≠ some x.lot) :
    takeAppend b s = endFill b .lotBreak s := by
  simp only [takeAppend, hstate, hbale, hentries, if_neg hlot]

theorem pile_onPress (b a : PressId) {f : Press → Press}
    (hf : ∀ r, (f r).entries = r.entries ∧ (f r).inFlight = r.inFlight) (u : State) :
    ((u.onPress b f).press a).entries = (u.press a).entries ∧
      ((u.onPress b f).press a).inFlight = (u.press a).inFlight := by
  by_cases ha : a = b
  · subst ha
    rw [State.press_onPress_same]
    exact hf _
  · rw [State.press_onPress_other _ _ _ _ ha]
    exact ⟨rfl, rfl⟩

theorem pile_giveRun (b a : PressId) (s : State) : ((giveRun b s).press a).entries = (s.press a).entries ∧
    ((giveRun b s).press a).inFlight = (s.press a).inFlight := by
  obtain ⟨o, g, hrun, -⟩ := giveRun_eq b s
  rw [hrun, State.onLine_press_keep]
  exact pile_onPress b a (f := fun r => { r with feedRun := true, runOwed := o }) (fun _ => ⟨rfl, rfl⟩) s

/-- R116: a press that takes an append keeps the piles. -/
theorem pile_takeAppend (b a : PressId) (s : State) : ((takeAppend b s).press a).entries = (s.press a).entries ∧
    ((takeAppend b s).press a).inFlight = (s.press a).inFlight := by
  unfold takeAppend
  split
  · rename_i x c _ _ _ _
    split
    · obtain ⟨hentries, hflight⟩ := pile_onPress b a (f := fun r => { r with state := .filling }) (fun _ => ⟨rfl, rfl⟩)
        (giveRun b (appendContent b c s))
      obtain ⟨hentries', hflight'⟩ := pile_giveRun b a (appendContent b c s)
      obtain ⟨hentries'', hflight''⟩ := pile_onPress b a (f := fun r => { r with bale := r.bale.map fun x =>
        { x with
          contents := x.contents ++ [{ charge := c, drawn := 0 }]
          estimated := x.estimated || (((s.charge c).bind Charge.source) == some .estimated) } }) (fun _ => ⟨rfl, rfl⟩) s
      exact ⟨hentries.trans (hentries'.trans hentries''), hflight.trans (hflight'.trans hflight'')⟩
    · exact pile_endFill _ a
  · exact pile_onPress b a (f := fun r => { r with fillDue := true }) (fun _ => ⟨rfl, rfl⟩) s
  · exact ⟨rfl, rfl⟩

theorem inFlight_appendToPile (b : PressId) (c : Nat) (s : State) :
    ((appendToPile b c s).press b).inFlight = (s.press b).inFlight - 1 := by
  have h := (pile_takeAppend b b (retireZeros b Config.pilePlaces (s.pileAppend b c))).2
  obtain ⟨es, hes⟩ := (retireZeros_keeps b Config.pilePlaces (s.pileAppend b c)).2 b
  rw [hes, press_pileAppend] at h
  exact h

/-- R111: an append to a press that is not Starved changes the line not at all, and of a press its pile and its mark. -/
theorem appendToPile_of_not_starved (h : (s.press b).state ≠ .starved) (c : Nat) : (appendToPile b c s).line = s.line ∧
    ∀ a, ((appendToPile b c s).press a).state = (s.press a).state := by
  obtain ⟨hline, hpress⟩ := retireZeros_keeps b Config.pilePlaces (s.pileAppend b c)
  have hstate (a : PressId) : ((retireZeros b Config.pilePlaces (s.pileAppend b c)).press a).state = (s.press a).state := by
    obtain ⟨es, hes⟩ := hpress a
    rw [hes]
    by_cases ha : a = b
    · subst ha
      rw [press_pileAppend]
    · rw [State.pileAppend, State.press_onPress_other _ _ _ _ ha]
  have hidle := takeAppend_of_idle (s := retireZeros b Config.pilePlaces (s.pileAppend b c)) (b := b)
    (.inl (by rw [hstate]; exact h))
  have happend : appendToPile b c s = takeAppend b (retireZeros b Config.pilePlaces (s.pileAppend b c)) := rfl
  rw [happend]
  rcases hidle with hsame | hdue
  · rw [hsame]
    exact ⟨hline, hstate⟩
  · rw [hdue]
    refine ⟨hline, fun a => ?_⟩
    by_cases ha : a = b
    · subst ha
      rw [State.press_onPress_same]
      exact hstate a
    · rw [State.press_onPress_other _ _ _ _ ha, hstate]

end

end Sys2Proof.Machine
end

section
namespace Sys2Proof.Machine

/-! ### A Report of the fill scale while the feed runs (R113, R114) -/

section
variable {s u : State} {b : PressId} {x : Bale} {pre : List Content} {e : Content} {c : Charge} {v : Int}

/-- R113: a booking reaches the fill mass and the last content entry. -/
theorem bookBale_eq (hcontents : x.contents = pre ++ [e]) (v : Int) : bookBale v x = { x with
    fill := x.fill + BitVec.ofInt 32 v
    contents := pre ++ [{ e with drawn := e.drawn + BitVec.ofInt 32 v }] } := by
  simp only [bookBale, hcontents, List.getLast?_concat, List.dropLast_concat, addMass]

theorem drawsFrom_eq (hcontents : x.contents = pre ++ [e]) : x.drawsFrom = some e.charge := by
  simp only [Bale.drawsFrom, hcontents, List.getLast?_concat, Option.map_some]

/-- R113: the press and the charge with an increment booked. -/
def State.bookedRun (s : State) (b : PressId) (n : Nat) (v : Int) : State :=
  (s.onBale b (bookBale v)).onCharge n (drawCharge v)

theorem fillScaleUpdate_of_running {r : Update} (hreport : r.report = true) (hnormal : r.view.cls = .normal)
    (hvalue : r.view.value = some v) (hstate : (s.press b).state = .filling) (hrun : (s.press b).feedRun = true)
    (hbale : (s.press b).bale = some x) (hend : x.endReason = none) (hcontents : x.contents = pre ++ [e]) :
    fillScaleUpdate b r s = bookRunning b e.charge v s := by
  have hbooked : bookedNormal r.view = some v := by simp [bookedNormal, hnormal, hvalue]
  have hruns : (s.press b).fillRuns = true := by simp [Press.fillRuns, hstate, hrun, hbale, hend]
  simp only [fillScaleUpdate, if_pos hreport, hbooked, hbale, Option.bind_some, drawsFrom_eq hcontents, if_pos hruns]

theorem press_bookedRun (hbale : (s.press b).bale = some x) (n : Nat) :
    (s.bookedRun b n v).press b = { s.press b with bale := some (bookBale v x) } := by
  rw [State.bookedRun, press_onCharge, State.press_onBale_same, hbale]
  rfl

theorem charge_bookedRun (n : Nat) : (s.bookedRun b n v).charge n = (s.charge n).map (drawCharge v) := by
  rw [State.bookedRun, State.charge_onCharge_same]
  rfl

theorem charge_bookedRun_other {n m : Nat} (h : m ≠ n) : (s.bookedRun b n v).charge m = s.charge m := by
  rw [State.bookedRun, State.charge_onCharge_other _ _ h.symm]
  rfl

/-- What a booking leaves of the line, the lots and the other charges. -/
theorem bookedRun_keeps (s : State) (b : PressId) (n : Nat) (v : Int) :
    s.worksPresses (s.bookedRun b n v) ∧ (s.bookedRun b n v).line = s.line ∧ (s.bookedRun b n v).lots = s.lots := by
  obtain ⟨l, h⟩ := (s.onBale b (bookBale v)).onCharge_eq_onPool n (drawCharge v)
  rw [State.bookedRun, h]
  exact ⟨⟨rfl, rfl, rfl, rfl, fun _ => ⟨_, rfl⟩, rfl⟩, rfl, rfl⟩

theorem fillReached_of_bale {y : Bale} (hbale : (u.press b).bale = some y) :
    u.fillReached b = decide ((u.press b).config.target ≤ y.fill.toNat) := by
  simp only [State.fillReached, hbale]

/-- R115: a fill that ended with its bale, at the moment of `s`. -/
def State.fillEndedAs (s t : State) (b : PressId) (y : Bale) (reason : FillEnd) : Prop :=
  (t.press b).bale = some { y with endReason := some reason } ∧ (t.press b).feedRun = false ∧
    (t.press b).state = .filling ∧ (t.press b).coastStart = some s.now ∧
    (t.press b).coastQuiet = (s.press b).config.quiet ∧
    ∀ st, s.bound .pileFeed (.press b) = some st → t.safetyWaits st 0

/-- R115: a running fill ended at a state that work at the presses has reached. -/
theorem endFill_fillEndedAs {y : Bale} (hwork : s.worksPresses u) (hconfig : (u.press b).config = (s.press b).config)
    (hbale : (u.press b).bale = some y) (hrun : (u.press b).feedRun = true) (hfill : y.fill ≠ 0) (reason : FillEnd) :
    s.fillEndedAs (endFill b reason u) b y reason := by
  obtain ⟨o, g, hend, hwaits⟩ := endFill_eq hbale hfill reason
  have hpress : (endFill b reason u).press b = { (u.press b).endedFill u.now reason y with runOwed := o } := by
    rw [hend, State.onLine_press_keep, State.press_onPress_same]
  have hnow : u.now = s.now := congrArg Clock.elapsed hwork.clock
  refine ⟨by rw [hpress]; rfl, by rw [hpress]; rfl, by rw [hpress]; rfl, ?_, ?_, fun st hst => hwaits hrun st ?_⟩
  · rw [hpress, ← hnow]; rfl
  · rw [hpress, ← hconfig]; rfl
  · rwa [State.bound_congr (congrArg Channels.stations hwork.chan)]

/-! #### The outcome at the head of the pile (R114) -/

section
variable {y : Bale} (hbale : (u.press b).bale = some y)
include hbale

theorem actOnHead_of_full (h : 4 ≤ y.contents.length) : actOnHead b u = endFill b .contentLimit u := by
  have hcase : u.headCase b y = .contentFull := if_pos h
  simp only [actOnHead, hbale, hcase]

theorem actOnHead_of_sameLot {n : Nat} {r : Charge} {more : List Nat} (h : y.contents.length < 4)
    (hentries : (u.press b).entries = n :: more) (hcharge : u.charge n = some r) (hlot : r.lot = y.lot) :
    actOnHead b u = appendContent b n u := by
  have hcase : u.headCase b y = .sameLot n := by
    simp [State.headCase, Config.contentPlaces, Nat.not_le.mpr h, hentries, hcharge, hlot]
  simp only [actOnHead, hbale, hcase]

theorem actOnHead_of_otherLot {n : Nat} {r : Charge} {more : List Nat} (h : y.contents.length < 4)
    (hentries : (u.press b).entries = n :: more) (hcharge : u.charge n = some r) (hlot : r.lot ≠ y.lot) :
    actOnHead b u = endFill b .lotBreak u := by
  have hcase : u.headCase b y = .otherLot := by
    simp [State.headCase, Config.contentPlaces, Nat.not_le.mpr h, hentries, hcharge, hlot]
  simp only [actOnHead, hbale, hcase]

theorem actOnHead_of_spent (h : y.contents.length < 4) (hentries : (u.press b).entries = [])
    (hspent : u.lotSpent y.lot = true) : actOnHead b u = endFill b .lotEnd u := by
  have hcase : u.headCase b y = .lotSpent := by
    simp [State.headCase, Config.contentPlaces, Nat.not_le.mpr h, hentries, hspent]
  simp only [actOnHead, hbale, hcase]

theorem actOnHead_of_empty (h : y.contents.length < 4) (hentries : (u.press b).entries = [])
    (hspent : u.lotSpent y.lot = false) : actOnHead b u = enterStarved b u := by
  have hcase : u.headCase b y = .empty := by
    simp [State.headCase, Config.contentPlaces, Nat.not_le.mpr h, hentries, hspent]
  simp only [actOnHead, hbale, hcase]

end

/-- R114: an entry to Starved stops the feed and latches Starved. -/
theorem enterStarved_spec (b : PressId) (u : State) :
    (enterStarved b u).press b = { u.press b with feedRun := false, runOwed := false, state := .starved } ∧
      (enterStarved b u).latchedNow (srcStarved b) ∧
      ∀ st, u.bound .pileFeed (.press b) = some st → (enterStarved b u).safetyWaits st 0 := by
  have hlatched : (enterStarved b u).latchedNow (srcStarved b) := latchedNow_latch _ _ (by cases b <;> decide)
  obtain ⟨g, hg⟩ := latch_eq_onNotice (srcStarved b) ((giveStop b u).onPress b fun r => { r with state := .starved })
  obtain ⟨l, hl⟩ := safetyCommand_eq_onLine .pileFeed (.press b) 0
    (u.onPress b fun r => { r with feedRun := false, runOwed := false })
  refine ⟨?_, hlatched, fun st hst => ?_⟩
  · rw [enterStarved, hg, State.onNotice_press_keep, State.press_onPress_same, giveStop, hl, State.onLine_press_keep,
      State.press_onPress_same]
  · have hstop : (giveStop b u).safetyWaits st 0 := by
      rw [giveStop, safetyCommand, State.onPress_bound_keep, hst]
      exact safetyWaits_queueSafety st _
    rw [enterStarved, hg]
    exact hstop

/-! #### The head retired after a booking (R78) -/

/-- A record of another key stays through a write. -/
theorem mem_tablePut_of_mem {α : Type} {t : List (Nat × α)} {n : Nat} (a : α) {q : Nat × α} (hq : q ∈ t)
    (hne : q.1 ≠ n) : q ∈ tablePut t n a := by
  induction t with
  | nil => cases hq
  | cons p t ih =>
    obtain ⟨k, w⟩ := p
    unfold tablePut
    split
    · exact List.mem_cons_of_mem _ hq
    · split
      · rename_i hk
        rcases List.mem_cons.mp hq with rfl | hq
        · exact absurd hk hne
        · exact List.mem_cons_of_mem _ hq
      · rcases List.mem_cons.mp hq with rfl | hq
        · exact List.mem_cons_self
        · exact List.mem_cons_of_mem _ (ih hq)

theorem mem_records_onCharge {n : Nat} {f : Charge → Charge} {q : Nat × Charge} (hne : q.1 ≠ n) :
    q ∈ (s.onCharge n f).pool.records ↔ q ∈ s.pool.records := by
  unfold State.onCharge
  split
  · refine ⟨fun hq => ?_, fun hq => mem_tablePut_of_mem _ hq hne⟩
    rcases mem_tablePut hq with rfl | hq
    · exact absurd rfl hne
    · exact hq
  · exact Iff.rfl

/-- The state with an increment booked and the drawn-out head retired. -/
def State.retiredRun (s : State) (b : PressId) (n : Nat) (v : Int) : State := retireHead b (s.bookedRun b n v)

section
variable {n : Nat} {rest : List Nat} (hbale : (s.press b).bale = some x) (hentries : (s.press b).entries = n :: rest)
include hbale hentries

theorem entries_bookedRun : ((s.bookedRun b n v).press b).entries = n :: rest := by
  rw [press_bookedRun hbale]
  exact hentries

theorem press_retiredRun : (s.retiredRun b n v).press b =
    { s.press b with bale := some (bookBale v x), entries := rest } := by
  rw [State.retiredRun, press_retireHead_same (entries_bookedRun hbale hentries), press_bookedRun hbale]

theorem line_retiredRun : (s.retiredRun b n v).line = s.line :=
  (retireHead_spec (entries_bookedRun hbale hentries)).2.2.1.trans (bookedRun_keeps s b n v).2.1

theorem charge_retiredRun_same : (s.retiredRun b n v).charge n = none :=
  charge_retireHead_same (entries_bookedRun hbale hentries)

theorem charge_retiredRun_other {m : Nat} (hm : m ≠ n) : (s.retiredRun b n v).charge m = s.charge m :=
  (charge_retireHead_other (entries_bookedRun hbale hentries) hm).trans (charge_bookedRun_other hm)

theorem mem_records_retiredRun {q : Nat × Charge} :
    q ∈ (s.retiredRun b n v).pool.records ↔ q ∈ s.pool.records ∧ q.1 ≠ n := by
  rw [State.retiredRun, (retireHead_spec (entries_bookedRun hbale hentries)).2.1, tableErase, List.mem_filter, bne_iff_ne,
    State.bookedRun]
  exact and_congr_left fun hne => mem_records_onCharge hne

theorem keepsOpenLots_retiredRun : s.keepsOpenLots (s.retiredRun b n v) := fun m => by
  have h := (retireHead_spec (entries_bookedRun (v := v) hbale hentries)).2.2.2 m
  have hlot : (s.bookedRun b n v).lot m = s.lot m := by rw [State.lot, (bookedRun_keeps s b n v).2.2, State.lot]
  rwa [hlot] at h

end

theorem worksPresses_retiredRun (s : State) (b : PressId) (n : Nat) (v : Int) : s.worksPresses (s.retiredRun b n v) :=
  (bookedRun_keeps s b n v).1.trans (worksPresses_retireHead _ b)

/-- R113: a booking that leaves the charge undrawn. -/
theorem bookRunning_of_undrawn {n : Nat} (h : (s.bookedRun b n v).drawnOut n = false) : bookRunning b n v s =
    if (s.bookedRun b n v).fillReached b then endFill b .full (s.bookedRun b n v) else s.bookedRun b n v :=
  if_neg (Bool.eq_false_iff.mp h)

/-- R113, R78: a booking that draws the charge out, where the entry behind it has mass. -/
theorem bookRunning_of_drawn {n : Nat} {rest : List Nat} (hbale : (s.press b).bale = some x)
    (hentries : (s.press b).entries = n :: rest) (h : (s.bookedRun b n v).drawnOut n = true)
    (hnext : ∀ m ∈ rest.head?, m ≠ n ∧ (s.charge m).bind Charge.dried ≠ some 0) : bookRunning b n v s =
      if (s.retiredRun b n v).fillReached b then endFill b .full (s.retiredRun b n v)
      else actOnHead b (s.retiredRun b n v) := by
  have hretire : retireEntry b (s.bookedRun b n v) = s.retiredRun b n v :=
    retireEntry_of_next (entries_bookedRun hbale hentries) fun m hm => by
      obtain ⟨hne, hdried⟩ := hnext m hm
      exact ⟨hne, by rwa [charge_bookedRun_other hne]⟩
  rw [← hretire]
  exact if_pos h

end


/-! #### The three cases of a booking (R113, R114) -/

section
variable {s : State} {b : PressId} {x : Bale} {n : Nat} {rest : List Nat} {v : Int}

/-- R115: the fill of a press that ran ends with its bale, where the bale has mass. -/
theorem endFill_bookedRun (hbale : (s.press b).bale = some x) (hrun : (s.press b).feedRun = true)
    (hfill : (bookBale v x).fill ≠ 0) (reason : FillEnd) :
    s.fillEndedAs (endFill b reason (s.bookedRun b n v)) b (bookBale v x) reason := by
  have hpress := press_bookedRun (v := v) hbale n
  exact endFill_fillEndedAs (bookedRun_keeps s b n v).1 (by rw [hpress]) (by rw [hpress]) (by rw [hpress]; exact hrun) hfill
    reason

theorem endFill_retiredRun (hbale : (s.press b).bale = some x) (hentries : (s.press b).entries = n :: rest)
    (hrun : (s.press b).feedRun = true) (hfill : (bookBale v x).fill ≠ 0) (reason : FillEnd) :
    s.fillEndedAs (endFill b reason (s.retiredRun b n v)) b (bookBale v x) reason := by
  have hpress := press_retiredRun (v := v) hbale hentries
  exact endFill_fillEndedAs (worksPresses_retiredRun s b n v) (by rw [hpress]) (by rw [hpress]) (by rw [hpress]; exact hrun)
    hfill reason

/-- R78: an end of the fill leaves the pile behind the retired entry, and no record of it. -/
theorem endFill_retiredRun_pile (hbale : (s.press b).bale = some x) (hentries : (s.press b).entries = n :: rest)
    (reason : FillEnd) : ((endFill b reason (s.retiredRun b n v)).press b).entries = rest ∧
      (endFill b reason (s.retiredRun b n v)).charge n = none := by
  rw [(pile_endFill reason b).1, press_retiredRun hbale hentries, State.charge, pool_endFill, ← State.charge,
    charge_retiredRun_same hbale hentries]
  exact ⟨rfl, rfl⟩

/-- R114: the lot of a bale is spent behind the retired entry where it is Closing with bales and its other charges are Piled. -/
theorem lotSpent_retiredRun (hbale : (s.press b).bale = some x) (hentries : (s.press b).entries = n :: rest) {m : Nat} {l : Lot}
    (hlot : s.lot m = some l) (hclosing : l.state = .closing) (hbales : l.bales ≠ 0)
    (hpiled : ∀ q ∈ s.pool.records, q.1 ≠ n → q.2.lot = m → q.2.state = .piled) :
    (s.retiredRun b n v).lotSpent m = true := by
  refine lotSpent_iff m |>.mpr ⟨?_, fun q hq hm => ?_⟩
  · have hkept := (keepsOpenLots_retiredRun (v := v) hbale hentries m).2
    rw [hlot] at hkept
    exact (hkept (.inr fun h => hbales (Option.some.inj h))).trans (congrArg some hclosing)
  · obtain ⟨hq, hne⟩ := (mem_records_retiredRun hbale hentries).mp hq
    exact hpiled q hq hne hm

/-- R114: the lot of a bale is not spent where it is not Closing, or where another charge of it stands on a floor. -/
theorem lotSpent_retiredRun_false (hbale : (s.press b).bale = some x) (hentries : (s.press b).entries = n :: rest) {m : Nat}
    (h : (s.lot m).map Lot.state ≠ some .closing ∨
      ∃ q ∈ s.pool.records, q.1 ≠ n ∧ q.2.lot = m ∧ q.2.state ≠ .piled ∧ s.charge q.1 = some q.2) :
    (s.retiredRun b n v).lotSpent m = false := by
  rw [Bool.eq_false_iff, Ne, lotSpent_iff]
  rintro ⟨hclosing, hpiled⟩
  rcases h with hopen | ⟨q, hq, hne, hm, hfloor, -⟩
  · have hkept := (keepsOpenLots_retiredRun (v := v) hbale hentries m).2 (.inl hopen)
    exact hopen (hkept.symm.trans hclosing)
  · exact hfloor (hpiled q ((mem_records_retiredRun hbale hentries).mpr ⟨hq, hne⟩) hm)

end

end Sys2Proof.Machine
end

section
namespace Sys2Proof.Machine

/-! #### A Report booked, by the charge's mass and the target (R113) -/

section
variable {s : State} {b : PressId} {x : Bale} {n : Nat} {rest : List Nat} {c : Charge} {v : Int}
  (hbale : (s.press b).bale = some x) (hcharge : s.charge n = some c)
include hbale hcharge

omit hbale in
theorem drawnOut_bookedRun_iff : (s.bookedRun b n v).drawnOut n = true ↔
    (c.dried.getD 0).toNat ≤ (c.drawn.getD 0 + BitVec.ofInt 32 v).toNat := by
  rw [State.drawnOut, charge_bookedRun, hcharge]
  exact decide_eq_true_iff

omit hcharge in
theorem fillReached_bookedRun : (s.bookedRun b n v).fillReached b = true ↔
    (s.press b).config.target ≤ (bookBale v x).fill.toNat := by
  have hpress := press_bookedRun (v := v) hbale n
  rw [fillReached_of_bale (y := bookBale v x) (by rw [hpress]), hpress]
  exact decide_eq_true_iff

omit hcharge in
theorem fillReached_retiredRun (hentries : (s.press b).entries = n :: rest) : (s.retiredRun b n v).fillReached b = true ↔
    (s.press b).config.target ≤ (bookBale v x).fill.toNat := by
  have hpress := press_retiredRun (v := v) hbale hentries
  rw [fillReached_of_bale (y := bookBale v x) (by rw [hpress]), hpress]
  exact decide_eq_true_iff

theorem bookRunning_undrawn_below (h : (c.drawn.getD 0 + BitVec.ofInt 32 v).toNat < (c.dried.getD 0).toNat)
    (hbelow : (bookBale v x).fill.toNat < (s.press b).config.target) : bookRunning b n v s = s.bookedRun b n v := by
  rw [bookRunning_of_undrawn, if_neg]
  · exact fun hreached => Nat.not_le.mpr hbelow ((fillReached_bookedRun hbale).mp hreached)
  · exact Bool.eq_false_iff.mpr fun hdrawn => Nat.not_le.mpr h ((drawnOut_bookedRun_iff hcharge).mp hdrawn)

theorem bookRunning_undrawn_reached (h : (c.drawn.getD 0 + BitVec.ofInt 32 v).toNat < (c.dried.getD 0).toNat)
    (hreached : (s.press b).config.target ≤ (bookBale v x).fill.toNat) :
    bookRunning b n v s = endFill b .full (s.bookedRun b n v) := by
  rw [bookRunning_of_undrawn, if_pos ((fillReached_bookedRun hbale).mpr hreached)]
  exact Bool.eq_false_iff.mpr fun hdrawn => Nat.not_le.mpr h ((drawnOut_bookedRun_iff hcharge).mp hdrawn)

section
variable (h : (c.dried.getD 0).toNat ≤ (c.drawn.getD 0 + BitVec.ofInt 32 v).toNat)
  (hentries : (s.press b).entries = n :: rest)
  (hnext : ∀ m ∈ rest.head?, m ≠ n ∧ (s.charge m).bind Charge.dried ≠ some 0)
include h hentries hnext

theorem bookRunning_drawn_reached (hreached : (s.press b).config.target ≤ (bookBale v x).fill.toNat) :
    bookRunning b n v s = endFill b .full (s.retiredRun b n v) := by
  rw [bookRunning_of_drawn hbale hentries ((drawnOut_bookedRun_iff hcharge).mpr h) hnext,
    if_pos ((fillReached_retiredRun hbale hentries).mpr hreached)]

theorem bookRunning_drawn_below (hbelow : (bookBale v x).fill.toNat < (s.press b).config.target) :
    bookRunning b n v s = actOnHead b (s.retiredRun b n v) := by
  rw [bookRunning_of_drawn hbale hentries ((drawnOut_bookedRun_iff hcharge).mpr h) hnext, if_neg]
  exact fun hreached => Nat.not_le.mpr hbelow ((fillReached_retiredRun hbale hentries).mp hreached)

end

end

/-- R114: the outcome at the head behind a retired entry leaves that pile, and no record of the entry. -/
theorem actOnHead_pile {u : State} {b : PressId} {n : Nat} (hnone : u.charge n = none) :
    ((actOnHead b u).press b).entries = (u.press b).entries ∧ (actOnHead b u).charge n = none := by
  have hended (reason : FillEnd) : ((endFill b reason u).press b).entries = (u.press b).entries ∧
      (endFill b reason u).charge n = none :=
    ⟨(pile_endFill reason b).1, by rw [State.charge, pool_endFill, ← State.charge, hnone]⟩
  unfold actOnHead
  split
  · exact ⟨rfl, hnone⟩
  · split
    · exact hended _
    · exact ⟨by rw [appendContent, State.press_onBale_same], hnone⟩
    · exact hended _
    · exact hended _
    · obtain ⟨hpress, -⟩ := enterStarved_spec b u
      obtain ⟨g, hg⟩ := latch_eq_onNotice (srcStarved b) ((giveStop b u).onPress b fun r => { r with state := .starved })
      obtain ⟨l, hl⟩ := safetyCommand_eq_onLine .pileFeed (.press b) 0
        (u.onPress b fun r => { r with feedRun := false, runOwed := false })
      refine ⟨by rw [hpress], ?_⟩
      rw [enterStarved, hg, giveStop, hl]
      exact hnone

end Sys2Proof.Machine
end

section
namespace Sys2Proof.Machine

/-! ### A drop that completes (R75, R76) -/

section
variable {s : State} {k : KilnId} {d : Drop} {r : Charge}

/-- R75: the ring turned over its emptied lower floor. -/
def Ring.dropDone (r : Ring) : Ring :=
  { (r.setSlot (r.top + 2) .empty).turn with drop := none, dropsCompleted := r.dropsCompleted + 1, gateRestore := false }

theorem Ring.slot_setSlot_same (r : Ring) (n : Fin 3) (v : Slot) : (r.setSlot n v).slot n = v := by
  unfold Ring.setSlot Ring.slot
  split
  · rfl
  · split <;> rfl

theorem Ring.setSlot_keeps (r : Ring) (n : Fin 3) (v : Slot) : (r.setSlot n v).top = r.top ∧
    (r.setSlot n v).dropsCompleted = r.dropsCompleted ∧ (r.setSlot n v).gateCloseOwed = r.gateCloseOwed := by
  unfold Ring.setSlot
  split
  · exact ⟨rfl, rfl, rfl⟩
  · split <;> exact ⟨rfl, rfl, rfl⟩

theorem Ring.top_dropDone (r : Ring) : r.dropDone.top = r.top + 2 :=
  congrArg (· + 2) (r.setSlot_keeps (r.top + 2) .empty).1

theorem Ring.upper_dropDone (r : Ring) : r.dropDone.upper = .empty := by
  have hslot : r.dropDone.upper = (r.setSlot (r.top + 2) .empty).slot r.dropDone.top := rfl
  rw [hslot, Ring.top_dropDone, Ring.slot_setSlot_same]

/-- R75, R76: the dropped charge as it stands in its pile. -/
def Charge.dropped (d : Drop) (yield : Nat) (r : Charge) : Charge :=
  { r with
    state := .piled, dried := some (driedMass d r yield).1, source := some (driedMass d r yield).2, drawn := some 0 }

/-- R75, steps 1 to 3: the drop credited and the ring turned. -/
def State.dropCredited (s : State) (k : KilnId) (d : Drop) : State := (creditDrop k d s).onRing k Ring.dropDone

theorem completeDrop_eq (h : (s.kiln k).ring.drop = some d) : completeDrop k s =
    afterDrop k (closeGate k (lotEndTest (otherPress d.pile) (appendToPile d.pile d.charge (s.dropCredited k d)))) := by
  simp only [completeDrop, h]
  rfl

/-- R75: what the credit leaves. -/
structure State.creditedAs (s v : State) (k : KilnId) (d : Drop) (r : Charge) : Prop where
  line : v.line = s.line
  press : ∀ b, v.press b = s.press b
  bound : ∀ role x, v.bound role x = s.bound role x
  now : v.now = s.now
  kiln : v.kiln k = { s.kiln k with ring := (s.kiln k).ring.dropDone }
  charge : v.charge d.charge = some (r.dropped d (s.kiln k).config.nominalYield)
  others : ∀ n, n ≠ d.charge → v.charge n = s.charge n
  dried : ∀ l, s.lot r.lot = some l → v.lotDried r.lot = some (l.dried + (driedMass d r (s.kiln k).config.nominalYield).1)

theorem dropCredited_creditedAs (hcharge : s.charge d.charge = some r) :
    s.creditedAs (s.dropCredited k d) k d r := by
  have hcredit : s.dropCredited k d = (addDried r.lot (driedMass d r (s.kiln k).config.nominalYield).1
      (s.onCharge d.charge fun q => { q with
        state := .piled, dried := some (driedMass d r (s.kiln k).config.nominalYield).1
        source := some (driedMass d r (s.kiln k).config.nominalYield).2, drawn := some 0 })).onRing k Ring.dropDone := by
    simp only [State.dropCredited, creditDrop, hcharge]
  generalize hmass : driedMass d r (s.kiln k).config.nominalYield = mass at hcredit
  have hsame := s.charge_onCharge_same d.charge fun q => { q with
    state := .piled, dried := some mass.1, source := some mass.2, drawn := some 0 }
  have hother {n : Nat} (hn : n ≠ d.charge) := s.charge_onCharge_other (fun q => { q with
    state := .piled, dried := some mass.1, source := some mass.2, drawn := some 0 }) hn.symm
  obtain ⟨q, hq⟩ := s.onCharge_eq_onPool d.charge fun q => { q with
    state := .piled, dried := some mass.1, source := some mass.2, drawn := some 0 }
  rw [hq] at hcredit hsame hother
  generalize hpool : (s.onPool fun p => { p with records := q }) = u at hcredit hsame hother
  have hlotSame := u.lot_onLot_same r.lot fun l => { l with dried := l.dried + mass.1 }
  obtain ⟨m, hm⟩ := u.onLot_eq_withLots r.lot fun l => { l with dried := l.dried + mass.1 }
  rw [addDried, hm] at hcredit
  rw [hm] at hlotSame
  rw [hcredit]
  subst hpool
  refine ⟨rfl, fun b => by cases b <;> rfl, fun _ _ => rfl, rfl, State.kiln_onRing_same _ k _, ?_, fun n hn => hother hn,
    fun l hlot => ?_⟩
  · rw [Charge.dropped, hmass]
    exact hsame.trans (by rw [hcharge]; rfl)
  · rw [hmass]
    exact (congrArg (Option.map Lot.dried) hlotSame).trans (by
      rw [State.onPool_lot_keep, hlot]
      rfl)

/-! #### The gate's Close and the state after the drop -/

theorem State.onRing_self (s : State) (k : KilnId) {f : Ring → Ring} (h : f (s.kiln k).ring = (s.kiln k).ring) :
    s.onRing k f = s := by
  have hsame : { s.kiln k with ring := f (s.kiln k).ring } = s.kiln k := by rw [h]
  exact (State.onKiln_congr (f := fun r => { r with ring := f r.ring }) (g := fun r => r) hsame).trans (s.onKiln_id k)

/-- R75, step 5: the gate's Close is queued, or owed where no place is free. -/
theorem closeGate_eq (k : KilnId) (w : State) : ∃ o m,
    closeGate k w = (w.onRing k fun r => { r with gateCloseOwed := o }).onLine (fun _ => m) ∧
      (w.bound .dropGate (.kiln k) = none → o = (w.kiln k).ring.gateCloseOwed ∧ m = w.line) ∧
      ∀ st, w.bound .dropGate (.kiln k) = some st →
        (w.line.ownDown.length < 6 → o = (w.kiln k).ring.gateCloseOwed ∧ m.ownDown = w.line.ownDown ++
          [{ frame := ownCommand st 0, safety := false, injected := false }]) ∧
        (6 ≤ w.line.ownDown.length → o = true ∧ m = w.line) := by
  have hself : (w.onRing k fun r => { r with gateCloseOwed := (w.kiln k).ring.gateCloseOwed }) = w := w.onRing_self k rfl
  unfold closeGate
  cases hst : w.bound .dropGate (.kiln k) with
  | none => exact ⟨_, w.line, hself.symm, fun _ => ⟨rfl, rfl⟩, fun st h => (Option.some_ne_none st h.symm).elim⟩
  | some st =>
    by_cases hroom : w.line.ownDown.length < 6
    · refine ⟨(w.kiln k).ring.gateCloseOwed, { w.line with ownDown := w.line.ownDown ++
        [{ frame := ownCommand st 0, safety := false, injected := false }] }, ?_,
        fun h => (Option.some_ne_none st h).elim, fun st' h => ⟨fun _ => ⟨rfl, ?_⟩, fun hfull => ?_⟩⟩
      · rw [hself]
        exact (if_pos (downFree_of_room hroom)).trans (queueDown_of_room hroom _ _)
      · rw [Option.some.inj h]
      · exact absurd hroom (Nat.not_lt.mpr hfull)
    · exact ⟨true, w.line, if_neg fun hfree => hroom (of_decide_eq_true hfree), fun h => (Option.some_ne_none st h).elim,
        fun _ _ => ⟨fun h => absurd h hroom, fun _ => ⟨rfl, rfl⟩⟩⟩

theorem onlyInjects_afterDrop (k : KilnId) (w : State) : w.onlyInjects (afterDrop k w) :=
  closed_ite (onlyInjects_enterKiln k .tripped w) (onlyInjects_enterAwaitingOrIdle k w)

theorem kiln_afterDrop (k : KilnId) (w : State) :
    (∃ o d, ((afterDrop k w).kiln k).ring = { (w.kiln k).ring with offered := o, declined := d }) ∧
      ((w.kiln k).permit.state = .tripped → ((afterDrop k w).kiln k).state = .tripped) ∧
      ((w.kiln k).permit.state ≠ .tripped →
        ((afterDrop k w).kiln k).state = .awaiting ∨ ((afterDrop k w).kiln k).state = .idle) := by
  unfold afterDrop
  split
  · rename_i htripped
    obtain ⟨x, y, z, h⟩ := kiln_enterKiln_same k .tripped w
    rw [h]
    exact ⟨⟨_, _, rfl⟩, fun _ => rfl, fun hne => absurd htripped hne⟩
  · rename_i hne
    obtain ⟨x, y, z, a, b, o, d, h⟩ := kiln_enterAwaitingOrIdle k w
    rw [h]
    refine ⟨⟨o, d, rfl⟩, fun htripped => absurd htripped hne, fun _ => ?_⟩
    dsimp only
    split
    · exact .inl rfl
    · exact .inr rfl

/-! #### The whole completion -/

/-- R75, R116: the drop credited, its pile's append taken and the other press tested. -/
def State.pileTaken (s : State) (k : KilnId) (d : Drop) : State :=
  lotEndTest (otherPress d.pile) (appendToPile d.pile d.charge (s.dropCredited k d))

theorem pileTaken_worksPresses (s : State) (k : KilnId) (d : Drop) :
    (s.dropCredited k d).worksPresses (s.pileTaken k d) :=
  (worksPresses_appendToPile _ _ _).trans (worksPresses_lotEndTest _ _)

/-- R75: what the completion leaves once the pile has taken the append: the piles and records as they stand then, the ring
turned over, and the gate's Close queued or owed. -/
structure State.dropEnds (s w t : State) (k : KilnId) (owed : Bool) (down : List OwnDown) : Prop where
  press : ∀ b, t.press b = w.press b
  pool : t.pool = w.pool
  lots : t.lots = w.lots
  ring : ∃ o d, (t.kiln k).ring = { (s.kiln k).ring.dropDone with gateCloseOwed := owed, offered := o, declined := d }
  tripped : (s.kiln k).permit.state = .tripped → (t.kiln k).state = .tripped
  rests : (s.kiln k).permit.state ≠ .tripped → (t.kiln k).state = .awaiting ∨ (t.kiln k).state = .idle
  injects : gainsInjections down t.line.ownDown
  unbound : s.bound .dropGate (.kiln k) = none → owed = (s.kiln k).ring.gateCloseOwed ∧ down = w.line.ownDown
  queued : ∀ st, s.bound .dropGate (.kiln k) = some st → w.line.ownDown.length < 6 →
    owed = (s.kiln k).ring.gateCloseOwed ∧
      down = w.line.ownDown ++ [{ frame := ownCommand st 0, safety := false, injected := false }]
  full : ∀ st, s.bound .dropGate (.kiln k) = some st → 6 ≤ w.line.ownDown.length → owed = true ∧ down = w.line.ownDown

theorem completeDrop_dropEnds (hdrop : (s.kiln k).ring.drop = some d) (hcharge : s.charge d.charge = some r) :
    ∃ owed down, s.dropEnds (s.pileTaken k d) (completeDrop k s) k owed down := by
  have hcredit := dropCredited_creditedAs (k := k) hcharge
  have hwork := pileTaken_worksPresses s k d
  obtain ⟨_, hkiln⟩ := hwork.kiln k
  rw [hcredit.kiln] at hkiln
  have hbound (role : Role) (x : UnitId) : (s.pileTaken k d).bound role x = s.bound role x :=
    (State.bound_congr (congrArg Channels.stations hwork.chan) role x).trans (hcredit.bound role x)
  have hcomplete : completeDrop k s = afterDrop k (closeGate k (s.pileTaken k d)) := completeDrop_eq hdrop
  rw [hcomplete]
  generalize s.pileTaken k d = w at hkiln hbound ⊢
  obtain ⟨owed, m, hgate, hunbound, hbind⟩ := closeGate_eq k w
  have hafter := onlyInjects_afterDrop k (closeGate k w)
  obtain ⟨⟨o, x, hring⟩, htripped, hrests⟩ := kiln_afterDrop k (closeGate k w)
  have hgateKiln : (closeGate k w).kiln k = { w.kiln k with ring := { (w.kiln k).ring with gateCloseOwed := owed } } := by
    rw [hgate, State.onLine_kiln_keep, State.kiln_onRing_same]
  have hkept : (w.kiln k).ring.gateCloseOwed = (s.kiln k).ring.gateCloseOwed := by
    rw [hkiln]
    exact ((s.kiln k).ring.setSlot_keeps _ _).2.2
  rw [hgateKiln, hkiln] at hring htripped hrests
  rw [hbound, hkept] at hunbound
  simp only [hbound, hkept] at hbind
  refine ⟨owed, m.ownDown, fun b => ?_, hafter.pool.trans (by rw [hgate]; rfl), hafter.lots.trans (by rw [hgate]; rfl),
    ⟨o, x, hring⟩, htripped, hrests, ?_, fun h => ?_, fun st h => (hbind st h).1, fun st h hfull => ?_⟩
  · rw [State.press_congr hafter.presses, hgate, State.onLine_press_keep, State.onRing, State.onKiln_press_keep]
  · have hline : (closeGate k w).line.ownDown = m.ownDown := by rw [hgate]; rfl
    rw [← hline]
    exact hafter.ownDown
  · obtain ⟨howed, hm⟩ := hunbound h
    exact ⟨howed, by rw [hm]⟩
  · obtain ⟨howed, hm⟩ := (hbind st h).2 hfull
    exact ⟨howed, by rw [hm]⟩

end

end Sys2Proof.Machine
end

section
namespace Sys2Proof.Machine

section
variable {s t : State} {k : KilnId} {d : Drop} {r : Charge} {l : Lot}

theorem driedMass_eq (d : Drop) (r : Charge) (yield : Nat) : driedMass d r yield =
    (if d.measured then r.dried.getD 0 else BitVec.ofNat 32 (r.green.toNat * yield / 1000),
      if d.measured then .measured else .estimated) := by
  unfold driedMass
  split <;> rfl

/-- R75, R76: what a completed drop leaves, its charge dried to `mass`. -/
def State.dropCompleted (s t : State) (k : KilnId) (d : Drop) (r : Charge) (l : Lot) (mass : Word)
    (interrupted : Bool) : Prop :=
  (t.kiln k).ring.drop = none ∧
    (t.kiln k).ring.top = (s.kiln k).ring.top + 2 ∧ (t.kiln k).ring.upper = .empty ∧
    (t.kiln k).ring.dropsCompleted = (s.kiln k).ring.dropsCompleted + 1 ∧
    (t.lot r.lot).map Lot.dried = some (l.dried + mass) ∧
    (t.press d.pile).inFlight = (s.press d.pile).inFlight - 1 ∧
    ((s.kiln k).permit.state = .tripped → (t.kiln k).state = .tripped) ∧
    ((s.kiln k).permit.state ≠ .tripped → (t.kiln k).state = .awaiting ∨ (t.kiln k).state = .idle) ∧
    ((s.press d.pile).state ≠ .starved →
      (∀ h ∈ (s.press d.pile).entries.head?, h ≠ d.charge ∧ (s.charge h).bind Charge.dried ≠ some 0) →
      ((s.press d.pile).entries = [] → mass ≠ 0) →
      (t.press d.pile).entries = (s.press d.pile).entries ++ [d.charge] ∧ t.charge d.charge = some { r with
        state := .piled, dried := some mass, drawn := some 0, interrupted := interrupted,
        source := some (if d.measured then .measured else .estimated) }) ∧
    ((s.press d.pile).entries = [] → mass = 0 → (t.press d.pile).entries = [] ∧ t.charge d.charge = none) ∧
    (∀ st, s.bound .dropGate (.kiln k) = some st →
      (∃ e ∈ t.line.ownDown, e.frame = ownCommand st 0) ∨ (t.kiln k).ring.gateCloseOwed = true) ∧
    ((∀ b, (s.press b).state ≠ .starved) →
      (∀ st, s.bound .dropGate (.kiln k) = some st →
        (s.line.ownDown.length < 6 → (t.kiln k).ring.gateCloseOwed = (s.kiln k).ring.gateCloseOwed ∧
          ∃ rest, t.line.ownDown = s.line.ownDown ++
            { frame := ownCommand st 0, safety := false, injected := false } :: rest ∧ ∀ e ∈ rest, e.injected = true) ∧
        (6 ≤ s.line.ownDown.length → (t.kiln k).ring.gateCloseOwed = true ∧ t.line.ownDown = s.line.ownDown)) ∧
      (s.bound .dropGate (.kiln k) = none →
        ∃ rest, t.line.ownDown = s.line.ownDown ++ rest ∧ ∀ e ∈ rest, e.injected = true))

/-- R75, R76: the mass a drop dries its charge to. -/
def State.dropMass (s : State) (k : KilnId) (d : Drop) (r : Charge) : Word :=
  if d.measured then r.dried.getD 0 else BitVec.ofNat 32 (r.green.toNat * (s.kiln k).config.nominalYield / 1000)

theorem dropMass_eq : (driedMass d r (s.kiln k).config.nominalYield).1 = s.dropMass k d r := by rw [driedMass_eq]; rfl

theorem otherPress_ne (b : PressId) : b ≠ otherPress b := by cases b <;> decide

/-! #### The pile that takes the append -/

section
variable {v : State} (hcredit : s.creditedAs v k d r)
include hcredit

/-- R107: the head of the pile with the append has mass where the old head has, or the dropped charge, alone in it. -/
theorem headIsZero_pileAppend
    (hhead : ∀ h ∈ (s.press d.pile).entries.head?, h ≠ d.charge ∧ (s.charge h).bind Charge.dried ≠ some 0)
    (hmass : (s.press d.pile).entries = [] → s.dropMass k d r ≠ 0) :
    (v.pileAppend d.pile d.charge).headIsZero d.pile = false := by
  refine headIsZero_of_head fun n hn => ?_
  have hcharge (m : Nat) : (v.pileAppend d.pile d.charge).charge m = v.charge m := rfl
  rw [press_pileAppend, hcredit.press] at hn
  rw [hcharge]
  cases hentries : (s.press d.pile).entries with
  | nil =>
    rw [hentries] at hn
    obtain rfl : d.charge = n := Option.some.inj hn
    rw [hcredit.charge]
    exact fun h => hmass hentries (dropMass_eq.symm.trans (Option.some.inj h))
  | cons m more =>
    rw [hentries] at hn
    obtain rfl : m = n := Option.some.inj hn
    obtain ⟨hne, hdried⟩ := hhead m (by rw [hentries]; rfl)
    rwa [hcredit.others m hne]

/-- R71, R106: the append to a press that does not wait for it. -/
theorem appendToPile_kept (hstate : (s.press d.pile).state ≠ .starved)
    (hzero : (v.pileAppend d.pile d.charge).headIsZero d.pile = false) :
    ((appendToPile d.pile d.charge v).press d.pile).entries = (s.press d.pile).entries ++ [d.charge] ∧
      (appendToPile d.pile d.charge v).charge d.charge = v.charge d.charge := by
  have hpress := press_pileAppend v d.pile d.charge
  rw [hcredit.press] at hpress
  rw [appendToPile_of_head hzero]
  have hidle := takeAppend_of_idle (s := v.pileAppend d.pile d.charge) (b := d.pile) (.inl (by rw [hpress]; exact hstate))
  refine ⟨(pile_takeAppend d.pile d.pile _).1.trans (by rw [hpress]), ?_⟩
  rcases hidle with hsame | hdue
  · rw [hsame]; rfl
  · rw [hdue]; rfl

/-- R107: a charge dried to nothing, alone in its pile, is retired at once. -/
theorem appendToPile_retired (hentries : (s.press d.pile).entries = []) (hmass : s.dropMass k d r = 0) :
    ((appendToPile d.pile d.charge v).press d.pile).entries = [] ∧
      (appendToPile d.pile d.charge v).charge d.charge = none := by
  have hventries : (v.press d.pile).entries = [] := by rw [hcredit.press, hentries]
  have hzero : (v.charge d.charge).bind Charge.dried = some 0 := by
    rw [hcredit.charge, ← hmass, ← dropMass_eq]
    rfl
  have happended : ((v.pileAppend d.pile d.charge).press d.pile).entries = [d.charge] := by
    rw [press_pileAppend, hventries]
    rfl
  have hretired : ((retireHead d.pile (v.pileAppend d.pile d.charge)).press d.pile).entries = [] := by
    rw [press_retireHead_same happended]
  rw [appendToPile_of_zero hventries hzero]
  refine ⟨(pile_takeAppend d.pile d.pile _).1.trans hretired, ?_⟩
  rcases takeAppend_of_idle (.inr hretired) with hsame | hdue
  · rw [hsame]
    exact charge_retireHead_same happended
  · rw [hdue]
    exact charge_retireHead_same happended

end

/-- The test of the other press leaves the pile and the records. -/
theorem pileTaken_pile (s : State) (k : KilnId) (d : Drop) :
    ((s.pileTaken k d).press d.pile).entries = ((appendToPile d.pile d.charge (s.dropCredited k d)).press d.pile).entries ∧
      ((s.pileTaken k d).press d.pile).inFlight =
        ((appendToPile d.pile d.charge (s.dropCredited k d)).press d.pile).inFlight ∧
      ∀ n, (s.pileTaken k d).charge n = (appendToPile d.pile d.charge (s.dropCredited k d)).charge n := by
  obtain ⟨hentries, hflight⟩ :=
    pile_lotEndTest (otherPress d.pile) d.pile (appendToPile d.pile d.charge (s.dropCredited k d))
  exact ⟨hentries, hflight, fun n => by rw [State.charge, State.pileTaken, pool_lotEndTest, ← State.charge]⟩

/-- R116: with no Starved press the append changes the line not at all. -/
theorem line_pileTaken (hcredit : s.creditedAs (s.dropCredited k d) k d r) (h : ∀ b, (s.press b).state ≠ .starved) :
    (s.pileTaken k d).line = s.line := by
  obtain ⟨hline, hstate⟩ := appendToPile_of_not_starved (s := s.dropCredited k d) (b := d.pile)
    (by rw [hcredit.press]; exact h _) d.charge
  rw [State.pileTaken, lotEndTest_of_not_starved (by rw [hstate, hcredit.press]; exact h _), hline, hcredit.line]

/-- R75: a drop completed, in every clause. -/
theorem completeDrop_completed (hdrop : (s.kiln k).ring.drop = some d) (hcharge : s.charge d.charge = some r)
    (hlot : s.lot r.lot = some l) :
    s.dropCompleted (completeDrop k s) k d r l (s.dropMass k d r) r.interrupted := by
  have hcredit := dropCredited_creditedAs (k := k) hcharge
  obtain ⟨owed, down, hends⟩ := completeDrop_dropEnds hdrop hcharge
  obtain ⟨o, x, hring⟩ := hends.ring
  obtain ⟨hentries, hflight, hrecord⟩ := pileTaken_pile s k d
  have hcharges (n : Nat) : (completeDrop k s).charge n = (appendToPile d.pile d.charge (s.dropCredited k d)).charge n := by
    rw [State.charge, hends.pool, ← State.charge, hrecord]
  have hdried : (completeDrop k s).lotDried r.lot = some (l.dried + s.dropMass k d r) := by
    rw [State.lotDried, State.lot, hends.lots, ← State.lot, ← State.lotDried, (pileTaken_worksPresses s k d).dried,
      hcredit.dried l hlot, dropMass_eq]
  obtain ⟨more, hmore, hinjected, hfull⟩ := hends.injects
  refine ⟨by rw [hring]; rfl, by rw [hring]; exact Ring.top_dropDone _, by rw [hring]; exact Ring.upper_dropDone _,
    by rw [hring]; rfl, hdried, ?flight, hends.tripped, hends.rests,
    fun hstate hhead hmass => ?kept, fun hnil hmass => ?retired, fun st hst => ?gate, fun hnone => ⟨fun st hst => ?_, ?_⟩⟩
  case flight => rw [hends.press, hflight, inFlight_appendToPile, hcredit.press]
  case kept =>
    obtain ⟨htail, hkept⟩ := appendToPile_kept hcredit hstate (headIsZero_pileAppend hcredit hhead hmass)
    refine ⟨by rw [hends.press, hentries, htail], ?_⟩
    rw [hcharges, hkept, hcredit.charge, Charge.dropped, dropMass_eq, driedMass_eq]
  case retired =>
    obtain ⟨hempty, hgone⟩ := appendToPile_retired hcredit hnil hmass
    exact ⟨by rw [hends.press, hentries, hempty], (hcharges _).trans hgone⟩
  case gate =>
    rcases Nat.lt_or_ge (s.pileTaken k d).line.ownDown.length 6 with hroom | hfull
    · obtain ⟨-, hdown⟩ := hends.queued st hst hroom
      exact .inl ⟨{ frame := ownCommand st 0, safety := false, injected := false }, by rw [hmore, hdown]; simp, rfl⟩
    · exact .inr (by rw [hring]; exact (hends.full st hst hfull).1)
  · have hline := line_pileTaken hcredit hnone
    refine ⟨fun hroom => ?_, fun hlength => ?_⟩
    · obtain ⟨howed, hdown⟩ := hends.queued st hst (hline ▸ hroom)
      refine ⟨by rw [hring]; exact howed, more, ?_, hinjected⟩
      rw [hmore, hdown, hline, List.append_assoc, List.singleton_append]
    · obtain ⟨howed, hdown⟩ := hends.full st hst (hline ▸ hlength)
      refine ⟨by rw [hring]; exact howed, ?_⟩
      rw [hmore, hdown, hline, hfull (by rw [hdown, hline]; exact hlength), List.append_nil]
  · intro hst
    obtain ⟨-, hdown⟩ := hends.unbound hst
    exact ⟨more, by rw [hmore, hdown, line_pileTaken hcredit hnone], hinjected⟩

/-! #### The drop's timeout (R74) -/

/-- R74: the drop's charge flagged and the timeout latched. -/
def State.dropTimedOut (s : State) (k : KilnId) : State := latch (srcDropTimeout k) (interruptDrop k s)

/-- R74: the timeout leaves the kilns, the presses, the line and every other charge, and flags the dropping one. -/
theorem dropTimedOut_keeps (hdrop : (s.kiln k).ring.drop = some d) :
    ∃ p g, s.dropTimedOut k = (s.onPool fun q => { q with records := p }).onNotice g ∧
      (s.dropTimedOut k).charge d.charge = (s.charge d.charge).map (fun r => { r with interrupted := true }) ∧
      ∀ n, n ≠ d.charge → (s.dropTimedOut k).charge n = s.charge n := by
  have hinterrupt : interruptDrop k s = s.onCharge d.charge fun r => { r with interrupted := true } := by
    simp only [interruptDrop, hdrop]
  obtain ⟨g, hg⟩ := latch_eq_onNotice (srcDropTimeout k) (interruptDrop k s)
  have htimed : s.dropTimedOut k = (s.onCharge d.charge fun r => { r with interrupted := true }).onNotice g := by
    rw [State.dropTimedOut, hg, hinterrupt]
  obtain ⟨p, hp⟩ := s.onCharge_eq_onPool d.charge fun r => { r with interrupted := true }
  refine ⟨p, g, by rw [htimed, hp], ?_, fun n hn => ?_⟩
  · rw [htimed, State.onNotice_charge_keep, State.charge_onCharge_same]
  · rw [htimed, State.onNotice_charge_keep, State.charge_onCharge_other _ _ hn.symm]

theorem exec_dropTimeout_of_early (hdrop : (s.kiln k).ring.drop = some d) (h : s.now < d.start + d.timeout) :
    exec (.dropTimeout k) s = .next s := by
  show execDropTimeout k s = _
  simp only [execDropTimeout, hdrop, if_neg (Nat.not_le.mpr h)]

theorem exec_dropTimeout_of_passed (hdrop : (s.kiln k).ring.drop = some d) (h : d.start + d.timeout ≤ s.now) :
    exec (.dropTimeout k) s = .next (completeDrop k (s.dropTimedOut k)) := by
  show execDropTimeout k s = _
  simp only [execDropTimeout, hdrop, if_pos h]
  rfl

/-- R74: a drop completed at its timeout is completed with its charge flagged. -/
theorem dropTimedOut_completed (hdrop : (s.kiln k).ring.drop = some d) (hcharge : s.charge d.charge = some r)
    (hlot : s.lot r.lot = some l) :
    s.dropCompleted (completeDrop k (s.dropTimedOut k)) k d r l (s.dropMass k d r) true := by
  obtain ⟨p, g, htimed, hflagged, hothers⟩ := dropTimedOut_keeps hdrop
  have hkiln : (s.dropTimedOut k).kiln k = s.kiln k := by rw [htimed]; rfl
  have hpress (b : PressId) : (s.dropTimedOut k).press b = s.press b := by rw [htimed]; rfl
  have hline : (s.dropTimedOut k).line = s.line := by rw [htimed]; rfl
  have hbound (role : Role) (x : UnitId) : (s.dropTimedOut k).bound role x = s.bound role x := by rw [htimed]; rfl
  have hlots (n : Nat) : (s.dropTimedOut k).lot n = s.lot n := by rw [htimed]; rfl
  have hdone := completeDrop_completed (s := s.dropTimedOut k) (k := k) (d := d) (r := { r with interrupted := true }) (l := l)
    (by rw [hkiln]; exact hdrop) (by rw [hflagged, hcharge]; rfl) (by rw [hlots]; exact hlot)
  have hmass : (s.dropTimedOut k).dropMass k d { r with interrupted := true } = s.dropMass k d r := by
    rw [State.dropMass, hkiln]
    rfl
  rw [hmass] at hdone
  simp only [State.dropCompleted, hkiln, hpress, hline, hbound] at hdone
  obtain ⟨hnone, htop, hupper, hcount, hdried, hflight, htripped, hrests, hkept, hretired, hgate, hqueue⟩ := hdone
  refine ⟨hnone, htop, hupper, hcount, hdried, hflight, htripped, hrests, fun hstate hhead => hkept hstate fun h hh => ?_,
    hretired, hgate, hqueue⟩
  obtain ⟨hne, hmass⟩ := hhead h hh
  exact ⟨hne, by rwa [hothers h hne]⟩

end

end Sys2Proof.Machine
end

section
namespace Sys2Proof.Machine

section
variable {s : State} {k : KilnId} {d : Drop} {r : Charge} {l : Lot}

/-! #### The drop's gate and scale (R72, R73) -/

theorem dropTimedOut_latchedNow (s : State) (k : KilnId) :
    (completeDrop k (s.dropTimedOut k)).latchedNow (srcDropTimeout k) :=
  completeDrop_closed (latchedNow_closed _) k (latchedNow_latch _ _ (by cases k <;> decide))

/-- R73: the drop marked measured. -/
theorem onRing_measured (t : State) (hdrop : (t.kiln k).ring.drop = some d) :
    (t.onRing k fun x => { x with drop := x.drop.map fun d => { d with measured := true } }) =
      t.onRing k fun x => { x with drop := some { d with measured := true } } :=
  State.onKiln_congr
    (f := fun x => { x with ring := { x.ring with drop := x.ring.drop.map fun d => { d with measured := true } } })
    (g := fun x => { x with ring := { x.ring with drop := some { d with measured := true } } })
    (by rw [hdrop]; rfl)

theorem dropScaleUpdate_of_normal (hdrop : (s.kiln k).ring.drop = some d) (hcharge : s.charge d.charge = some r)
    {u : Update} {v : Int} (hreport : u.report = true) (hnormal : u.view.cls = .normal) (hvalue : u.view.value = some v) :
    dropScaleUpdate k u s =
      (s.onCharge d.charge fun _ => { r with dried := some (r.dried.getD 0 + BitVec.ofInt 32 v) }).onRing k fun x =>
        { x with drop := some { d with measured := true } } := by
  have hbooked : bookedNormal u.view = some v := by rw [bookedNormal, hnormal]; exact hvalue
  have hgood : u.view.isGood = true := (View.isGood_iff _).mpr (.inl hnormal)
  have hrecord : (s.onCharge d.charge fun r => { r with dried := some (addMass (r.dried.getD 0) v) }) =
      s.onCharge d.charge fun _ => { r with dried := some (r.dried.getD 0 + BitVec.ofInt 32 v) } := by
    simp only [State.onCharge, hcharge, addMass]
  simp only [dropScaleUpdate, hdrop, hbooked, hrecord]
  exact (if_pos ⟨hreport, hgood⟩).trans (onRing_measured _ (by rw [kiln_onCharge]; exact hdrop))

theorem dropScaleUpdate_of_zero (hdrop : (s.kiln k).ring.drop = some d) {u : Update} (hreport : u.report = true)
    (hzero : u.view.cls = .zero) :
    dropScaleUpdate k u s = s.onRing k fun x => { x with drop := some { d with measured := true } } := by
  have hbooked : bookedNormal u.view = none := by rw [bookedNormal, hzero]; rfl
  have hgood : u.view.isGood = true := (View.isGood_iff _).mpr (.inr hzero)
  simp only [dropScaleUpdate, hdrop, hbooked]
  exact (if_pos ⟨hreport, hgood⟩).trans (onRing_measured s hdrop)

theorem dropScaleUpdate_of_bad (hdrop : (s.kiln k).ring.drop = some d) {u : Update}
    (h : u.report = false ∨ (u.view.cls ≠ .normal ∧ u.view.cls ≠ .zero)) : dropScaleUpdate k u s = s := by
  simp only [dropScaleUpdate, hdrop]
  refine if_neg fun ⟨hreport, hgood⟩ => ?_
  rcases h with hfalse | ⟨hnormal, hzero⟩
  · rw [hfalse] at hreport
    exact Bool.false_ne_true hreport
  · exact ((View.isGood_iff _).mp hgood).elim hnormal hzero

end

/-- Settles O46: the timeout and the gate's Clear both end in `completeDrop`, read component by component. -/
theorem dropTimeoutCompletes : Obligations.DropTimeoutCompletes := by
  unfold Obligations.DropTimeoutCompletes
  intro s k d r l hdrop hcharge hlot mass completed
  refine ⟨exec_dropTimeout_of_early hdrop, fun hpassed => ⟨_, exec_dropTimeout_of_passed hdrop hpassed,
    dropTimedOut_latchedNow s k, dropTimedOut_completed hdrop hcharge hlot⟩, fun u => ?_⟩
  refine ⟨fun ⟨hreport, hcls, hfresh, hvalue⟩ => ?clear, fun hclear => ?notClear,
    fun v => dropScaleUpdate_of_normal hdrop hcharge, dropScaleUpdate_of_zero hdrop, dropScaleUpdate_of_bad hdrop⟩
  case clear =>
    have hgate : dropGateUpdate k u s = completeDrop k s := if_pos ⟨hreport, hfresh, hcls, hvalue⟩
    have hdone := completeDrop_completed hdrop hcharge hlot
    rw [← hgate] at hdone
    exact hdone
  case notClear =>
    exact if_neg fun ⟨hreport, hfresh, hcls, hvalue⟩ => hclear ⟨hreport, hcls, hfresh, hvalue⟩

end Sys2Proof.Machine
end

section
namespace Sys2Proof.Machine

/-! ### A queued order where another fill ends (R112, R161) -/

section
variable {s : State} {a b : PressId} {st : Nat} {e : OwnDown}

/-- R161, step 1: a safety frame withdraws the ordinary Commands to its own address alone. -/
theorem mem_ownDown_queueSafety {f : Frame} (he : e ∈ s.line.ownDown) (hsafe : e.safety = false)
    (haddress : sameAddress f e = false) : e ∈ (queueSafety f s).line.ownDown := by
  have hkept : e ∈ s.line.ownDown.filter fun e => e.safety || !sameAddress f e :=
    List.mem_filter.mpr ⟨he, by rw [haddress, Bool.not_false, Bool.or_true]⟩
  have htaken : takeValue f e = e := by simp [takeValue, hsafe]
  unfold queueSafety State.onLine
  dsimp only
  split
  · exact List.mem_map.mpr ⟨e, hkept, htaken⟩
  · split
    · exact List.mem_append_left _ hkept
    · exact hkept

/-- R112: the Stop of one press leaves the orders to the PileFeed of the other. -/
theorem mem_ownDown_stopFeed (hapart : s.bindsApart) (ha : a ≠ b) (hst : s.bound .pileFeed (.press b) = some st)
    (he : e ∈ s.line.ownDown) (hsafe : e.safety = false) (hdest : e.frame.dest = st) :
    e ∈ (stopFeed a s).line.ownDown := by
  unfold stopFeed
  split
  · rw [giveStop, safetyCommand, State.onPress_bound_keep]
    cases hother : s.bound .pileFeed (.press a) with
    | none => exact he
    | some st' =>
      have hne : st ≠ st' := by
        rintro rfl
        exact ha (UnitId.press.inj (hapart _ _ _ _ _ hother hst).2)
      refine mem_ownDown_queueSafety he hsafe ?_
      simp [sameAddress, ownCommand, hdest, hne]
  · exact he

theorem line_returnReservation (kind : TicketKind) (s : State) : (returnReservation kind s).line = s.line := rfl

theorem line_withdrawBale (b : PressId) (lot : Nat) (s : State) : (withdrawBale b lot s).line = s.line := by
  obtain ⟨g, m, h⟩ := withdrawBaleOfLot_eq lot (returnReservation .bale (s.onPress b fun r =>
    { r with bale := none, state := .idle, fillDue := true }))
  rw [withdrawBale, h, State.withLots_line, State.onStore_line, line_returnReservation, State.onPress_line]

/-- R115: the end of a fill changes the line by its Stop alone. -/
theorem line_endFill (b : PressId) (reason : FillEnd) (s : State) :
    (endFill b reason s).line = s.line ∨ (endFill b reason s).line = (stopFeed b s).line := by
  unfold endFill
  split
  · exact .inl rfl
  · dsimp only
    rw [← stopFeed]
    split
    · exact .inr (line_withdrawBale b _ _)
    · exact .inr rfl

theorem mem_ownDown_lotEndTest (hapart : s.bindsApart) (ha : a ≠ b) (hst : s.bound .pileFeed (.press b) = some st)
    (he : e ∈ s.line.ownDown) (hsafe : e.safety = false) (hdest : e.frame.dest = st) :
    e ∈ (lotEndTest a s).line.ownDown := by
  have hended : e ∈ (endFill a .lotEnd s).line.ownDown := by
    rcases line_endFill a .lotEnd s with h | h
    · rw [h]
      exact he
    · rw [h]
      exact mem_ownDown_stopFeed hapart ha hst he hsafe hdest
  unfold lotEndTest
  split
  · exact closed_ite (P := fun t => e ∈ t.line.ownDown) hended he
  · exact he

end

/-! ### A Starved press that takes the dropped charge (R116) -/

section
variable {s : State} {k : KilnId} {d : Drop} {r : Charge} {x : Bale}

/-- R116: what the completed drop leaves of the Starved press its pile feeds, the charge dried to `mass`. -/
def State.starvedTakes (s t : State) (d : Drop) (r : Charge) (x : Bale) (mass : Word) : Prop :=
  (mass = 0 → (t.press d.pile).state = .starved ∧ (t.press d.pile).bale = some x ∧ (t.press d.pile).entries = [] ∧
    t.charge d.charge = none) ∧
  (mass ≠ 0 → r.lot = x.lot → (t.press d.pile).state = .filling ∧ (t.press d.pile).feedRun = true ∧
    (t.press d.pile).entries = [d.charge] ∧
    (t.press d.pile).bale = some { x with
      contents := x.contents ++ [{ charge := d.charge, drawn := 0 }], estimated := x.estimated || !d.measured } ∧
    ∀ st, s.bound .pileFeed (.press d.pile) = some st →
      (t.press d.pile).runOwed = true ∨ ∃ e ∈ t.line.ownDown, e.frame = ownCommand st 1) ∧
  (mass ≠ 0 → r.lot ≠ x.lot → (t.press d.pile).bale = some { x with endReason := some .lotBreak } ∧
    (t.press d.pile).state = .filling ∧ (t.press d.pile).coastStart = some s.now ∧
    (t.press d.pile).entries = [d.charge])

/-- R76: the append of a charge that weighed nothing leaves its press's state and bale. -/
theorem appendToPile_zero_press {v : State} {b : PressId} {c : Nat} (hentries : (v.press b).entries = [])
    (hzero : (v.charge c).bind Charge.dried = some 0) :
    ((appendToPile b c v).press b).state = (v.press b).state ∧ ((appendToPile b c v).press b).bale = (v.press b).bale := by
  have happended : ((v.pileAppend b c).press b).entries = [c] := by rw [press_pileAppend, hentries]; rfl
  have hretired := press_retireHead_same happended
  rw [appendToPile_of_zero hentries hzero]
  rcases takeAppend_of_idle (s := retireHead b (v.pileAppend b c)) (b := b) (.inr (by rw [hretired])) with h | h
  · rw [h, hretired, press_pileAppend]
    exact ⟨rfl, rfl⟩
  · rw [h, State.press_onPress_same, hretired, press_pileAppend]
    exact ⟨rfl, rfl⟩

/-- R112, R116: the press resumed with the dropped charge, its Run queued or owed. -/
theorem appendToPile_sameLot {v : State} {b : PressId} {c : Nat} {q : Charge} (hstate : (v.press b).state = .starved)
    (hbale : (v.press b).bale = some x) (hentries : (v.press b).entries = []) (hcharge : v.charge c = some q)
    (hlot : q.lot = x.lot) (hdried : q.dried ≠ some 0) :
    ((appendToPile b c v).press b).state = .filling ∧ ((appendToPile b c v).press b).feedRun = true ∧
      ((appendToPile b c v).press b).bale = some { x with
        contents := x.contents ++ [{ charge := c, drawn := 0 }], estimated := x.estimated || q.source == some .estimated } ∧
      ∀ st, v.bound .pileFeed (.press b) = some st → ((appendToPile b c v).press b).runOwed = true ∨
        { frame := ownCommand st 1, safety := false, injected := false } ∈ (appendToPile b c v).line.ownDown := by
  have hpress := press_pileAppend v b c
  have happended : ((v.pileAppend b c).press b).entries = [c] := by rw [hpress, hentries]; rfl
  have hcharge' : (v.pileAppend b c).charge c = some q := hcharge
  have hhead : (v.pileAppend b c).headIsZero b = false := by
    rw [headIsZero_of_cons happended, hcharge', beq_eq_false_iff_ne]
    exact hdried
  have happend : appendToPile b c v =
      (giveRun b (appendContent b c (v.pileAppend b c))).onPress b fun r => { r with state := .filling } :=
    (appendToPile_of_head hhead).trans (takeAppend_of_sameLot (by rw [hpress]; exact hstate) (by rw [hpress]; exact hbale)
      happended (by rw [hcharge', Option.map_some, hlot]))
  have hcontent : ((appendContent b c (v.pileAppend b c)).press b).bale = some { x with
      contents := x.contents ++ [{ charge := c, drawn := 0 }], estimated := x.estimated || q.source == some .estimated } := by
    rw [appendContent, State.press_onBale_same, hpress, hbale, hcharge']
    rfl
  obtain ⟨o, g, hrun, -, hqueued⟩ := giveRun_eq b (appendContent b c (v.pileAppend b c))
  have hline : (appendContent b c (v.pileAppend b c)).line = v.line := rfl
  have hbound : (appendContent b c (v.pileAppend b c)).bound .pileFeed (.press b) = v.bound .pileFeed (.press b) := rfl
  rw [hline, hbound] at hqueued
  rw [happend, hrun]
  generalize appendContent b c (v.pileAppend b c) = w at hcontent hline ⊢
  rw [State.press_onPress_same, State.onLine_press_keep, State.press_onPress_same]
  refine ⟨rfl, rfl, hcontent, fun st hst => ?_⟩
  obtain ⟨hroom, hfull⟩ := hqueued st hst
  rcases Nat.lt_or_ge v.line.ownDown.length 6 with hlength | hlength
  · have hdown : (g w.line).ownDown = _ := (congrArg (fun l => (g l).ownDown) hline).trans (hroom hlength).2
    exact .inr (hdown ▸ List.mem_append_right _ (List.mem_singleton_self _))
  · exact .inl (hfull hlength).1

/-- R116: a charge of another lot ends the fill. -/
theorem appendToPile_otherLot {v : State} {b : PressId} {c : Nat} {q : Charge} (hstate : (v.press b).state = .starved)
    (hbale : (v.press b).bale = some x) (hfill : x.fill ≠ 0) (hentries : (v.press b).entries = [])
    (hcharge : v.charge c = some q) (hlot : q.lot ≠ x.lot) (hdried : q.dried ≠ some 0) :
    ((appendToPile b c v).press b).bale = some { x with endReason := some .lotBreak } ∧
      ((appendToPile b c v).press b).state = .filling ∧ ((appendToPile b c v).press b).coastStart = some v.now := by
  have hpress := press_pileAppend v b c
  have happended : ((v.pileAppend b c).press b).entries = [c] := by rw [hpress, hentries]; rfl
  have hcharge' : (v.pileAppend b c).charge c = some q := hcharge
  have hhead : (v.pileAppend b c).headIsZero b = false := by
    rw [headIsZero_of_cons happended, hcharge', beq_eq_false_iff_ne]
    exact hdried
  have happend : appendToPile b c v = endFill b .lotBreak (v.pileAppend b c) :=
    (appendToPile_of_head hhead).trans (takeAppend_of_otherLot (by rw [hpress]; exact hstate) (by rw [hpress]; exact hbale)
      happended (by rw [hcharge', Option.map_some]; exact fun h => hlot (Option.some.inj h)))
  obtain ⟨o, g, hend, -⟩ := endFill_eq (s := v.pileAppend b c) (by rw [hpress]; exact hbale) hfill .lotBreak
  rw [happend, hend, State.onLine_press_keep, State.press_onPress_same]
  exact ⟨rfl, rfl, rfl⟩

section
variable (hdrop : (s.kiln k).ring.drop = some d) (hcharge : s.charge d.charge = some r)
include hdrop hcharge

/-- R75: past the append the completion leaves the press but for its mark. -/
theorem press_completeDrop : ((appendToPile d.pile d.charge (s.dropCredited k d)).press d.pile).onlyDue
    ((completeDrop k s).press d.pile) := by
  obtain ⟨owed, down, hends⟩ := completeDrop_dropEnds hdrop hcharge
  exact (press_lotEndTest_other (otherPress_ne d.pile)).of_eq (hends.press d.pile)

/-- R75: past the pile's append the completion adds to the queue. -/
theorem mem_ownDown_completeDrop {e : OwnDown} (he : e ∈ (s.pileTaken k d).line.ownDown) :
    e ∈ (completeDrop k s).line.ownDown := by
  obtain ⟨owed, down, hends⟩ := completeDrop_dropEnds hdrop hcharge
  have hdown : e ∈ down := by
    cases hst : s.bound .dropGate (.kiln k) with
    | none => rwa [(hends.unbound hst).2]
    | some st =>
      rcases Nat.lt_or_ge (s.pileTaken k d).line.ownDown.length 6 with hroom | hfull
      · rw [(hends.queued st hst hroom).2]
        exact List.mem_append_left _ he
      · rwa [(hends.full st hst hfull).2]
  obtain ⟨rest, hline, -⟩ := hends.injects
  rw [hline]
  exact List.mem_append_left _ hdown

theorem completeDrop_starvedTakes (hapart : s.bindsApart) (hstate : (s.press d.pile).state = .starved)
    (hbale : (s.press d.pile).bale = some x) (hfill : x.fill ≠ 0) (hentries : (s.press d.pile).entries = []) :
    s.starvedTakes (completeDrop k s) d r x (s.dropMass k d r) := by
  have hcredit := dropCredited_creditedAs (k := k) hcharge
  obtain ⟨owed, down, hends⟩ := completeDrop_dropEnds hdrop hcharge
  obtain ⟨hpile, -, hrecord⟩ := pileTaken_pile s k d
  have hpileEntries : ((completeDrop k s).press d.pile).entries = _ := (congrArg Press.entries (hends.press _)).trans hpile
  obtain ⟨w, hpress⟩ := press_completeDrop hdrop hcharge
  have hstate' := (congrArg Press.state (hcredit.press d.pile)).trans hstate
  have hbale' := (congrArg Press.bale (hcredit.press d.pile)).trans hbale
  have hentries' := (congrArg Press.entries (hcredit.press d.pile)).trans hentries
  have hdried : (r.dropped d (s.kiln k).config.nominalYield).dried = some (s.dropMass k d r) := congrArg some dropMass_eq
  have hmassive (hmass : s.dropMass k d r ≠ 0) : (r.dropped d (s.kiln k).config.nominalYield).dried ≠ some 0 := by
    rw [hdried]
    exact fun h => hmass (Option.some.inj h)
  have hone (hmass : s.dropMass k d r ≠ 0) : ((completeDrop k s).press d.pile).entries = [d.charge] := by
    have hhead : ((s.dropCredited k d).pileAppend d.pile d.charge).headIsZero d.pile = false :=
      headIsZero_pileAppend hcredit (by rw [hentries]; exact fun h hh => nomatch hh) fun _ => hmass
    rw [hpileEntries, appendToPile_of_head hhead, (pile_takeAppend _ _ _).1, press_pileAppend, hentries']
    rfl
  refine ⟨fun hmass => ?zero, fun hmass hlot => ?same, fun hmass hlot => ?other⟩
  case zero =>
    obtain ⟨hempty, hgone⟩ := appendToPile_retired hcredit hentries hmass
    obtain ⟨hkept, hkeptBale⟩ := appendToPile_zero_press hentries' (by rw [hcredit.charge, Option.bind_some, hdried, hmass])
    refine ⟨?_, ?_, hpileEntries.trans hempty, ?_⟩
    · rw [hpress]
      exact hkept.trans hstate'
    · rw [hpress]
      exact hkeptBale.trans hbale'
    · rw [State.charge, hends.pool, ← State.charge, hrecord, hgone]
  case same =>
    obtain ⟨hfilling, hrun, hcontent, horder⟩ := appendToPile_sameLot hstate' hbale' hentries' hcredit.charge hlot
      (hmassive hmass)
    have hestimated : ((r.dropped d (s.kiln k).config.nominalYield).source == some .estimated) = !d.measured := by
      rw [Charge.dropped, driedMass_eq]
      cases d.measured <;> rfl
    rw [hestimated] at hcontent
    refine ⟨by rw [hpress]; exact hfilling, by rw [hpress]; exact hrun, hone hmass, by rw [hpress]; exact hcontent,
      fun st hst => ?_⟩
    rcases horder st ((hcredit.bound _ _).trans hst) with howed | hqueued
    · exact .inl (by rw [hpress]; exact howed)
    · have hchan := (pileTaken_worksPresses s k d).chan
      have hbinds (role : Role) (y : UnitId) :
          (appendToPile d.pile d.charge (s.dropCredited k d)).bound role y = s.bound role y :=
        (State.bound_congr (congrArg Channels.stations (worksPresses_appendToPile _ _ _).chan) role y).trans
          (hcredit.bound role y)
      have hapart' : (appendToPile d.pile d.charge (s.dropCredited k d)).bindsApart :=
        fun role role' y y' st hy hy' =>
          hapart role role' y y' st ((hbinds role y).symm.trans hy) ((hbinds role' y').symm.trans hy')
      have htaken : _ ∈ (s.pileTaken k d).line.ownDown := mem_ownDown_lotEndTest hapart' (otherPress_ne d.pile).symm
        ((hbinds _ _).trans hst) hqueued rfl rfl
      exact .inr ⟨_, mem_ownDown_completeDrop hdrop hcharge htaken, rfl⟩
  case other =>
    obtain ⟨hended, hfilling, hcoast⟩ := appendToPile_otherLot hstate' hbale' hfill hentries' hcredit.charge hlot
      (hmassive hmass)
    refine ⟨by rw [hpress]; exact hended, by rw [hpress]; exact hfilling, ?_, hone hmass⟩
    rw [hpress]
    exact hcoast.trans (congrArg some hcredit.now)

/-- R74, R116: at the drop's timeout. -/
theorem dropTimedOut_starvedTakes (hapart : s.bindsApart) (hstate : (s.press d.pile).state = .starved)
    (hbale : (s.press d.pile).bale = some x) (hfill : x.fill ≠ 0) (hentries : (s.press d.pile).entries = []) :
    s.starvedTakes (completeDrop k (s.dropTimedOut k)) d r x (s.dropMass k d r) := by
  obtain ⟨p, g, htimed, hflagged, -⟩ := dropTimedOut_keeps hdrop
  have hkiln : (s.dropTimedOut k).kiln k = s.kiln k := by rw [htimed]; rfl
  have hpress : (s.dropTimedOut k).press d.pile = s.press d.pile := by rw [htimed]; rfl
  have hbound (role : Role) (y : UnitId) : (s.dropTimedOut k).bound role y = s.bound role y := by rw [htimed]; rfl
  have hnow : (s.dropTimedOut k).now = s.now := by rw [htimed]; rfl
  have hapart' : (s.dropTimedOut k).bindsApart := State.bindsApart_congr (by rw [htimed]; rfl) hapart
  have hdone := completeDrop_starvedTakes (s := s.dropTimedOut k) (k := k) (d := d) (r := { r with interrupted := true })
    (x := x) (by rw [hkiln]; exact hdrop) (by rw [hflagged, hcharge]; rfl) hapart' (by rw [hpress]; exact hstate)
    (by rw [hpress]; exact hbale) hfill (by rw [hpress]; exact hentries)
  have hmass : (s.dropTimedOut k).dropMass k d { r with interrupted := true } = s.dropMass k d r := by
    rw [State.dropMass, hkiln]
    rfl
  rw [hmass] at hdone
  simp only [State.starvedTakes, hbound, hnow] at hdone
  exact hdone

end

end

end Sys2Proof.Machine
end

section
namespace Sys2Proof.Machine

/-! ### Lot Close and the Starved presses (R4, R116) -/

section
variable {s : State} {n : Nat} {b : PressId} {x : Bale} {l : Lot}

theorem Press.onlyDue.trans {r t u : Press} (h : r.onlyDue t) (h' : t.onlyDue u) : r.onlyDue u := by
  obtain ⟨_, rfl⟩ := h
  obtain ⟨w, rfl⟩ := h'
  exact ⟨w, rfl⟩

theorem Press.onlyDue.bale {r t : Press} (h : r.onlyDue t) : t.bale = r.bale := by
  obtain ⟨_, rfl⟩ := h
  rfl

theorem Press.onlyDue.state {r t : Press} (h : r.onlyDue t) : t.state = r.state := by
  obtain ⟨_, rfl⟩ := h
  rfl

theorem press_reply (s : State) (f : Frame) (a : Answer) (b : PressId) : (s.reply f a).press b = s.press b := by
  cases b <;> rfl

theorem press_closingLot (s : State) (n : Nat) (b : PressId) : (s.closingLot n).press b = s.press b := by
  obtain ⟨g, hg⟩ := grantReservation_eq .settlement s
  obtain ⟨m, hm⟩ := State.onLot_eq_withLots (grantReservation .settlement s) n fun l =>
    { l with reserved := true, state := .closing }
  rw [State.closingLot, hm, hg, State.withLots_press_keep, State.onNotice_press_keep, State.onStore_press_keep]

theorem pool_closingLot (s : State) (n : Nat) : (s.closingLot n).pool = s.pool := by
  obtain ⟨g, hg⟩ := grantReservation_eq .settlement s
  obtain ⟨m, hm⟩ := State.onLot_eq_withLots (grantReservation .settlement s) n fun l =>
    { l with reserved := true, state := .closing }
  rw [State.closingLot, hm, hg]
  rfl

theorem press_settleTest (m : Nat) (s : State) (b : PressId) : (settleTest m s).press b = s.press b := by
  obtain ⟨g, m, h⟩ := settleTest_eq m s
  rw [h, State.withLots_press_keep, State.onStore_press_keep]

/-- R116: the close of a lot tests the Starved press whose bale is of it. -/
theorem lotEndTestOf_of_lot (h : (s.press b).bale.map Bale.lot = some n) : lotEndTestOf n b s = lotEndTest b s := if_pos h

theorem lotEndTestOf_of_other_lot (h : (s.press b).bale.map Bale.lot ≠ some n) : lotEndTestOf n b s = s := if_neg h

/-- R116: a press that is not Starved with a bale of the lot is not tested. -/
theorem lotEndTestOf_of_not_starved (h : ∀ y, (s.press b).state = .starved → (s.press b).bale = some y → y.lot ≠ n) :
    lotEndTestOf n b s = s := by
  by_cases hlot : (s.press b).bale.map Bale.lot = some n
  · obtain ⟨y, hy, hyn⟩ := Option.map_eq_some_iff.mp hlot
    rw [lotEndTestOf_of_lot hlot, lotEndTest_of_not_starved fun hstarved => h y hstarved hy hyn]
  · exact lotEndTestOf_of_other_lot hlot

/-- R116: where one press alone can be Starved with a bale of the lot, the close of the lot tests that press. -/
theorem lotEndTestOf_both (hlot : (s.press b).bale.map Bale.lot = some n)
    (hother : ∀ a y, a ≠ b → (s.press a).state = .starved → (s.press a).bale = some y → y.lot ≠ n) :
    lotEndTestOf n .b2 (lotEndTestOf n .b1 s) = lotEndTest b s := by
  cases b with
  | b1 =>
    have hkept := press_lotEndTest_other (s := s) (b := .b1) (a := .b2) (by decide)
    rw [lotEndTestOf_of_lot hlot]
    refine lotEndTestOf_of_not_starved fun y hstarved hbale => ?_
    rw [hkept.state] at hstarved
    rw [hkept.bale] at hbale
    exact hother .b2 y (by decide) hstarved hbale
  | b2 =>
    rw [lotEndTestOf_of_not_starved (b := .b1) fun y => hother .b1 y (by decide), lotEndTestOf_of_lot hlot]

/-- R116: the close of another lot leaves a press with a bale. -/
theorem press_lotEndTestOf (a : PressId) (hbale : (s.press b).bale = some x) (hlot : x.lot ≠ n) :
    (s.press b).onlyDue ((lotEndTestOf n a s).press b) := by
  by_cases ha : b = a
  · subst ha
    rw [lotEndTestOf_of_other_lot (by rw [hbale]; exact fun h => hlot (Option.some.inj h))]
    exact .refl _
  · exact closed_ite (P := fun t => (s.press b).onlyDue (t.press b)) (press_lotEndTest_other ha) (.refl _)

theorem press_closeLot (hbale : (s.press b).bale = some x) (hlot : x.lot ≠ n) :
    (s.press b).onlyDue ((closeLot n (grantReservation .settlement s)).press b) := by
  have hsettled : (settleTest n (s.closingLot n)).press b = s.press b :=
    (press_settleTest n _ b).trans (press_closingLot s n b)
  have hclose : closeLot n (grantReservation .settlement s) =
    lotEndTestOf n .b2 (lotEndTestOf n .b1 (settleTest n (s.closingLot n))) := rfl
  rw [hclose]
  generalize settleTest n (s.closingLot n) = u at hsettled ⊢
  have hfirst := press_lotEndTestOf (s := u) (n := n) .b1 ((congrArg Press.bale hsettled).trans hbale) hlot
  have hsecond := press_lotEndTestOf (s := lotEndTestOf n .b1 u) .b2
    (hfirst.bale.trans ((congrArg Press.bale hsettled).trans hbale)) hlot
  rw [← hsettled]
  exact hfirst.trans hsecond

/-- R4: a Lot Close answers, and leaves a press with a bale of another lot but for its mark. -/
theorem exec_lotClose_other {f : Frame} (hs : s.serves f (.lotClose n)) (hbale : (s.press b).bale = some x)
    (hlot : x.lot ≠ n) : ∃ t, exec .lotClose s = .next t ∧ (s.press b).onlyDue (t.press b) := by
  have hanswered {t : State} {a : Answer} (h : lotClose n s = some (some a, t)) (hup : t.line.ownUp = s.line.ownUp)
      (hpress : (s.press b).onlyDue (t.press b)) :
      ∃ t, exec .lotClose s = .next t ∧ (s.press b).onlyDue (t.press b) :=
    ⟨_, exec_lotClose hs h hup, hpress.of_eq (press_reply t f a b)⟩
  cases hl : s.lot n with
  | none => exact hanswered (lotClose_of_none hl) rfl (.refl _)
  | some l =>
    by_cases hopen : l.state = .closing ∨ l.state = .settled
    · exact hanswered (lotClose_of_closed hl hopen) rfl (.refl _)
    by_cases hserial : s.store.nextSerial = none
    · exact hanswered (lotClose_of_unseeded hl hopen hserial) rfl (.refl _)
    cases hgrants : s.store.grants with
    | false =>
      obtain ⟨g, hg⟩ := latch_eq_onNotice srcStoreFull s
      refine hanswered (lotClose_of_full hl hopen hserial hgrants) (by rw [hg]; rfl) ?_
      rw [hg, State.onNotice_press_keep]
      exact .refl _
    | true =>
      have hkept := closeLot_closed (ownUp_agent_closed s.line.ownUp s.agent) n
        (grantReservation_closed (ownUp_agent_closed s.line.ownUp s.agent) .settlement (s := s) ⟨rfl, rfl⟩)
      have hsome := closeLot_closed (lot_isSome_closed n) n
        (grantReservation_closed (lot_isSome_closed n) .settlement (s := s) (by rw [hl]; rfl))
      obtain ⟨l', hl'⟩ := Option.isSome_iff_exists.mp hsome
      exact hanswered (lotClose_of_granted hl hopen hgrants rfl hl') hkept.1 (press_closeLot hbale hlot)

/-- R4, R116: the close of the Starved press's lot ends its fill where the lot is spent. -/
theorem exec_lotClose_starved {f : Frame} (hstate : (s.press b).state = .starved) (hbale : (s.press b).bale = some x)
    (hfill : x.fill ≠ 0) (hs : s.serves f (.lotClose x.lot)) (hl : s.lot x.lot = some l)
    (hopen : l.state = .declared ∨ l.state = .active) (hgrants : s.store.grants = true) (hbales : l.bales ≠ 0)
    (hother : ∀ a y, a ≠ b → (s.press a).state = .starved → (s.press a).bale = some y → y.lot ≠ x.lot) :
    ∃ t, exec .lotClose s = .next t ∧ s.answeredAs t f (.done [3]) ∧
      ((∀ q ∈ s.pool.records, q.2.lot = x.lot → q.2.state = .piled) →
        (t.press b).bale = some { x with endReason := some .lotEnd } ∧ (t.press b).state = .filling ∧
        (t.press b).coastStart = some s.now) ∧
      ((∃ q ∈ s.pool.records, q.2.lot = x.lot ∧ q.2.state ≠ .piled) → t.press b = s.press b) := by
  have hnot : ¬(l.state = .closing ∨ l.state = .settled) := by rcases hopen with h | h <;> simp [h]
  have hclosing := lot_closingLot hl
  have hsame : settleTest x.lot (s.closingLot x.lot) = s.closingLot x.lot :=
    settleTest_of_open hclosing fun ⟨_, _, hnone⟩ => hbales hnone
  obtain ⟨hup, hagent⟩ := settleTest_closingLot_keeps s x.lot
  rw [hsame] at hup hagent
  have hpress (a : PressId) := press_closingLot s x.lot a
  have hpool := pool_closingLot s x.lot
  have hnow : (s.closingLot x.lot).now = s.now := congrArg Clock.elapsed (clock_closingLot s x.lot)
  have hclose : closeLot x.lot (grantReservation .settlement s) = lotEndTestOf x.lot .b2 (lotEndTestOf x.lot .b1
    (settleTest x.lot (s.closingLot x.lot))) := rfl
  rw [hsame] at hclose
  generalize s.closingLot x.lot = u at hclosing hup hagent hpress hpool hnow hclose
  have hbale' : (u.press b).bale = some x := by rw [hpress, hbale]
  rw [lotEndTestOf_both (by rw [hbale', Option.map_some]) (by simpa only [hpress] using hother),
    lotEndTest_of_starved (by rw [hpress, hstate]) hbale'] at hclose
  have hspent := lotSpent_iff (s := u) x.lot
  rw [hclosing, hpool] at hspent
  by_cases hpiled : ∀ q ∈ s.pool.records, q.2.lot = x.lot → q.2.state = .piled
  · obtain ⟨o, g, hend, -⟩ := endFill_eq hbale' hfill .lotEnd
    rw [if_pos (hspent.mpr ⟨rfl, hpiled⟩)] at hclose
    have hworks := worksPresses_endFill u b .lotEnd
    have hlot : (endFill b .lotEnd u).lot x.lot = some { l with reserved := true, state := .closing } := by
      rw [hend, State.onLine_lot_keep, State.onPress_lot_keep, hclosing]
    refine ⟨_, exec_lotClose hs (lotClose_of_granted hl hnot hgrants hclose hlot) (hworks.ownUp.trans hup),
      State.answeredAs_reply f _ (hworks.ownUp.trans hup) (hworks.agent.trans hagent), fun _ => ?_,
      fun ⟨q, hq, hlot, hstill⟩ => absurd (hpiled q hq hlot) hstill⟩
    rw [press_reply, hend, State.onLine_press_keep, State.press_onPress_same, hnow]
    exact ⟨rfl, rfl, rfl⟩
  · rw [if_neg fun h => hpiled (hspent.mp h).2] at hclose
    refine ⟨_, exec_lotClose hs (lotClose_of_granted hl hnot hgrants hclose hclosing) hup,
      State.answeredAs_reply f _ hup hagent, fun h => absurd h hpiled, fun _ => ?_⟩
    rw [press_reply, hpress]

end

end Sys2Proof.Machine
end

section
namespace Sys2Proof.Machine

/-- Settles O51: a Report while the feed runs is `fillScaleUpdate_of_running` by the branches of `bookRunning` and `actOnHead`;
a Starved press takes the append of the drop's timeout (`dropTimedOut_starvedTakes`) or meets a Lot Close. -/
theorem fillReportIsBooked : Obligations.FillReportIsBooked := by
  unfold Obligations.FillReportIsBooked
  refine ⟨fun s b x pre e c u v hreport hnormal hvalue hstate hrun hbale hend hcontents hcharge => ?report, ?starved⟩
  case report =>
    intro t booked drawn ended
    have hbook : bookBale v x = booked := bookBale_eq hcontents v
    have ht : t = bookRunning b e.charge v s :=
      fillScaleUpdate_of_running hreport hnormal hvalue hstate hrun hbale hend hcontents
    have hended {w : State} {reason : FillEnd} (hw : t = w)
        (h : (bookBale v x).fill ≠ 0 → s.fillEndedAs w b (bookBale v x) reason) : ended reason := by
      rw [← hw, hbook] at h
      exact h
    have hlength : booked.contents.length = pre.length + 1 := by simp [booked]
    have hpressBooked := press_bookedRun (v := v) hbale e.charge
    rw [← hbook]
    refine ⟨fun hundrawn hbelow => ?below, fun hundrawn hreached => ?reached, fun rest hdrawn hentries hnext => ?drawn⟩
    case below =>
      rw [ht, bookRunning_undrawn_below hbale hcharge hundrawn hbelow, hpressBooked, charge_bookedRun, hcharge,
        (bookedRun_keeps s b e.charge v).2.1]
      exact ⟨rfl, rfl, hstate, hrun, rfl, rfl⟩
    case reached =>
      have hw := ht.trans (bookRunning_undrawn_reached hbale hcharge hundrawn hreached)
      refine ⟨hended hw fun hfill => endFill_bookedRun hbale hrun hfill .full, ?_⟩
      rw [hw, (pile_endFill .full b).1, hpressBooked]
    case drawn =>
      have hpress := press_retiredRun (v := v) hbale hentries
      have hpile : (t.press b).entries = rest ∧ t.charge e.charge = none := by
        rcases Nat.lt_or_ge (bookBale v x).fill.toNat (s.press b).config.target with hbelow | hreached
        · have hpile := actOnHead_pile (charge_retiredRun_same (v := v) hbale hentries) (b := b)
          rw [hpress] at hpile
          rwa [ht, bookRunning_drawn_below hbale hcharge hdrawn hentries hnext hbelow]
        · rw [ht, bookRunning_drawn_reached hbale hcharge hdrawn hentries hnext hreached]
          exact endFill_retiredRun_pile hbale hentries .full
      have hends {reason : FillEnd} (hw : t = endFill b reason (s.retiredRun b e.charge v)) : ended reason :=
        hended hw fun hfill => endFill_retiredRun hbale hentries hrun hfill reason
      refine ⟨hpile.1, hpile.2, fun hreached =>
        hends (ht.trans (bookRunning_drawn_reached hbale hcharge hdrawn hentries hnext hreached)), fun hbelow => ?_⟩
      have hact := ht.trans (bookRunning_drawn_below hbale hcharge hdrawn hentries hnext hbelow)
      have hbale' : ((s.retiredRun b e.charge v).press b).bale = some booked := by rw [hpress, hbook]
      have hfew (h : pre.length < 3) : booked.contents.length < 4 := by omega
      refine ⟨fun hfull => hends (hact.trans (actOnHead_of_full hbale' (by omega))), fun n r more hlen hrest hr => ?next,
        fun l hlen hrest hlot hclosing hbales hpiled => ?spent, fun hlen hrest hopen => ?empty⟩
      case next =>
        subst hrest
        have hr' : (s.retiredRun b e.charge v).charge n = some r := by
          rw [charge_retiredRun_other hbale hentries (hnext n rfl).1, hr]
        have hentries' : ((s.retiredRun b e.charge v).press b).entries = n :: more := by rw [hpress]
        refine ⟨fun hsame => ?_, fun hother => hends (hact.trans
          (actOnHead_of_otherLot hbale' (hfew hlen) hentries' hr' hother))⟩
        rw [hact, actOnHead_of_sameLot hbale' (hfew hlen) hentries' hr' hsame, appendContent, State.press_onBale_same, hpress,
          hr']
        refine ⟨hstate, hrun, line_retiredRun hbale hentries, ?_⟩
        rw [hbook]
        rfl
      case spent =>
        subst hrest
        exact hends (hact.trans (actOnHead_of_spent hbale' (hfew hlen) (by rw [hpress])
          (lotSpent_retiredRun hbale hentries hlot hclosing hbales hpiled)))
      case empty =>
        subst hrest
        have hstarve := hact.trans (actOnHead_of_empty hbale' (hfew hlen) (by rw [hpress])
          (lotSpent_retiredRun_false hbale hentries hopen))
        obtain ⟨hstarved, hlatched, hwaits⟩ := enterStarved_spec b (s.retiredRun b e.charge v)
        rw [hstarve, hstarved, hpress]
        refine ⟨rfl, rfl, rfl, hlatched, fun st hst => hwaits st ?_⟩
        rwa [State.bound_congr (congrArg Channels.stations (worksPresses_retiredRun s b e.charge v).chan)]
  case starved =>
    intro s b x hstate hbale hfill htables
    refine ⟨fun k d r hdrop hpile hcharge hpassed hentries => ?dropped,
      fun f l hs hl hopen hgrants hbales hother => exec_lotClose_starved hstate hbale hfill hs hl hopen hgrants hbales hother,
      fun f n hs hn => ?other⟩
    case dropped =>
      subst hpile
      exact ⟨_, exec_dropTimeout_of_passed hdrop hpassed,
        dropTimedOut_starvedTakes hdrop hcharge (bindsApart_of_tablesOk htables) hstate hbale hfill hentries⟩
    case other =>
      obtain ⟨t, hexec, w, hpress⟩ := exec_lotClose_other hs hbale hn.symm
      rw [← hstate, ← hbale]
      exact ⟨t, hexec, by rw [hpress], by rw [hpress], by rw [hpress], by rw [hpress], by rw [hpress]⟩

end Sys2Proof.Machine
end
